-- ==== Sys2Proof/Word.lean ====
section
/-! DEFINITION. Words, bit fields, byte order and the sparse store that the whole model is built from (R8). -/
namespace Sys2Proof

/-- One byte. -/
abbrev Byte := BitVec 8
/-- A 32-bit register or table word (R8). -/
abbrev W32 := BitVec 32
/-- A 64-bit value. -/
abbrev W64 := BitVec 64

/-- The field of `len` bits from bit `lo` up, as a number. -/
def fld {n : Nat} (w : BitVec n) (lo len : Nat) : Nat := (w.toNat / 2 ^ lo) % 2 ^ len

/-- One bit of a word. -/
def bit {n : Nat} (w : BitVec n) (i : Nat) : Bool := w.getLsbD i

/-- The word whose field of `len` bits from bit `lo` is `v` (modulo its width); the other bits are those of `w`. -/
def setFld (w : W32) (lo len v : Nat) : W32 :=
  let mask : W32 := BitVec.ofNat 32 ((2 ^ len - 1) * 2 ^ lo)
  (w &&& ~~~mask) ||| BitVec.ofNat 32 ((v % 2 ^ len) * 2 ^ lo)

/-- The word whose bit `i` is `b`; the other bits are those of `w`. -/
def setBit (w : W32) (i : Nat) (b : Bool) : W32 := setFld w i 1 b.toNat

/-- A mask of `len` ones from bit `lo`. -/
def mask (lo len : Nat) : W32 := BitVec.ofNat 32 ((2 ^ len - 1) * 2 ^ lo)

/-- The 32-bit word of a number, modulo 2^32. -/
abbrev w32 (n : Nat) : W32 := BitVec.ofNat 32 n

/-- A number placed at bit `lo` of a word, cut to `len` bits. -/
def at_ (lo len v : Nat) : W32 := BitVec.ofNat 32 ((v % 2 ^ len) * 2 ^ lo)

/-- A flag placed at bit `lo` of a word. -/
def atB (lo : Nat) (b : Bool) : W32 := at_ lo 1 b.toNat

/-- A number as an `k`-byte list, least significant byte first. -/
def leBytes : Nat → Nat → List Byte
  | 0, _ => []
  | k + 1, v => BitVec.ofNat 8 v :: leBytes k (v / 256)

/-- A number as a `k`-byte list in network order, most significant byte first (R8). -/
def beBytes (k v : Nat) : List Byte := (leBytes k v).reverse

/-- The number a little-endian byte list spells. -/
def ofLe : List Byte → Nat
  | [] => 0
  | b :: bs => b.toNat + 256 * ofLe bs

/-- The number a network-order byte list spells. -/
def ofBe (bs : List Byte) : Nat := ofLe bs.reverse

/-- The bytes of 32-bit words, each little-endian (R8). -/
def wordsBytes (ws : List W32) : List Byte := ws.flatMap fun w => leBytes 4 w.toNat

/-- Word `i` of a list of words, zero past its end. -/
def word (ws : List W32) (i : Nat) : W32 := ws.getD i 0

/-- Word `i` of a list of words, as a number. -/
def wordN (ws : List W32) (i : Nat) : Nat := (word ws i).toNat

/-- A field of word `i` of a list of words. -/
def wfld (ws : List W32) (i lo len : Nat) : Nat := fld (word ws i) lo len

/-- The 32-bit little-endian words that a byte list holds, the last one filled up with zero bytes; `fuel` bounds the count. -/
def bytesWords : Nat → List Byte → List W32
  | 0, _ => []
  | fuel + 1, bs => if bs.isEmpty then [] else BitVec.ofNat 32 (ofLe (bs.take 4)) :: bytesWords fuel (bs.drop 4)

/-- `len` bytes of a list from offset `off`; bytes past the end read as zero. -/
def slice (bs : List Byte) (off len : Nat) : List Byte :=
  let t := (bs.drop off).take len
  t ++ List.replicate (len - t.length) 0

/-- A byte list with the bytes from offset `off` replaced by `v`; bytes that fall past the end are dropped. -/
def patch (bs : List Byte) (off : Nat) (v : List Byte) : List Byte :=
  (bs.take off ++ v ++ bs.drop (off + v.length)).take bs.length

/-- A number limited to the largest 32-bit value, as the saturating counters are. -/
def sat32 (n : Nat) : Nat := min n 0xFFFFFFFF

/-- A saturating addition at `2 ^ k - 1`. -/
def satAdd (k a b : Nat) : Nat := min (a + b) (2 ^ k - 1)

/-! ### Sparse stores: lists of key and value, keys strictly rising, no entry equal to the default. -/

/-- A sparse store: what it lists at a key, or the default. -/
def mget {α : Type} (d : α) : List (Nat × α) → Nat → α
  | [], _ => d
  | (k, v) :: m, a => if a = k then v else mget d m a

/-- The store without key `a`. -/
def merase {α : Type} (m : List (Nat × α)) (a : Nat) : List (Nat × α) := m.filter fun e => e.1 != a

/-- The store with `v` at key `a`, keys still in rising order. -/
def minsert {α : Type} : List (Nat × α) → Nat → α → List (Nat × α)
  | [], a, v => [(a, v)]
  | (k, w) :: m, a, v =>
    if a < k then (a, v) :: (k, w) :: m
    else if a = k then (a, v) :: m
    else (k, w) :: minsert m a v

/-- Write `v` at key `a` of a store whose unlisted keys read as `d`: writing the default removes the entry. -/
def mset {α : Type} [DecidableEq α] (d : α) (m : List (Nat × α)) (a : Nat) (v : α) : List (Nat × α) :=
  if v = d then merase m a else minsert m a v

/-- Change the value at a key. -/
def mmod {α : Type} [DecidableEq α] (d : α) (m : List (Nat × α)) (a : Nat) (f : α → α) : List (Nat × α) :=
  mset d m a (f (mget d m a))

/-- Keys strictly rising. -/
def sortedKeys {α : Type} : List (Nat × α) → Bool
  | [] => true
  | [_] => true
  | (a, _) :: (b, w) :: m => decide (a < b) && sortedKeys ((b, w) :: m)

/-- The canonical form of a sparse store with default `d`. -/
def mwf {α : Type} [DecidableEq α] (d : α) (m : List (Nat × α)) : Bool :=
  sortedKeys m && m.all fun e => e.2 != d

/-! ### Small list tools. -/

/-- Replace element `i` of a list. -/
def lset {α : Type} (l : List α) (i : Nat) (v : α) : List α := l.set i v

/-- Fold a state through the numbers `0 … n-1`. -/
def foldN {σ : Type} : Nat → (Nat → σ → σ) → σ → σ
  | 0, _, s => s
  | n + 1, f, s => f n (foldN n f s)

/-- The CRC-32C register after one bit of a byte has been shifted through (polynomial 0x1EDC_6F41, reflected). -/
def crcStep (c : W32) : W32 := if c.getLsbD 0 then (c >>> 1) ^^^ 0x82F63B78#32 else c >>> 1

/-- The CRC-32C register after one byte. -/
def crcByte (c : W32) (b : Byte) : W32 :=
  crcStep (crcStep (crcStep (crcStep (crcStep (crcStep (crcStep (crcStep (c ^^^ b.zeroExtend 32))))))))

/-- CRC-32C of a byte list started from `init` (before the usual inversion) with the usual final inversion. -/
def crc32cFrom (init : W32) (bs : List Byte) : W32 := ~~~(bs.foldl crcByte (~~~init))

/-- CRC-32C of a byte list (R10, R97). -/
def crc32c (bs : List Byte) : W32 := crc32cFrom 0 bs

end Sys2Proof
end

