-- ==== Sys2Proof/Machine/SystemTypes.lean ====
section
/-! DEFINITION. The plain data of the HBM controllers, the update agent with its flash and fuses, the SPDM responder, and the power sequencer with the rails (chapters 15, 18, 21, 22). -/
namespace Sys2Proof.Machine

/-- A trained byte lane (R347, R358): read and write delay, read and write passing range, in steps. -/
structure HLane where
  rd : Byte := 0
  wr : Byte := 0
  rr : Byte := 0
  wrr : Byte := 0
  deriving DecidableEq, Repr

/-- The HBM controllers beside their registers (chapter 15). -/
structure HbmSt where
  /-- Byte lanes by stack × 256 + lane. -/
  lanes : List (Nat × HLane) := []
  /-- Open rows by stack × 1,024 + pseudo-channel × 16 + bank (R352). -/
  rows : List (Nat × Nat) := []
  /-- Refresh intervals that a bank's last refresh was postponed by (positive) or pulled in by (negative), by the same key (R354). -/
  owed : List (Nat × Int) := []
  /-- The error log, newest first, four words an entry (R359). -/
  log : List (List W32) := []
  /-- Readings in a row with every stack below the present step's threshold less HYST (R354). -/
  cool : Nat := 0
  /-- Stacks that a reading at or above T3 keeps out of placement (R354). -/
  hot : List Nat := []
  /-- Stacks that have given a valid reading. -/
  seen : List Nat := []
  /-- Readings in a row at or above HBM_TSHUT, by stack (R475). -/
  shut : List (Nat × Nat) := []
  /-- Bytes of the host area that have been written, by HBM address (R342); an unlisted byte holds no value. -/
  mem : List Host.Cell := []
  /-- How often each stack has been trained: what its unwritten bytes hold changes with it (R347). -/
  gen : List (Nat × Nat) := []
  deriving DecidableEq, Repr

/-- A flash slot (R408, R409). -/
structure FlashSlot where
  image : List Byte := []
  kind : Nat := 0
  sec : Nat := 0
  digest : List Byte := []
  commit : Bool := false
  verified : Bool := false
  invalid : Bool := false
  deriving DecidableEq, Repr

/-- A settings record (R415): type, format, key within the type, sequence number, payload; a removal mark; whether its tag fails. -/
structure Setting where
  type : Nat
  fmt : Nat
  key : Nat
  seq : Nat
  data : List Byte
  removal : Bool := false
  bad : Bool := false
  deriving DecidableEq, Repr

/-- A boot record (R418) without MAGIC, CRC and COMMIT. -/
structure BootRec where
  seq : Nat := 0
  fwActive : Nat := 0
  fwTrialSlot : Nat := 0
  fwTrial : Bool := false
  fwAttempts : Nat := 0
  bookActive : Nat := 0
  bookTrialSlot : Nat := 0
  bookTrial : Bool := false
  bookAttempts : Nat := 0
  settings : Nat := 0
  fmtConfirmed : Nat := 0
  fmtTrial : Nat := 0
  deriving DecidableEq, Repr

/-- A crash-log entry (R424). -/
structure Crash where
  seq : Nat
  complex : Nat
  cause : Nat
  ns : Nat
  sec : Nat
  payload : List Byte
  deriving DecidableEq, Repr

/-- The update agent, its flash and fuses, and the SPDM responder (chapter 18). -/
structure UpdSt where
  /-- Slots 0 FW0, 1 FW1, 2 BOOK0, 3 BOOK1 that differ from erased ones. -/
  slots : List (Nat × FlashSlot) := []
  boot : BootRec := {}
  /-- The two settings stores, oldest record first. -/
  store0 : List Setting := []
  store1 : List Setting := []
  crash : List Crash := []
  crashSeq : Nat := 0
  /-- Local times of the crash entries of the last hour, and of settings bytes appended: time and bytes. -/
  crashAt : List Nat := []
  appended : List (Nat × Nat) := []
  /-- Settings records that wait for the append rate (R416). -/
  waiting : List Setting := []
  /-- Fuses: the floors and the revoked firmware keys (R412). -/
  fwFloor : Nat := 0
  bookFloor : Nat := 0
  revoked : Nat := 0
  /-- The command in progress: its word, and the CODE it will end with. -/
  cmd : W32 := 0
  code : Nat := 0
  /-- What a running command carries to its completion: an image, or a record. -/
  work : List Byte := []
  /-- Activation (R422): 0 none, 1 waiting for SYNCED, 2 handover scheduled, 3 former Lead restarting; the slot; whether it falls back; refusals of the handover; the local time of its step's start. -/
  phase : Nat := 0
  slot : Nat := 0
  back : Bool := false
  refusals : Nat := 0
  stepAt : Nat := 0
  /-- A command waits for a complex to lead (R421). -/
  held : Bool := false
  /-- A boot ROM has filled the slot, boot and floor registers since reset. -/
  filled : Bool := false
  /-- The book slot that the last cold boot chose (R419). -/
  bookSlot : Nat := 0
  /-- SPDM (R426): 0 none, 1 version, 2 capabilities, 3 algorithms agreed; the messages of that agreement, those that a challenge covers after them, and those that signed measurements cover. -/
  spdm : Nat := 0
  spdmA : List Byte := []
  spdmB : List Byte := []
  spdmL : List Byte := []
  deriving DecidableEq, Repr

/-- The power sequencer, thermal supervision and the rails beside their registers (chapters 21, 22). -/
structure PwrSt where
  /-- Domains in transition: turning on or off (R467). -/
  goal : List (Nat × Bool) := []
  /-- Stacks whose HBM_PG is high (R488). -/
  pg : List Nat := []
  /-- Valid samples in a row at or above TSHUT, by die (R475). -/
  hotF : Nat := 0
  hotT : Nat := 0
  /-- The hottest sample was at or above WARN (R474). -/
  warmF : Bool := false
  warmT : Bool := false
  /-- Rails below their minimum now, by the bit of PWR_RAIL_STATUS; 7 VDD_CCA, 8 VDD_CCB (R489). -/
  low : List Nat := []
  /-- The stop ends only by a device reset (R475, R489, R495). -/
  hardStop : Bool := false
  /-- An F-die reset is running (R471). -/
  fDie : Bool := false
  /-- The Lead has begun the installation of step 10 (R472). -/
  installing : Bool := false
  deriving DecidableEq, Repr

end Sys2Proof.Machine
end

