-- ==== Sys2Proof/Machine/TableTypes.lean ====
section
/-! DEFINITION. The replicated tables of the F-die, the learn filter, watches, and the T-die's replication tables as plain data (chapters 09, 10, 14). -/
namespace Sys2Proof.Machine

/-- An exact-match entry (R209, R222): key left-aligned in 128 bits, DATA, PROG_OFF, STATIC, HIT, GEN. -/
structure ExmEnt where
  key : Nat
  data : Nat
  prog : Nat
  static : Bool
  hit : Bool
  gen : Bool
  deriving DecidableEq, Repr

/-- An associative-search entry (R234): VALUE and CARE units of 160 bits, VALID, EPOCH_MASK, PROG_OFF, DATA. -/
structure AcsEnt where
  value : List Nat := []
  care : List Nat := []
  valid : Bool := false
  mask : Nat := 0
  prog : Nat := 0
  data : Nat := 0
  deriving DecidableEq, Repr

/-- One region's replica (R29). Routes are keyed by ((KEYSRC × 2^32 + PREFIX) × 256 + LEN) × 2^128 + ADDR and hold NH and PROG_OFF; exact-match slots by (table × 4 + way) × 2^20 + slot; associative-search entries by bank × 4,096 + index. -/
structure Rep where
  routes : List (Nat × (Nat × Nat)) := []
  nh : List (Nat × List W32) := []
  ecmp : List (Nat × List W32) := []
  members : List (Nat × W32) := []
  exm : List (Nat × ExmEnt) := []
  acs : List (Nat × AcsEnt) := []
  /-- Entries marked unreadable (R432), by `badKey`. -/
  bad : List Nat := []
  deriving DecidableEq, Repr

/-- A table-work command (R208) beside its OP: the ring, bits [31:8] of word 0, TAG, and words 2–15 (a word past the list's end is 0). -/
structure TwCmd where
  ring : Fin 32
  hi : BitVec 24
  tag : W32
  w : List W32
  deriving DecidableEq, Repr

/-- A table-work command whose OP byte has no row of its own: NOP's 0x3F, or an OP that names no operation (R210). -/
structure OtherTwCmd where
  c : TwCmd
  op : BitVec 8
  deriving DecidableEq, Repr

/-- A table in dual-seed mode (R223): the target seed, the ring and tag of the command that started it, whether the last pass moved anything. -/
structure Rehash where
  target : W32
  ring : Nat
  tag : W32
  /-- Keys tried in the present pass, and whether one of them moved. -/
  tried : List Nat := []
  moved : Bool := false
  deriving DecidableEq, Repr

/-- A learn-filter entry (R225). -/
structure LearnEnt where
  table : Nat
  key : Nat
  src : Nat
  time : Nat
  moved : Bool
  deriving DecidableEq, Repr

/-- Tables beside the replicas (chapters 09, 10, 14). -/
structure TblSt where
  /-- Local watches live, latched, and when they revert to live (R217, R218); host watches dead. -/
  live : List Nat := []
  latched : List Nat := []
  revertAt : List (Nat × Nat) := []
  /-- Local time of each port's latest up declaration. -/
  upAt : List (Nat × Nat) := []
  hostDead : List Nat := []
  /-- Active seeds that are not the book's default, and tables in dual-seed mode (R223). -/
  seeds : List (Nat × W32) := []
  rehash : List (Nat × Rehash) := []
  /-- Tables whose active seed has the GEN bit 1 (R223). -/
  gens : List Nat := []
  filter : List LearnEnt := []
  /-- The millisecond of local time in which candidates are being counted, and their number (R225). -/
  rateMs : Nat := 0
  rateN : Nat := 0
  learnCap : Option (Nat × Nat) := none
  /-- Assembly buffers by ring × 4 + unit: VALUE and CARE (R237). -/
  asm : List (Nat × (Nat × Nat)) := []
  /-- The step search: key, table, region, epoch as captured, and the position last returned (R240). -/
  stepKey : List Byte := []
  stepTable : Nat := 0
  stepRegion : Nat := 0
  stepEpoch : Nat := 0
  stepLast : Option (Nat × Nat × Nat) := none
  stepOn : Bool := false
  /-- The latest valid samples of the array sensors since the step last changed, newest first, at most ten: 1 ms of them (R242). -/
  cools : List Nat := []
  /-- Local time at which the throttle step was last set (R244). -/
  stepAt : Nat := 0
  /-- Group table, replica pool, mirror sessions (R318–R321), two words each. -/
  groups : List (Nat × List W32) := []
  pool : List (Nat × List W32) := []
  mirrors : List (Nat × List W32) := []
  deriving DecidableEq, Repr

end Sys2Proof.Machine
end

