-- ==== Sys2Proof/Machine/Types.lean ====
section
/-! DEFINITION. The plain data of the blocks outside the packet path: requesters, outputs, clock, cues, rings, the Call, integrity, line ports, framer, cipher. -/
namespace Sys2Proof.Machine

/-- The variants (R1). -/
inductive Variant | a | c | s
  deriving DecidableEq, Repr

/-- The requesters of the register fabric (R53). -/
inductive Req | host | ccA | ccB
  deriving DecidableEq, Repr

/-- The address spaces a register access can name: BAR0 (R41), the BAR4 page (R460), the configuration space (R361). -/
inductive Space | bar0 | bar4 | config
  deriving DecidableEq, Repr

/-- One register access as it arrives (R46): the requester, the space, the byte offset, the length in bytes and whether every byte enable is set. -/
structure Access where
  req : Req
  space : Space
  addr : BitVec 28
  len : Fin 9
  full : Bool
  deriving DecidableEq, Repr

/-- The ticket (R197), field by field. -/
structure Ticket where
  epoch : BitVec 4 := 0
  tc : BitVec 3 := 0
  colour : BitVec 2 := 0
  untrusted : Bool := false
  prot : BitVec 2 := 0
  dkind : BitVec 2 := 0
  mirror : BitVec 4 := 0
  frameLen : BitVec 14 := 0
  dst : W32 := 0
  eqValid : Bool := false
  eq : BitVec 17 := 0
  srcPort : BitVec 8 := 0
  voq : BitVec 17 := 0
  flowHash : W32 := 0
  tsNs : W32 := 0
  tsSec : W32 := 0
  reason : BitVec 8 := 0
  nhValid : Bool := false
  nhIndex : BitVec 20 := 0
  /-- Ticket bytes 32–63, the action results. -/
  res : List Byte := List.replicate 32 0
  deriving DecidableEq, Repr

/-- What a fabric message that this device sends says (R302); its SRC_DEV is the device ID. -/
inductive FabMsg
  | request (voq : Nat) (on : Bool) (port tc : Nat)
  | grant (voq port : Nat)
  | revoke (voq port : Nat)
  deriving DecidableEq, Repr

/-- The header words of a control slot before its CRC word (R300). -/
structure SlotHdr where
  w0 : W32
  w1 : W32
  w2 : W32
  deriving DecidableEq, Repr

/-- What a fabric lane's receiver finds wrong (R310): loss of lock, the FEC's high-SER condition, a control slot that did not come. -/
inductive LaneLoss | lock | highSer | missedSlot
  deriving DecidableEq, Repr

/-- A read of packet data ahead of its dequeue (R253): the predicted time to the dequeue in ns, and whether the read meets an uncorrectable error. -/
structure PrePull where
  ahead : BitVec 16
  err : Bool
  deriving DecidableEq, Repr

/-- A 64B/66B block of the client stream (R144): start with 7 bytes, 8 data bytes, terminate with up to 7 bytes, idle, remote fault. -/
inductive Block
  | start (b : List Byte)
  | data (b : List Byte)
  | term (b : List Byte)
  | idle
  | remoteFault
  deriving DecidableEq, Repr

/-- What the ODUCn carries (R143, R144): the client's blocks in slots 0 to `slots` − 1 with zeros in the others, or a maintenance signal's repeated byte. -/
inductive OduBody
  | client (slots zeroSlots : Nat) (blocks : List Block)
  | pattern (b : Byte)
  deriving DecidableEq, Repr

/-- An OTUC frame sent, with the FlexO overhead of its lanes (R132): lists by slice or by lane; the fields of R132's table that are zero, or fixed, hold that. -/
structure OtuSent where
  omfi : Byte
  gid : BitVec 20
  pids : List Byte
  mfas : Byte
  smTti : Byte
  smBip : List Nat
  smBei : List Nat
  smBdi : Bool
  pmTti : Byte
  pmBip : List Nat
  pmBei : List Nat
  pmBdi : Bool
  pmStat : BitVec 3
  /-- PSI: the payload type in frame 0 of a multiframe; the slot count that its MSI allocates. -/
  pt : Option Byte
  slots : Nat
  /-- GCC0, GCC1, GCC2, FCC. -/
  gcc : List (List Byte)
  body : OduBody
  /-- SM IAE and BIAE; OSMC, RES and the FlexO reserved bits; TCM1–TCM6, FTFL, APS/PCC, EXP; ODUflex overhead and its PM STAT. -/
  iae : Bool := false
  biae : Bool := false
  osmc : Byte := 0
  res : Byte := 0
  tcm : List Byte := [0, 0, 0, 0, 0, 0]
  ftfl : Byte := 0
  apsPcc : Byte := 0
  exp : Byte := 0
  oduflex : Byte := 0
  oduflexStat : BitVec 3 := 1
  deriving DecidableEq, Repr

/-- What the device sends to the outside, in the order in which it is sent (log entry 2). -/
inductive Out
  /-- A read completion with data. -/
  | readData (req : Req) (v : W64)
  /-- Unsupported Request, and Completer Abort. -/
  | unsupported (req : Req) (write : Bool)
  | abort (req : Req) (write : Bool)
  /-- The XSPI balls go to high impedance, for a board-level programmer (R419). -/
  | flashReleased
  /-- The error response of a fenced write on the T-die fabric (R400). -/
  | fenced (req : Req)
  /-- Posted writes and reads to host memory, and MSI-X messages (R369, R378). -/
  | hostWrite (addr : Nat) (data : List Byte) (relaxed ido : Bool)
  | hostRead (addr len : Nat)
  | msix (addr : Nat) (data : W32)
  /-- A PM_PME message, and the level of WAKE_N (R368). -/
  | pmPme
  | wakeN (low : Bool)
  /-- A completion of a peer-window read, a peer TLP answered with Unsupported Request, and a peer read answered with Completer Abort (R355, R374). -/
  | peerData (data : List Byte)
  | peerRefused
  | peerAbort
  /-- A frame on a line port, FCS included, or a frame ended with an error control block (R169). -/
  | frame (port : Nat) (data : List Byte)
  | frameAborted (port : Nat) (data : List Byte)
  /-- A flit of the Dovetail sent again, on a bundle with its crossing bytes, and a replay request (R16). -/
  | flitResend (dir bundle seq : Nat) (data : List Byte)
  | replayRequest (dir seq : Nat)
  /-- A cell on a fabric lane (R296), and a control message to a device (R302). -/
  | cell (lane : Nat) (hdr : List W32) (data : List Byte)
  | fabMsg (dev : Nat) (m : FabMsg)
  /-- A pulse of PPS_OUT and of TABLEAU_OUT, and characters on TOD_OUT (R70, R92). -/
  | ppsOut
  | tableauOut
  | todOut (data : List Byte)
  /-- An OTUC frame of a FlexO port (R132, R140, R143, R144, R147). -/
  | otuFrame (port : Nat) (f : OtuSent)
  /-- A port begins or ceases to send remote fault (R113, R137). -/
  | remoteFault (port : Nat) (on : Bool)
  /-- Received data that a port in LOOP 2 sends back, retimed; whether its FCS held (R116). -/
  | retimed (port : Nat) (data : List Byte) (fcsOk : Bool)
  /-- Cage power enable, and bytes on an I2C master (R386, R389). -/
  | cagePwren (cage : Nat) (on : Bool)
  | i2c (master : Nat) (addr : Nat) (data : List Byte) (readLen : Nat)
  /-- HBM_EN of a stack (R467). -/
  | hbmEn (stack : Nat) (on : Bool)
  /-- The payload of a DOE response object (R362, R426). -/
  | doe (data : List Byte)
  /-- The header words of the control slots that a fabric lane sends from now on (R300, R301). -/
  | ctrlSlot (lane : Nat) (hdr : List W32)
  /-- A reachability message on a fabric lane, as its four words (R302, R314). -/
  | reachMsg (lane : Nat) (words : List W32)
  deriving DecidableEq, Repr

/-- The armings of TOP_UNLOCK, one for each requester (R63). -/
structure Arming where
  host : Bool := false
  ccA : Bool := false
  ccB : Bool := false
  deriving DecidableEq, Repr

/-- A cue slot (R74, R78): the four words and the slot state, 0 empty to 5 voided. -/
structure CueSlot where
  w0 : W32 := 0
  w1 : W32 := 0
  w2 : W32 := 0
  w3 : W32 := 0
  state : Fin 6 := 0
  deriving DecidableEq, Repr

/-- A strobe group (R82–R84): whether it is applying, the tick of the firing that applies, the firings that wait. -/
structure Group where
  applying : Bool := false
  tick : Nat := 0
  waiting : Nat := 0
  deriving DecidableEq, Repr

/-- An old value that is held while a firing applies (R82): the group, the firing's tick, the store (0 registers, 1 objects), the key and the value. -/
structure OldVal where
  group : Nat
  tick : Nat
  key : Nat
  reg : W32
  deriving DecidableEq, Repr

/-- The old words of a staged object while a firing applies (R82). -/
structure OldObj where
  group : Nat
  tick : Nat
  key : Nat
  words : List W32
  deriving DecidableEq, Repr

/-- The Cue Clock and the Cue Engine (chapter 03) beside their registers. -/
structure CueSt where
  /-- The Cue Clock at the latest tick (R67). -/
  sec : Nat := 0
  ns : Nat := 0
  /-- Ticks so far, and the local timer in ns that steps and slews do not affect (R88, R392). -/
  tickNo : Nat := 0
  localNs : Nat := 0
  /-- The rate offset in force (R69). -/
  freq : W32 := 0
  /-- What a slew still has to absorb, signed, in units of 0.0001 ns (R69). -/
  slew : Int := 0
  /-- A step that waits for its tick, and one whose mailbox write is not complete (R69). -/
  step : Option (Nat × Nat) := none
  stepLoad : Option (Nat × Nat) := none
  /-- The latest PPS_IN edge and the edge count (R73). -/
  ppsSec : Nat := 0
  ppsNs : Nat := 0
  ppsCount : Nat := 0
  /-- TOD_IN and TOD_OUT characters (R70): those written since the latest PPS_OUT edge, and those that were written before it and are due. -/
  todIn : List Byte := []
  todOut : List Byte := []
  todDue : List Byte := []
  /-- Consecutive passing oscillator windows, and whether SYS_REFCLK has stopped (R72). -/
  oscPass : Nat := 0
  refclkLost : Bool := false
  /-- Slots that are not in their reset value. -/
  slots : List (Nat × CueSlot) := []
  /-- Strobe groups not idle; firings requested through the register for the next tick (R84). -/
  groups : List (Nat × Group) := []
  fireReq : List Nat := []
  oldRegs : List OldVal := []
  oldObjs : List OldObj := []
  /-- Strobe-map writes that wait for an application to complete (R49): block and register value. -/
  mapWaits : List (Nat × W32) := []
  /-- Epoch commands for the next tick: OP and EPOCH (R85, R87). -/
  epochCmds : List (Nat × Nat) := []
  /-- Local time of the tick at which the retiring epoch became retiring (R88). -/
  retireFrom : Nat := 0
  /-- House counts: all copies, and those under the fabric hold (R86). -/
  house : List (Nat × Nat) := []
  houseFab : List (Nat × Nat) := []
  /-- The counts of the F-die and of the T-die, by epoch, as exchanged at the latest tick (R33). -/
  houseX : List (Nat × (Nat × Nat)) := []
  deriving DecidableEq, Repr

/-- The tableau distributor (R92): triggers that wait for their tick. -/
structure TabSt where
  regReq : Bool := false
  /-- Local times of TABLEAU_IN edges not yet latched. -/
  pinReq : List Nat := []
  /-- Cue Clock time of the held tableau. -/
  sec : Nat := 0
  ns : Nat := 0
  deriving DecidableEq, Repr

/-- What a ring took at its enable, and its moderation (R377, R378). -/
structure RingSt where
  base : Nat := 0
  wb : Nat := 0
  log2 : Nat := 6
  /-- Entries finished since the ring last raised its vector. -/
  fresh : Nat := 0
  /-- Receive: descriptors fetched and not used (address and length). -/
  desc : List (Nat × Nat) := []
  /-- Entries whose read is outstanding. -/
  reading : Nat := 0
  /-- Entries whose read was outstanding when the ring stopped: its completion is discarded (R370). -/
  late : Nat := 0
  /-- Table-work: completions in ring order that are not written yet, each 0 when it is ready, or 1 + the table whose rehash it waits for (R223, R383). -/
  held : List (Nat × List W32) := []
  deriving DecidableEq, Repr

/-- A mailbox operation in progress (R59–R61): what it will answer. -/
structure MbxOp where
  /-- Host software started it (R372). -/
  host : Bool := true
  ecode : Nat
  words : List W32
  tag : Nat
  write : Bool
  deriving DecidableEq, Repr

/-- The PCI Express function beside its BAR0 registers (chapter 16). -/
structure PciSt where
  busMaster : Bool := false
  memSpace : Bool := false
  /-- D3hot (true) or D0. -/
  d3hot : Bool := false
  pmeEn : Bool := false
  pmeStatus : Bool := false
  /-- MSI-X Enable and Function Mask. -/
  msixEn : Bool := false
  msixMask : Bool := false
  relaxedEn : Bool := true
  idoEn : Bool := false
  /-- Link: 0 down, 1 L0, 2 L1, 3 L2. -/
  link : Fin 4 := 0
  perst : Bool := true
  /-- PERST_N has been released once. -/
  released : Bool := false
  flr : Bool := false
  /-- An SPDM request that waits in the DOE mailbox for a Lead: the whole message (R362, R426). -/
  doeWait : Option (List Byte) := none
  /-- Other configuration registers that software wrote, by dword offset. -/
  cfg : List (Nat × W32) := []
  /-- MSI-X table words that differ from reset, keyed by 4 × vector + word, and pending vectors. -/
  msix : List (Nat × W32) := []
  pba : List Nat := []
  deriving DecidableEq, Repr

/-- An I2C master (R389): the host's transaction in progress. -/
structure I2cSt where
  busy : Bool := false
  cmd : W32 := 0
  deriving DecidableEq, Repr

/-- The control complexes beside the CCX registers (chapter 17). -/
structure CcxSt where
  /-- A lease is held and counts down; LEASE_US is computed from its start in local time. -/
  leaseFrom : Nat := 0
  /-- The complex's cores run (CC-A, CC-B). -/
  runA : Bool := false
  runB : Bool := false
  /-- The firmware slots that the complexes run (R427). -/
  slotA : Nat := 0
  slotB : Nat := 0
  /-- Aging passes after a takeover clear HIT only: tables whose first pass is still to come (R404). -/
  agingFirst : List Nat := []
  deriving DecidableEq, Repr

/-- The integrity collector (chapter 19). -/
structure IntSt where
  /-- The latest 1,024 entries, newest first, eight words each. -/
  log : List (List W32) := []
  /-- Detections of the last second: class, unit, local time. -/
  recent : List (Nat × Nat × Nat) := []
  /-- Units isolated alone, by unit code (R441). -/
  units : List Nat := []
  /-- Consecutive failing runs of probe cluster × 8 + p. -/
  probeFails : List (Nat × Nat) := []
  /-- Epochs reported without probe coverage, as cluster × 16 + epoch. -/
  noCover : List Nat := []
  /-- Tables loaded, as region × 128 + table (R433). -/
  loaded : List Nat := []
  /-- Segments whose digests differed once: table × 4096 + segment (R434). -/
  differ : List Nat := []
  /-- Last comparisons of FIB object 0x04: table × 4096 + segment, four words (R465). -/
  digests : List (Nat × List W32) := []
  deriving DecidableEq, Repr

/-- A counter of the Counter Hub: value, period, lost samples, local time of the last record (R454–R459). -/
structure PmcCtr where
  value : Nat := 0
  period : Nat := 2 ^ 32
  lost : Nat := 0
  last : Option Nat := none
  deriving DecidableEq, Repr

/-- A cached delta of a statistics pair (R449). -/
structure StaDelta where
  packets : Nat
  bytes : Nat
  since : Nat
  deriving DecidableEq, Repr

/-- The statistics engine (chapter 20). -/
structure StaSt where
  hbm : List (Nat × (Nat × Nat)) := []
  cache : List (Nat × StaDelta) := []
  invalid : List Nat := []
  /-- The training count of each stack when its statistics were last zeroed: a stack trained since holds undefined counts (R347). -/
  gens : List (Nat × Nat) := []
  /-- ALLOC and SNAP in force (R446). -/
  alloc : Nat := 0
  snap : Nat := 0
  copying : Bool := false
  deriving DecidableEq, Repr

/-- A Rate Follow step in progress (R126, R127). -/
structure RfStep where
  slots : Nat
  old : Nat
  /-- An increase. -/
  up : Bool
  revert : Bool
  expectRx : Bool
  expectSlots : Nat
  /-- T + GAP and T, in local ns. -/
  gapAt : Nat
  start : Nat
  /-- 0 begun, 1 announced, 2 slots changed, 3 only EXPECT_RX outstanding, 4 reverting (not announced), 5 reverting (announced). -/
  phase : Nat
  /-- Local time of B1 and B2. -/
  b1 : Nat := 0
  b2 : Nat := 0
  /-- The BDI watch goes on (R127, R129). -/
  watch : Bool := true
  deriving DecidableEq, Repr

/-- An OTUC frame as a FlexO port receives it (R132–R147): lane conditions, FlexO overhead, the phases at which the FAS pattern stands in this frame period, and the fields at the aligned position. -/
structure OtuFrame where
  /-- Some lane has been without LOCK for 1 µs; all lanes have been locked for 100 µs (R137). -/
  lockLost : Bool := false
  lockHeld : Bool := true
  /-- Of each lane of the port, the phases at which the common-marker bits stand in this frame period; the skew is within 300 ns. -/
  markers : List (List Nat) := []
  skewOk : Bool := true
  omfi : Byte := 0
  crcErrors : Nat := 0
  gid : BitVec 20 := 0
  pid : Byte := 0
  phases : List Nat := []
  mfas : Byte := 0
  allOnes : Bool := false
  smTti : Byte := 0
  pmTti : Byte := 0
  smBip : List Byte := []
  pmBip : List Byte := []
  smBei : List Nat := []
  pmBei : List Nat := []
  smBdi : Bool := false
  pmBdi : Bool := false
  stat : BitVec 3 := 1
  /-- The OPUC area of each slice. -/
  opuc : List (List Byte) := []
  psi : Byte := 0
  gcc : List (List Byte) := []
  deriving DecidableEq, Repr

/-- The instructions of the test access port (R495). -/
inductive Tap | bypass | idcode | samplePreload | extest | clamp | highz | extestPulse | extestTrain
  deriving DecidableEq, Repr

/-- An error that a pass of the SRAM scrub meets (R431, R443), each with memory index and syndrome: correctable in a unit; uncorrectable in an entry of a region's replica, named by its kind and position; uncorrectable or parity in other state of a unit. -/
inductive SramErr
  | correctable (unit : W32) (index syndrome : W32)
  | entry (region : Fin 2) (kind : Fin 6) (pos : Nat) (index syndrome : W32)
  | other (unit : W32) (index syndrome : W32)
  deriving DecidableEq, Repr

/-- A line port beside its registers (chapter 05). -/
structure PortSt where
  /-- Down causes that hold now, as bits by CAUSE code. -/
  causes : W32 := 0
  /-- Transmit stamps: ns, sec, tag; oldest first (R119). -/
  stamps : List (Nat × Nat × Nat) := []
  step : Option RfStep := none
  /-- The Rate Follow cap in slots (R122). -/
  cap : Nat := 0
  /-- A request of the Lead that waits (R130). -/
  waiting : Option Nat := none
  /-- The modem's last count read (R130). -/
  modem : Option Nat := none
  /-- The receive slot identifier seen through the last multiframe (R123). -/
  rxSeen : Option Nat := none
  /-- Remote fault is being sent (R113, R137). -/
  remoteFault : Bool := false
  /-- What a step that timed out leaves on the line: the slot count announced, and the slots added (R128). -/
  told : Option Nat := none
  added : Option Nat := none
  /-- A decrease has removed its slots, and BDI raised by the far receiver is still its failure (R126). -/
  bdiWatch : Bool := false
  deriving DecidableEq, Repr

/-- A hunt candidate: phase and confirmations (R134). -/
structure Cand where
  phase : Nat
  hits : Nat
  deriving DecidableEq, Repr

/-- A hunt for a pattern, of one lane or of the FAS (R134, R135): the phase of its alignment once confirmed, the candidates, the phases rejected in the last frame period, the run of errored frames. -/
structure Hunt where
  phase : Option Nat := none
  cands : List Cand := []
  excluded : List Nat := []
  err : Nat := 0
  deriving DecidableEq, Repr

/-- A trail-trace receiver: the bytes of the multiframe being received, the last whole one, how often it came, the accepted one (R139). -/
structure TtiRx where
  cur : List Byte := []
  last : List Byte := []
  times : Nat := 0
  accepted : Option (List Byte) := none
  deriving DecidableEq, Repr

/-- A channel record being collected (R146). -/
structure GccRx where
  bytes : List Byte := []
  /-- The MFAS of the frame that carried each byte (R145). -/
  mfas : List Nat := []
  discont : Bool := false
  deriving DecidableEq, Repr

/-- A framer instance beside its registers (chapter 06). -/
structure OtfSt where
  /-- The marker hunt of each lane, and the FAS hunt. -/
  lanes : List Hunt := []
  fas : Hunt := {}
  mfLocked : Bool := false
  mfErr : Nat := 0
  mfGood : Nat := 0
  mfas : Nat := 0
  omfi : Nat := 0
  foErr : Nat := 0
  foGood : Nat := 0
  aisRun : Nat := 0
  aisOff : Nat := 0
  stat : Nat := 0
  statRun : Nat := 0
  statOff : Nat := 0
  bdiSmOn : Nat := 0
  bdiSmOff : Nat := 0
  bdiPmOn : Nat := 0
  bdiPmOff : Nat := 0
  ttiSm : TtiRx := {}
  ttiPm : TtiRx := {}
  ptLast : Nat := 0
  ptTimes : Nat := 0
  /-- The last MSI accepted is applicable (R142); none before one is accepted. -/
  msiOk : Option Bool := none
  /-- BIP-8 computed over the last two frames, per slice: older first (R140). -/
  bips : List (List Nat) := []
  /-- Violations waiting to be sent as BEI of SM and of PM, per slice, oldest first (R140). -/
  bei : List (List Nat × List Nat) := []
  /-- The four receive records and the four transmit buffers (R146, R147). -/
  gccRx : List GccRx := [{}, {}, {}, {}]
  gccTx : List (List Byte) := [[], [], [], []]
  gid : Nat := 0
  pid : Nat := 0
  /-- Transmit: multiframe positions of the next frame, frames sent, BIP-8 of the last two frames sent, client blocks waiting (R132, R140, R144). -/
  txMfas : Nat := 0
  txOmfi : Nat := 0
  txFrames : Nat := 0
  txBips : List (List Nat) := []
  txBlocks : List Block := []
  deriving DecidableEq, Repr

/-- A cipher slot (R156–R164): the context's words, the store index it came from, whether it has warned. -/
structure CtxSlot where
  words : List W32
  index : Nat
  warned : Bool := false
  /-- Lowest acceptable PN on receive, next PN on transmit. -/
  pn : Nat
  deriving DecidableEq, Repr

/-- A wrapped context in the store (R153): the device key's draw, and what it wraps. -/
structure Wrapped where
  key : Nat
  words : List W32
  deriving DecidableEq, Repr

/-- The Link Cipher beside its registers (chapter 07). -/
structure LciSt where
  store : List (Nat × Wrapped) := []
  /-- Generations by store index (R154). -/
  gens : List (Nat × Nat) := []
  /-- The device context key: how often the F-die has drawn one (R153). -/
  devKey : Nat := 0
  /-- Host KEKs 0–3, words. -/
  keks : List (Nat × List W32) := []
  load : List (Nat × W32) := []
  /-- Slots by cluster × 256 + slot. -/
  slots : List (Nat × CtxSlot) := []
  /-- A command or load in progress and the code it will report (R156). -/
  busy : Option Nat := none
  /-- It is a load, whose completion clears the load words (R155). -/
  busyLoad : Bool := false
  /-- Switch records that LCI_SWITCH_NOW asked for at the next tick (R160). -/
  switchReq : List Nat := []
  /-- Ports whose failing automatic switch has set event 4 (R162). -/
  autoWarned : List Nat := []
  deriving DecidableEq, Repr

/-- A flit that its sender keeps (R10, R16): the bundle it is issued on, its sequence number, the crossing bytes it carries. -/
structure Flit where
  bundle : Nat
  seq : Nat
  data : List Byte
  deriving DecidableEq, Repr

/-- One direction of the Dovetail (chapter 01): the sender's packing, numbering and replay buffer, the receiver's delivery, the bundles out of the rotation. -/
structure DvtDir where
  /-- Sequence number of the next flit to deliver. -/
  next : Nat := 0
  /-- A replay is awaited from `next` on. -/
  waiting : Bool := false
  /-- Flits issued and not acknowledged, oldest first. -/
  replayBuf : List Flit := []
  /-- Flits received ahead of the one that is awaited: sequence number and how many crossing bytes each carries. -/
  held : List (Nat × Nat) := []
  /-- Replays of the same flit, by bundle: the flit and how often. -/
  replays : List (Nat × (Nat × Nat)) := []
  /-- Sequence number of the next flit to issue, and the bundle of the flit issued last (R15). -/
  sent : Nat := 0
  last : Nat := 15
  /-- Bytes of crossings taken and not yet in a flit (R12), the bytes of all crossings taken so far, and the bytes delivered so far. -/
  pack : List Byte := []
  packed : Nat := 0
  delivered : Nat := 0
  /-- Bundles isolated or retraining. -/
  out : List Nat := []
  deriving DecidableEq, Repr

end Sys2Proof.Machine
end

