-- ==== Sys2Proof/Syntax.lean ====
section
/-! DEFINITION. The commands of the block: one constructor for each row of the opcode table, those with operands before those without, each in the table's order, with the rule of the spec that gives it. -/
namespace Sys2Proof
open Sys2Proof.Machine

/-- The commands. -/
inductive Instr
  /-- R16: A Dovetail flit arrives; its CRC is checked and it is delivered in issue order, or it is discarded and replay is requested. -/
  | flitReceive (dir : Fin 2) (b : Fin 16) (seq ack : W32) (flit : List Byte)
  /-- R16: A replay request reaches the sender, which replays from the requested flit out of its replay buffer. -/
  | replayRequest (dir : Fin 2) (b : Fin 16) (seq : W32)
  /-- R18: A bundle has replayed one flit 16 times without success or its receiver has lost lock, so it leaves the rotation and retrains. -/
  | bundleLeaveRotation (dir : Fin 2) (b : Fin 16) (lost : Bool)
  /-- R18: A bundle's retraining ends: it rejoins the rotation at a flit boundary, or it has failed. -/
  | bundleRetrainComplete (dir : Fin 2) (b : Fin 16) (ok : Bool)
  /-- R45: A write to a register that has no row of its own acts as its access code gives. -/
  | registerWrite (x : Access) (v : W64)
  /-- R55: An access still incomplete 40 µs after arrival is ended: a read gets Completer Abort, a write is discarded, and both are logged. -/
  | accessTimeLimit (x : Access) (write : Bool)
  /-- R48: A write to an RS field lands in its wing and sets the sub-block's WING_PEND bit. -/
  | wingWrite (q : Req) (a : BitVec 28) (v : W32)
  /-- R49: A STROBE_MAP write moves a sub-block, with its wing contents, to a new strobe group. -/
  | strobeMapWrite (q : Req) (b : Fin 29) (v : W32)
  /-- R59: A mailbox read operation starts, capturing all the requested words at one instant. -/
  | mbxRead (q : Req) (b : Fin 29) (count : Fin 8) (obj tag : Byte) (sub : Fin 128) (err : Bool)
  /-- R59: A mailbox write operation starts, applying all the supplied words at once. -/
  | mbxWrite (q : Req) (b : Fin 29) (count : Fin 8) (obj tag : Byte)
  /-- R61: A mailbox operation completes, setting VALID or ERROR with its ECODE. -/
  | mbxComplete (b : Fin 29)
  /-- R61: A mailbox operation not complete at 40 µs ends with ERROR and ECODE 5. -/
  | mbxTimeLimit (b : Fin 29)
  /-- R63: A write of 0xC4D3 to TOP_UNLOCK.KEY arms the writing requester. -/
  | unlockArm (q : Req)
  /-- R64: A write of any other value to TOP_UNLOCK.KEY disarms the requester and is logged with CAUSE 8. -/
  | unlockDisarm (q : Req) (key : BitVec 16)
  /-- R64: An arming that no write has consumed lapses 1 ms after it was made. -/
  | unlockLapse (q : Req)
  /-- R67: A cue tick occurs every 128 ns of Cue Clock time, and every action due on that tick applies. -/
  | cueTick (elapsed : BitVec 16)
  /-- R69: A write of CUE_FREQ_ADJ sets a new rate offset, which takes effect at the next tick. -/
  | freqAdjWrite (q : Req) (v : W32)
  /-- R69: A write of CUE_PHASE_ADJ starts a slew at 100 ppm, replacing whatever remains of the previous slew. -/
  | phaseAdjWrite (q : Req) (v : W32)
  /-- R70: A rising edge of PPS_IN captures the Cue Clock. -/
  | ppsInEdge (sub : Fin 128)
  /-- R70: A character received on TOD_IN is stored in the 64-byte FIFO. -/
  | todInCharacter (b : Byte)
  /-- R71: A host write of 1 sets TIME_VALID, unless OSC_OK is 0, and held cues whose time has passed fire late. -/
  | setTimeValid (q : Req) (v : W32)
  /-- R81: A host write of 0 clears TIME_VALID, and pending cues are voided or held. -/
  | clearTimeValid (q : Req) (v : W32)
  /-- R72: A 500 µs oscillator-check window ends and its ratio is compared with the long-term filtered ratio. -/
  | oscCheckWindow (ppb : W32)
  /-- R76: A submit places W0–W3 in a slot, or is refused with a result code. -/
  | cueSubmit (q : Req) (slot : Byte)
  /-- R76: A cancel empties a pending slot, or reports that it is too late or refused. -/
  | cueCancel (q : Req) (slot : Byte)
  /-- R84: A write of CUE_STROBE_FIRE requests a firing of each named group at the next tick, or queues it or refuses it. -/
  | strobeFire (q : Req) (groups : W32)
  /-- R83: Every packet that was inside a section at the firing tick has left it, so the application completes and BUSY clears. -/
  | strobeApplicationComplete (g : Fin 32)
  /-- R85: CUE_EPOCH_CMD OP 1 requests a commit of EPOCH at the next tick. -/
  | epochCmdCommit (q : Req) (e : Fin 16)
  /-- R87: CUE_EPOCH_CMD OP 2 requests a retire at the next tick. -/
  | epochCmdRetire (q : Req) (e : Fin 16)
  /-- R88: A write of CUE_RETAIN moves the retention limit of the live retiring epoch. -/
  | retainWrite (q : Req) (v : W32)
  /-- R88: The house count of a quarantined epoch reaches zero and it leaves quarantine. -/
  | quarantineEnd (e : Fin 16)
  /-- R92: A write of TAB_TRIGGER.GO requests a tableau at the next tick. -/
  | triggerGo (q : Req) (go : Bool)
  /-- R92: A rising edge of TABLEAU_IN with IN_EN set requests a tableau on a tick at least 128 ns later. -/
  | tableauInEdge (sub : Fin 128)
  /-- R93: A write of 1 to TAB_STATUS.HELD releases the held tableau. -/
  | tableauRelease (q : Req)
  /-- R102: PBK CHECK fetches an image and verifies, validates and classifies it. -/
  | check (q : Req)
  /-- R102: CHECK ends: the loader enters CHECKED with its case and reasons, or returns to its previous state with CODE. -/
  | checkComplete (err : Bool)
  /-- R103: PBK STAGE writes the free program banks and the wings, or is refused. -/
  | stage (q : Req)
  /-- R109: PBK ABORT discards a checked or staged book and closes any open split. -/
  | abort (q : Req)
  /-- R107: PBK COLD_INSTALL checks a book if needed, then drains and installs it without an epoch commit. -/
  | coldInstall (q : Req)
  /-- R109: PBK RESHAPE_REGION clears and formats the changed tables of a drained region in their new shapes. -/
  | reshapeRegion (q : Req) (r : Fin 2)
  /-- R109: PBK END_SPLIT ends region-named writes, restarts digest comparison and closes the split. -/
  | endSplit (q : Req)
  /-- R113: A frame is received by the MAC, is checked for length, FCS and FEC, and enters the receive buffer. -/
  | frameReceive (p : Fin 256) (bytes : List Byte) (fcsOk fecErr : Bool) (disagree : Option (BitVec 14)) (sub : Fin 128)
  /-- R118: A port is declared down, triggering protection, a queue stop and the hold timer. -/
  | portDown (p : Fin 256) (cause : Fin 11)
  /-- R117: Every up condition has held for 1 ms, so the port is declared up. -/
  | portUp (p : Fin 256)
  /-- R291: The hold time expires, so the port's queues are flushed and the generator drains. -/
  | holdExpiry (p : Fin 256)
  /-- R115: Lane link training completes, or fails after 500 ms and restarts. -/
  | linkTrainingEnd (l : Fin 256) (ok : Bool) (c0 c1 : W32)
  /-- R123: At a PSI multiframe boundary, Rate Follow announcements, slot changes and receive identifier application take place. -/
  | psiMultiframeBoundary (p : Fin 256) (tx : Bool) (whole : Bool) (msi : Option (BitVec 9))
  /-- R127: At the first tick at or after the later of T + GAP and B2, the cap of an increase rises. -/
  | rfCapRise (p : Fin 256)
  /-- R128: RX_SLOTS has not reached EXPECT_SLOTS in time, so FAIL 1 is set. -/
  | rfExpectTimeout (p : Fin 256)
  /-- R130: A write of LNP_RF_REQ.GO passes a step request to the Lead. -/
  | rateFollowRequest (q : Req) (p : Fin 256) (slots : BitVec 9) (go : Bool)
  /-- R130: The Lead reads the modem's slot count every 1 ms and cues a step when it changes. -/
  | modemPoll (p : Fin 256) (count : BitVec 16)
  /-- R134: An OTUC frame is received and processed for alignment, hunt candidates, defects, TTI, PT, BIP-8 and BEI. -/
  | otucFrame (p : Fin 256) (f : OtuFrame)
  /-- R146: A receive channel record closes and is written to RX_RING, or is dropped. -/
  | gccRecordClose (p : Fin 256) (c : Fin 4)
  /-- R147: A transmit channel record at the ring head is taken when its buffer has room, or is discarded. -/
  | gccTxRecord (ring : Fin 512) (w0 w1 : W32) (bytes : List Byte) (descs : Fin 9)
  /-- R155: LCI_CLEAR_LOAD with TARGET 0 loads a context in the clear into a store index. -/
  | clearContextLoad (q : Req) (index : BitVec 14) (go : Bool)
  /-- R154: LCI_CLEAR_LOAD with TARGET 1 loads a host key-encryption key. -/
  | clearKekLoad (q : Req) (index : BitVec 14) (go : Bool)
  /-- R155: LCI_WRAP_LOAD unwraps a context under a host KEK and loads it. -/
  | wrappedContextLoad (q : Req) (index : BitVec 14) (kek : Fin 4) (go : Bool)
  /-- R156: Context command 1 unwraps an index into a slot. -/
  | restore (q : Req) (index : BitVec 14) (c : Fin 16) (slot : Byte) (hbmErr : Bool)
  /-- R157: Context command 2 wraps a slot's context back into its index at a frame boundary. -/
  | park (q : Req) (index : BitVec 14) (c : Fin 16) (slot : Byte)
  /-- R156: Context command 3 empties a slot without saving. -/
  | drop (q : Req) (index : BitVec 14) (c : Fin 16) (slot : Byte)
  /-- R156: Context command 4 empties a store index. -/
  | erase (q : Req) (index : BitVec 14) (c : Fin 16) (slot : Byte)
  /-- R160: A write of LCI_SWITCH_NOW applies a switch record at the next tick. -/
  | lciSwitchNow (q : Req) (record : BitVec 12) (go : Bool)
  /-- R171: A write of LCI_CLUSTER_CTRL.RESTORE starts the known-answer self-test. -/
  | cipherRestore (q : Req) (c : Fin 16) (restore : Bool)
  /-- R171: The self-test ends: pass returns the cipher to service, fail returns it to STATE 1. -/
  | selfTestComplete (c : Fin 16) (pass : Bool)
  /-- R158: A frame is transmitted, taking a PN if protected, with stamping and insertion. -/
  | frameTransmit (p : Fin 256) (sub : Fin 128) (agree : Option (BitVec 14))
  /-- R174: A head enters the ingress pipeline and takes the epoch; parsing, lookups, programs, Spotlight and policing run. -/
  | headEntry (c : Fin 16)
  /-- R176: A packet leaves the ingress pipeline in port order, its ticket built and its predictor entry trained. -/
  | pipelineExit (p : Fin 256)
  /-- R193: A write of IPP_PRED_CTRL.FLUSH empties the predictor. -/
  | predictorFlush (q : Req) (c : Fin 16) (en flush : Bool)
  /-- R209: A table-work command inserts a route or replaces its result. -/
  | fibSet (c : TwCmd)
  /-- R209: A table-work command deletes one exact route. -/
  | fibDel (c : TwCmd)
  /-- R209: A table-work command reads one exact route. -/
  | fibGet (c : TwCmd)
  /-- R209: A table-work command returns the route that a lookup would find. -/
  | fibMatch (c : TwCmd)
  /-- R213: A table-work command writes a next-hop entry. -/
  | nhSet (c : TwCmd)
  /-- R209: A table-work command reads a next-hop entry. -/
  | nhGet (c : TwCmd)
  /-- R215: A table-work command writes an ECMP group entry. -/
  | ecmpSet (c : TwCmd)
  /-- R209: A table-work command reads an ECMP group entry. -/
  | ecmpGet (c : TwCmd)
  /-- R215: A table-work command writes ECMP member slots. -/
  | membersSet (c : TwCmd)
  /-- R209: A table-work command reads ECMP member slots. -/
  | membersGet (c : TwCmd)
  /-- R221: A table-work command inserts or replaces an exact-match entry, relocating entries if needed. -/
  | exmSet (c : TwCmd)
  /-- R221: A table-work command deletes an exact-match entry. -/
  | exmDel (c : TwCmd)
  /-- R209: A table-work command reads an exact-match entry. -/
  | exmGet (c : TwCmd)
  /-- R223: A table-work command puts the table into dual-seed mode with a new target seed. -/
  | rehashStart (c : TwCmd)
  /-- R223: A table-work command exchanges the two seeds and migrates back. -/
  | rehashAbort (c : TwCmd)
  /-- R223: The Lead migrates entries still under the old seed, setting STUCK when a pass makes no progress. -/
  | rehashMigration (t : Fin 128)
  /-- R223: No entry remains under the old seed, so the target becomes active and the command completes. -/
  | rehashComplete (t : Fin 128)
  /-- R209: A table-work command that completes with status 0 in ring order. The row also carries the commands whose OP byte names no operation (R210 item 1, log entry 111). -/
  | nop (x : OtherTwCmd)
  /-- R218: REVERT_MS after a port's up declaration, its unlatched or re-armed watch goes live. -/
  | watchRevert (p : Fin 256)
  /-- R217: FIB_WATCH_CMD OP 1 makes a host watch live. -/
  | hostWatchLive (q : Req) (w : BitVec 15)
  /-- R217: FIB_WATCH_CMD OP 2 makes a host watch dead. -/
  | hostWatchDead (q : Req) (w : BitVec 15)
  /-- R218: FIB_WATCH_CMD OP 3 re-arms a latched local watch while the port is up. -/
  | rearm (q : Req) (w : BitVec 15)
  /-- R228: Every PERIOD_S, the Lead deletes unhit non-STATIC entries, sending aged records, and clears HIT. -/
  | agingScan (t : Fin 128)
  /-- R237: A table-work command places one unit in the ring's assembly buffer. -/
  | acsUnit (c : TwCmd)
  /-- R237: A table-work command writes an associative-search entry from the assembly buffer. -/
  | acsSet (c : TwCmd)
  /-- R237: A table-work command clears an entry's VALID. -/
  | acsDel (c : TwCmd)
  /-- R237: A table-work command reads one unit or the result part of an entry. -/
  | acsGet (c : TwCmd)
  /-- R240: ACS_STEP_CTRL START captures the key and finds the first match in winner order. -/
  | start (q : Req) (table : Fin 128) (region : Fin 4) (epoch : Fin 16)
  /-- R240: ACS_STEP_CTRL NEXT finds the first match after the position last returned. -/
  | next (q : Req)
  /-- R242: Array temperature is sampled every 100 µs and the throttle step rises or falls. -/
  | throttleSample (t : Option Byte)
  /-- R242: An ACS_THROTTLE write raises the step to FORCE_MIN, or is discarded if its thresholds are not ascending. -/
  | throttleWrite (q : Req) (v : W32)
  /-- R343: Setting BPM_CTRL.SPILL_EN allows HBM placement, sets HBM_FREE and clips regions. -/
  | spillEnable (q : Req) (v : W32)
  /-- R249: A BPM_HBM_REGION write sets the packet region, or is discarded while SPILL_EN is 1. -/
  | hbmRegionWrite (q : Req) (k : Fin 8) (v : W32)
  /-- R253: The scheduler reads a copy of HBM packets predicted `r.ahead` nanoseconds before their dequeue into staging. -/
  | prePullRead (q : Fin 262144) (r : PrePull)
  /-- R254: The egress scheduler selects a packet through the hierarchy; credit and tokens are consumed and the packet leaves its queue. -/
  | dequeueCommit (p : Fin 256) (err : Fin 3)
  /-- R278: An eligible VOQ is served: its packet is sent on the fabric, transferred locally, replicated or sent to a ring. -/
  | voqService (err : Fin 3)
  /-- R264: A free names a head pointer and an owner, returning the chain when no owner remains. -/
  | bufferFree (p : BitVec 30) (owner : BitVec 10) (agent : Fin 9)
  /-- R265: A leak-audit pass ends and reclaims unmarked buffers. -/
  | auditPassEnd (skip : List (BitVec 30))
  /-- R280: A port's credit generator grants one QUANTUM to a requesting VOQ. -/
  | creditGrant (p : Fin 256)
  /-- R298: A fabric cell arrives and is reassembled; the packet is passed to admission or discarded. -/
  | cellReceive (l : Fin 320) (w0 w1 w2 w3 : W32) (payload : List Byte)
  /-- R298: No cell of a reassembly context has arrived for REASM_US, so the partial packet is discarded. -/
  | reassemblyTimeout (src : BitVec 14) (lane : BitVec 9) (stream : Fin 4)
  /-- R300: A control slot's header is received, applying LFC and READY; its sixteen messages take effect. -/
  | controlSlotReceive (l : Fin 320) (h : SlotHdr) (crc : W32) (msgs : List W32)
  /-- R302: A request message turns a remote VOQ's request on or off at the port's generator. -/
  | request (p : Fin 256) (dev : BitVec 14) (voq : BitVec 17) (tc : Fin 8) (on : Bool)
  /-- R302: A grant message adds one QUANTUM to the named VOQ. -/
  | grant (voq : BitVec 17)
  /-- R302: A revoke message applies R281 to the named VOQ. -/
  | revoke (voq : BitVec 17)
  /-- R303: A reachability message updates one chunk of a lane's map and the reachable set. -/
  | reachability (l : Fin 320) (chunk : Byte) (map : W64)
  /-- R302: A non-empty requesting VOQ re-sends ON 1 every 50 µs. -/
  | requestRefresh (voq : BitVec 17)
  /-- R302: A generator forgets a remote requester 500 µs after its last ON 1. -/
  | requesterTimeout (p : Fin 256) (dev : BitVec 14) (voq : BitVec 17)
  /-- R303: A map that has not been refreshed within REACH_MS becomes void. -/
  | reachabilityMapExpiry (l : Fin 320) (chunk : Byte)
  /-- R310: A fabric lane leaves service, its packets are dropped and its entries are held. -/
  | fabricLaneFailure (l : Fin 320) (why : LaneLoss)
  /-- R303: A lane enters service when its link is up, its CRC passes and READY is 1. -/
  | fabricLaneInService (l : Fin 320)
  /-- R306: HOLD_US after a packet's last cell, the entry's in-flight count falls by one. -/
  | pinHoldExpiry (h : Fin 4096)
  /-- R307: A held entry becomes quiet and takes its new lane or its ALT lane. -/
  | pinEntryQuiet (h : Fin 4096)
  /-- R307: A move that is not quiet within MOVE_TIMEOUT_US is abandoned. -/
  | pinMoveTimeout (h : Fin 4096)
  /-- R308: A write of FAB_PIN_MOVE applies a pin-move record at the next tick. -/
  | fabPinMove (q : Req) (record : BitVec 12) (go : Bool)
  /-- R309: A KW write sets an entry's LANE at once. -/
  | fabPinForce (q : Req) (entry : BitVec 12) (lane : BitVec 9) (go : Bool)
  /-- R312: A TOP_DEVICE_ID write sets the ID, or is discarded while MODE is nonzero. -/
  | deviceIdWrite (q : Req) (id : BitVec 14)
  /-- R312: A FAB_CFG write is discarded while any lane is in service. -/
  | fabCfgWrite (q : Req) (v : W32)
  /-- R322: A table-work command writes a multicast group entry. -/
  | mcGroupSet (c : TwCmd)
  /-- R322: A table-work command reads a group entry. -/
  | mcGroupGet (c : TwCmd)
  /-- R322: A table-work command writes replica entries. -/
  | replSet (c : TwCmd)
  /-- R322: A table-work command reads replica entries. -/
  | replGet (c : TwCmd)
  /-- R322: A table-work command writes a mirror session. -/
  | mirrorSet (c : TwCmd)
  /-- R322: A table-work command reads a mirror session. -/
  | mirrorGet (c : TwCmd)
  /-- R329: A packet enters the egress pipeline and is reparsed, looked up and rewritten. -/
  | egressPipelineEntry (p : Fin 256)
  /-- R348: HBM_STACK_CTRL OP 1 trains a stack, verifying a stored record where one is valid. -/
  | hbmTrain (q : Req) (k : Fin 8) (save : Bool)
  /-- R347: HBM_STACK_CTRL OP 2 starts a full training sweep. -/
  | fullSweep (q : Req) (k : Fin 8) (save : Bool)
  /-- R346: HBM_STACK_CTRL OP 3 returns the stack to RESET. -/
  | returnToReset (q : Req) (k : Fin 8) (save : Bool)
  /-- R347: A full sweep ends: READY, or FAILED when a lane has no usable eye. -/
  | trainingComplete (k : Fin 8) (lanes : List HLane)
  /-- R349: Verification ends, with failing pseudo-channels swept. -/
  | verificationComplete (k : Fin 8) (failing : BitVec 64) (lanes : List HLane)
  /-- R350: Every 100 ms the controller re-measures every lane's centres. -/
  | trackingMeasurement (k : Fin 8) (l : Fin 256) (rd wr : Fin 3) (rr wrr : Byte)
  /-- R352: A bank's idle timer reaches IDLE and the bank is precharged. -/
  | bankIdlePrecharge (k : Fin 8) (pc : Fin 64) (bank : Fin 16)
  /-- R354: A bank receives its refresh for the interval. -/
  | refresh (k : Fin 8) (pc : Fin 64) (bank : Fin 16) (slip : Fin 17)
  /-- R354: Stack temperature is read every 1 ms and the derate step rises or falls. -/
  | hbmTemperatureReading (ts : List (Option Byte))
  /-- R354: An HBM_THERM write whose thresholds are not ascending is discarded. -/
  | hbmThermWrite (q : Req) (v : W32)
  /-- R356: The controller reads and corrects every burst of the scrubbed areas once each period. -/
  | patrolScrub (k : Fin 8) (errs : List (BitVec 30 × Bool × BitVec 16))
  /-- R346: HBM_PG_s rises with the domain on, so the stack enters RESET. -/
  | hbmPgRise (k : Fin 8)
  /-- R489: HBM_PG_s falls while the stack is on, so the stack goes OFF and is isolated. -/
  | hbmPgLoss (k : Fin 8)
  /-- R374: A BAR2 TLP is checked against its window and served from the HBM host area. -/
  | peerWindowAccess (o : BitVec 36) (len : Fin 4097) (write : Bool) (data : List Byte) (err : Bool)
  /-- R377: A write of EN 1 zeroes the indices and starts the ring. -/
  | ringEnable (q : Req) (r : Fin 1120) (v : W32)
  /-- R377: A write of EN 0 stops the ring at an entry boundary. -/
  | ringDisable (q : Req) (r : Fin 1120) (v : W32)
  /-- R376: A HOST_IDX write produces or consumes entries, or stops the ring with ERR 1. -/
  | hostIdxWrite (q : Req) (r : Fin 1120) (v : W32)
  /-- R381: The device reads a transmit packet's descriptors and builds its ticket. -/
  | transmitPacket (r : Fin 512) (descs : List (List W32)) (data : List Byte)
  /-- R378: MOD_US has elapsed, so the ring raises its vector. -/
  | interruptHoldoffExpiry (r : Fin 1120)
  /-- R377: A completion timeout on a ring read stops the ring with ERR 3. -/
  | ringReadTimeout (r : Fin 1120)
  /-- R387: A removal is declared, powering the cage off and ending its I2C. -/
  | cageRemoval (c : Fin 64)
  /-- R387: CAGE_PRES_N has been low for 100 ms, so an insertion is declared. -/
  | cageInsertion (c : Fin 64)
  /-- R388: CAGE_ATTN_N has been low for 20 ms, so a press is declared. -/
  | attentionPress (c : Fin 64)
  /-- R386: A write of PWR 1 requests power for the cage. -/
  | cagePowerRequest (q : Req) (c : Fin 64) (v : W32)
  /-- R386: A write of PWR 0 powers the cage off. -/
  | cagePowerOff (q : Req) (c : Fin 64) (v : W32)
  /-- R386: CAGE_PG rises while ramping, so the cage enters PSTATE 3. -/
  | cagePowerGood (c : Fin 64)
  /-- R386: PG_MS elapses while ramping, so the cage takes FAULT 1. -/
  | cagePgTimeout (c : Fin 64)
  /-- R386: Power good is lost while on, so the cage takes FAULT 2. -/
  | cagePgLoss (c : Fin 64)
  /-- R389: GO starts a switch select, write and read on a master. -/
  | i2cTransaction (q : Req) (m : Fin 16) (v : W32)
  /-- R389: An I2C transaction ends with its CODE. -/
  | i2cComplete (m : Fin 16) (how : Fin 4) (data : List Byte)
  /-- R389: Clock stretching beyond 25 ms makes the master recover the bus and end the transaction. -/
  | i2cStretchTimeout (m : Fin 16) (sdaLow : Bool)
  /-- R394: CCX_CALL_CMD CLAIM grants the Call while HOLDER is 0. -/
  | claim (q : Req) (both : Bool)
  /-- R395: The holder resets the lease to 2,000 µs. -/
  | renew (q : Req)
  /-- R396: The holder drops the Call at once. -/
  | release (q : Req)
  /-- R396: The holder's domain, supply or cores fail, and the Call drops at once. -/
  | callDrop (x : Fin 2)
  /-- R398: A KW host write sets HOLDER at once with a fresh lease. -/
  | ccxCallForce (q : Req) (holder : Fin 4) (go : Bool)
  /-- R392: Every 250 µs the Lead renews, performs its duties and sends a mirror transfer. -/
  | serviceCycle (overrun acked : Bool) (alts : List (Fin 4096 × BitVec 9)) (dvt : Option Bool)
  /-- R402: The Understudy reads CCX_CALL and claims the Call when HOLDER is 0. -/
  | understudyPoll (x : Fin 2)
  /-- R420: UPD DOWNLOAD erases a slot and copies an image into it. -/
  | download (q : Req) (v : W32)
  /-- R420: UPD VERIFY checks a downloaded slot and marks it VERIFIED or INVALID. -/
  | verify (q : Req) (v : W32)
  /-- R422: UPD ACTIVATE starts a firmware activation in service, or a book trial. -/
  | activate (q : Req) (v : W32)
  /-- R420: UPD CONFIRM ends a trial, optionally raising the floor. -/
  | confirm (q : Req) (v : W32)
  /-- R420: UPD FALL_BACK reverses an open trial. -/
  | fallBack (q : Req) (v : W32)
  /-- R420: UPD ERASE erases an unused slot. -/
  | eraseSlot (q : Req) (v : W32)
  /-- R413: UPD INSTALL_KEY unwraps a book-key record and installs the book key. -/
  | installKey (q : Req) (v : W32)
  /-- R414: UPD REMOVE_KEY commits a removal record. -/
  | removeKey (q : Req) (v : W32)
  /-- R420: UPD CLEAR_CRASH erases the crash log. -/
  | clearCrash (q : Req) (v : W32)
  /-- R420: A long update command finishes with its CODE. -/
  | updCommandComplete (err : Fin 3)
  /-- R419: A boot ROM chooses the firmware slot, counting trial attempts. -/
  | coldBoot (x : Fin 2) (bad : List W32) (idOk : Bool)
  /-- R419: Trial firmware without the Call after 10 s is reset. -/
  | trialWatchdog (x : Fin 2)
  /-- R424: A crash entry is written to the crash log. -/
  | crashLogEntry (x : BitVec 2) (cause : Byte) (payload : List Byte)
  /-- R426: An SPDM GET_VERSION request is answered over DOE. -/
  | getVersion (ver : Byte) (body : List Byte)
  /-- R426: An SPDM GET_CAPABILITIES request is answered. -/
  | getCapabilities (ver : Byte) (body : List Byte)
  /-- R426: An SPDM NEGOTIATE_ALGORITHMS request is answered. -/
  | negotiateAlgorithms (ver : Byte) (body : List Byte)
  /-- R426: An SPDM GET_DIGESTS request is answered. -/
  | getDigests (ver : Byte) (body : List Byte)
  /-- R426: An SPDM GET_CERTIFICATE request returns certificate slot 0. -/
  | getCertificate (ver : Byte) (body : List Byte)
  /-- R426: An SPDM CHALLENGE is signed with the identity key. -/
  | challenge (ver : Byte) (body : List Byte)
  /-- R427: An SPDM GET_MEASUREMENTS request returns the measurement digests. -/
  | getMeasurements (ver : Byte) (body : List Byte)
  /-- R412: TOP_FUSE_PROG raises a floor or revokes a firmware signing key. -/
  | fuseProgram (q : Req) (field : Fin 16) (value : BitVec 6) (go : Bool)
  /-- R431: Every on-die table and state memory is scrubbed once every 8 ms. -/
  | sramScrub (errs : List SramErr)
  /-- R434: The digest engine computes a segment's digest in both regions on one tick. -/
  | digestComparison (t : BitVec 7) (seg : BitVec 12) (f0 f1 : W32)
  /-- R434: 100 µs after a difference the segment is recomputed, and a second difference is class 4. -/
  | digestRecompute (t : BitVec 7) (seg : BitVec 12) (f0 f1 : W32)
  /-- R436: Associative-search entries are compared with their shadows and rewritten. -/
  | shadowScrub (diffs : List (Fin 2 × BitVec 18 × W32))
  /-- R442: INT_RELEASE KIND 1 returns an isolated cluster to service. -/
  | releaseCluster (q : Req) (index : BitVec 17) (go : Bool)
  /-- R442: INT_RELEASE KIND 2 starts resynchronising an F-die region. -/
  | releaseFRegion (q : Req) (index : BitVec 17) (go : Bool)
  /-- R442: INT_RELEASE KIND 3 returns a T-die region to service. -/
  | releaseTRegion (q : Req) (index : BitVec 17) (go : Bool)
  /-- R442: INT_RELEASE KIND 4 returns the unit named by object 0x05. -/
  | releaseUnit (q : Req) (index : BitVec 17) (go : Bool)
  /-- R442: The region's copy completes, so its clusters return and event 14 is set. -/
  | resyncComplete (r : Fin 2)
  /-- R449: A cached delta is written back to HBM on eviction, on limit or after FLUSH_MS. -/
  | statsWriteback (pair : BitVec 26) (err : Bool)
  /-- R458: A sampling counter passes 2^48 − 1, is reloaded and writes a sample record. -/
  | counterOverflow (id : Fin 320) (cluster : Fin 16) (stage : Byte) (pkt : Option (W32 × W32 × W32))
  /-- R467: A KW write starts domain transitions, refusing the unsafe ones. -/
  | pwrPdCtrlWrite (q : Req) (v : W32)
  /-- R467: A domain finishes turning on or off. -/
  | domainTransitionComplete (n : Fin 32)
  /-- R467: HBM_PG_s has not risen within 20 ms, so the domain stays off with CODE 5. -/
  | hbmPgTimeout (k : Fin 8)
  /-- R471: TOP_RESET.F_DIE stops the device and resets the F-die. -/
  | fDieReset (q : Req) (v : W32)
  /-- R470: TOP_RESET.DEVICE resets both dies and reruns bring-up. -/
  | deviceReset (q : Req) (v : W32)
  /-- R470: TOP_RESET.CCA resets CC-A. -/
  | ccaReset (q : Req) (v : W32)
  /-- R470: TOP_RESET.CCB resets CC-B. -/
  | ccbReset (q : Req) (v : W32)
  /-- R470: TOP_RESET.BLOCK_GO resets one block's registers. -/
  | blockReset (q : Req) (v : W32)
  /-- R470: A complex watchdog expires and resets that complex. -/
  | complexWatchdog (x : Fin 2)
  /-- R474: The junction sensors are sampled every 100 µs and warnings are set. -/
  | thermalSample (f t : List (Option Byte))
  /-- R475: A die has had no valid sample for 10 ms, so shutdown begins. -/
  | sensorSilence (t : Bool)
  /-- R489: A rail below its minimum for 2 µs takes its effect. -/
  | railLoss (r : Fin 10)
  /-- R495: Loading a TAP instruction other than BYPASS, IDCODE or SAMPLE/PRELOAD stops the device. -/
  | tapInstruction (i : Tap)
  /-- R45: A register read returns its value, clearing RC fields in the normal view, or raises a bus error. -/
  | registerRead (x : Access)
  /-- R117: A line lane gains signal detect, receive clock lock and marker lock, so the port's up conditions begin to hold. -/
  | laneLock (l : Fin 256)
  /-- R116: A lane's PRBS checker gains or loses lock to the received pattern, setting PRBS_LOCK or LNP event 6. -/
  | prbsCheckerLock (l : Fin 256) (lock : Bool) (errors : W32)
  /-- R377: A completion arrives for a device read of a ring's descriptors or commands; error data stops the ring with ERR 4. -/
  | ringReadCompletion (r : Fin 1120) (status : Fin 4) (descs : List (List W32))
  /-- R362: A DOE Discovery protocol request is answered. -/
  | doeDiscovery (index : Byte)
  /-- R489: A lost F-die rail has been back in tolerance for 1 ms, so the F-die reset of R471 follows. -/
  | railInTolerance (r : Fin 10)
  /-- R69: A phase slew ends once its amount has been absorbed. -/
  | phaseSlewEnd
  /-- R70: Queued TOD_OUT characters are sent starting 10 ms after the next PPS_OUT rising edge. -/
  | todOutSend
  /-- R72: When SYS_REFCLK stops, the Cue Clock runs from the check oscillator until it returns. -/
  | sysRefclkLoss
  /-- R87: An armed retiring epoch is freed on the first tick at which its house count is zero. -/
  | epochFree
  /-- R88: A retiring epoch reaches its retention limit and is freed, quarantined if its house count is nonzero. -/
  | retentionLimit
  /-- R90: The sweep visits every queue that holds stragglers and unlinks and drops them. -/
  | stragglerSweep
  /-- R108: Staging ends and the loader enters STAGED, opening the split in case REGION. -/
  | stageComplete
  /-- R107: The cold-install drain ends because every live house count is zero or the retention limit has elapsed, and stragglers are flushed. -/
  | coldInstallDrainEnd
  /-- R107: Installation completes and the loader enters ACTIVE, bound to every live epoch. -/
  | coldInstallComplete
  /-- R109: The region's changed tables are formatted, RESHAPEDr is set and event 5 is set. -/
  | reshapeRegionComplete
  /-- R155: 1 ms after the last write, LCI_LOAD_W0–W21 are cleared. -/
  | loadWordsClear
  /-- R225: A NEW or MOVE candidate reaches the learn filter at the packet's side-effect time and may send a learn record. -/
  | learnCandidate
  /-- R225: A learn-filter entry ceases to be live HOLD after its time. -/
  | learnHoldExpiry
  /-- R257: A crossing head reaches the T-die; admission decides it and places it. -/
  | crossingHeadArrival
  /-- R257: At the crossing's end, the packet is linked into its queue or discarded as untrusted or no-buffer. -/
  | admissionCommit
  /-- R265: A leak-audit pass begins by period or by START. -/
  | auditPassStart
  /-- R325: The replication engine takes a waiting packet and makes its local replicas. -/
  | localReplication
  /-- R370: Clearing Bus Master Enable stops every request and every running ring. -/
  | busMasterEnableClear
  /-- R371: A write of Initiate FLR stops request issue and waits for outstanding requests. -/
  | initiateFunctionLevelReset
  /-- R372: The outstanding requests have completed or timed out, so the host interface resets. -/
  | flrReset
  /-- R367: Entry to D3hot stops the running rings and refuses BAR accesses. -/
  | d3hotEntry
  /-- R367: Return from D3hot to D0 keeps state, with rings stopped. -/
  | d0Return
  /-- R373: PERST_N asserted after its first release is loss of the host. -/
  | perstNAssert
  /-- R373: The link leaves for Detect undirected, which is loss of the host. -/
  | linkLoss
  /-- R395: The lease reaches 0 and HOLDER becomes 0. -/
  | leaseExpiry
  /-- R422: The new Understudy reaches SYNCED, so the Lead schedules the handover at H. -/
  | activationSynced
  /-- R422: An activation step does not complete in time and reverts. -/
  | activationTimeout
  /-- R416: The active store passes 3 MiB and is compacted into the other store. -/
  | settingsCompaction
  /-- R437: Every 1 ms each enabled probe enters the pipeline and its ticket is compared. -/
  | probeRun
  /-- R452: The background copy of the tableau range ends and event 1 is set. -/
  | snapshotCopyComplete
  /-- R471: The loader reaches ACTIVE after an F-die reset, so the stop ends. -/
  | fDieResetComplete
  /-- R470: VDD_AON rises and everything is reset. -/
  | aonPowerOn
  /-- R472: PERST_N is released and the device starts bring-up. -/
  | perstNRelease
  /-- R72: SYS_REFCLK returns after a stop and the Cue Clock runs from it again instead of the check oscillator. -/
  | sysRefclkReturn
  /-- R156: A Link Cipher context command or load finishes within 10 µs or 20 µs, clearing BUSY and setting DONE and CODE. -/
  | contextCommandComplete
  /-- R362: A DOE abort discards the exchange in progress in the DOE mailbox. -/
  | doeAbort
  /-- R472: The PCIe link trains and configuration requests are answered. -/
  | pcieLinkTrained
  /-- R472: No complex has taken the Call within 10 s of bring-up step 3, so bring-up ends with STAGE 6 and FAIL 2. -/
  | noCallTimeout
  deriving DecidableEq, Repr

end Sys2Proof
end

