-- ==== Sys2Proof/Decode.lean ====
section
/-! DEFINITION. The decoder of table words: no row of the opcode table has bits, so no word spells a command. -/
namespace Sys2Proof

/-- The command that a word spells by the bits of the opcode table. Every row's list of fields is empty: the block takes commands, not words. -/
def decodeTableWord (_nbits _w : Nat) : Option Instr := none

end Sys2Proof
end

