-- ==== Sys2Proof/Config.lean ====
section
/-! DEFINITION. What the spec leaves open: free values (opaque, no body) and the cryptographic functions of the external standards that the spec names (opaque functions of their operands). -/
namespace Sys2Proof
namespace Config

/-- The `n`-th free value: a value that the spec leaves open and nothing constrains (log entry 3). -/
opaque freeBits : Nat → BitVec 64

/-- What byte `addr` of the HBM holds that nothing has written since its stack was trained for the `gen`-th time (R347: undefined). -/
opaque hbmByte (gen addr : Nat) : BitVec 8
/-- The attachments that a scheduling hierarchy section spells, each level, number, parent and slot (R98, R282; the spec gives no record layout for this section: log entry 46). -/
opaque hierRecords (sect : List (BitVec 8)) : List (Nat × Nat × Nat × Nat)
/-- AES-GCM encryption under a key of 16 or 32 bytes, an initialisation vector and additional data (FIPS 197, SP 800-38D; log entry 5). -/
opaque gcmEncrypt (key iv aad plain : List Byte) : List Byte
/-- AES-GCM decryption of a ciphertext. -/
opaque gcmDecrypt (key iv aad cipher : List Byte) : List Byte
/-- The 16-byte AES-GCM authentication tag of additional data and a ciphertext. -/
opaque gcmTag (key iv aad cipher : List Byte) : List Byte
/-- RFC 3394 key unwrap under a 256-bit key: the plaintext, or none when its integrity check fails. -/
opaque keyUnwrap (kek wrapped : List Byte) : Option (List Byte)
/-- SHA-384 of a byte list (FIPS 180-4). -/
opaque sha384 (msg : List Byte) : List Byte
/-- ECDSA P-384 signature verification under a public key (FIPS 186-5). -/
opaque ecdsaVerify (pub msg sig : List Byte) : Bool
/-- ECDSA P-384 signature under the device's key of number `k`. -/
opaque ecdsaSign (k : Nat) (msg : List Byte) : List Byte
/-- The key unwrap of a book-key record to the device's identity key (R413). -/
opaque identityUnwrap (record : List Byte) : Option (List Byte)
/-- Opaque byte strings that belong to the unit: 0 certificate chain, 1 unit ID, 2 identity public key, 3 and 4 the boot ROM's firmware signing keys 0 and 1, 5 the House Book key of slot 0, 6 the boot ROM image, 8–15 the die identifiers of HBM stacks 0–7. -/
opaque unitBytes (k : Nat) : List Byte
/-- The byte string, not laid out by the spec, that a measurement of several items covers (R427, indices 6 and 7). -/
opaque encodeItems (index : Nat) (items : List (List Byte)) : List Byte
/-- A firmware settings record's payload as firmware of another settings format converts it (R417; log entry 131). -/
opaque convertSetting (fromFmt toFmt : Nat) (data : List Byte) : List Byte
/-- The first FIB unit that a route occupies within its key source's allocation (R434; log entry 49). -/
opaque fibUnit (route : Nat) : Nat
/-- The bytes of an entry's position and content that a digest's CRC covers (R434; log entry 49). -/
opaque digestBytes (kind pos : Nat) (content : List Nat) : List Byte
/-- Crossings that the T→F direction of the Dovetail may hold for a cluster beyond its first: the cluster's Dovetail allowance (R14), which the spec does not number (log entry 117). -/
opaque dovetailAllowance : Nat
/-- Bytes on the wire that the transmit path of a port holds beside a frame that it takes when it is empty (R269), which the spec does not number (log entry 117). -/
opaque txPath (port : Nat) : Nat
/-- How many 64B/66B blocks the GMP mapping puts into the tributary slots in use in the `seq`-th OTUC frame (R144; G.709, log entry 122). -/
opaque gmpBlocks (slots seq : Nat) : Nat
/-- The OPUC area of each slice of an OTUCn whose slots carry these blocks, each as its 66 bits (R144; G.709, log entry 122). -/
opaque gmpOpuc (n slots : Nat) (blocks : List Nat) : List (List (BitVec 8))

end Config
end Sys2Proof
end

