-- ==== Sys2Proof/Machine/BookTypes.lean ====
section
/-! DEFINITION. A Prompt Book as plain data: parser graph, stage maps, table shapes, programs, hierarchy, counter map (R97, R98, R178, R183, R186, R201–R204, R231, R446), and the loader's state. -/
namespace Sys2Proof.Machine

/-- A parser state record (R178). -/
structure PState where
  state : Nat
  hdrId : Nat
  terminal : Bool
  reject : Bool
  noStack : Bool
  lenFixed : Nat
  lenOff : Nat
  lenMask : Nat
  lenShift : Nat
  selOff : Nat
  selMask : Nat
  xsrc : Nat
  xlen : Nat
  xdst : Nat
  deriving DecidableEq, Repr

/-- A parser transition record, in record order (R178). -/
structure PTrans where
  src : Nat
  dst : Nat
  prio : Nat
  value : Nat
  mask : Nat
  deriving DecidableEq, Repr

/-- A stage-map slot entry (R183). -/
structure SlotEnt where
  stage : Nat
  slot : Nat
  kind : Nat
  table : Nat
  keysrc : Nat
  hitProg : Nat
  missProg : Nat
  cond : Nat
  condHdr : Nat
  deriving DecidableEq, Repr

/-- A table shape (R201, R231): its ID, kind, allocation, seed, second allocation, reshape mark and further records of four words. -/
structure TShape where
  id : Nat
  tkind : Nat
  alloc : Nat
  seed : W32
  alloc2 : Nat
  reshape : Bool
  recs : List (List W32)
  deriving DecidableEq, Repr

/-- One instruction of an action program (R186): its two words. -/
structure PInstr where
  w0 : W32
  imm : W32
  deriving DecidableEq, Repr

/-- An attachment of the egress hierarchy (R282): level and number of the child (1 level 2, 2 level 3, 3 queue), its parent's number, its slot (0–3 strict, 4 weighted). -/
structure HierRec where
  level : Nat
  num : Nat
  parent : Nat
  slot : Nat
  deriving DecidableEq, Repr

/-- A range of the counter map (R446). -/
structure CtrRange where
  source : Nat
  first : Nat
  adj : Int
  deriving DecidableEq, Repr

/-- A Prompt Book, decrypted and parsed. -/
structure Book where
  id : Nat
  /-- SHA-384 digest of the image (R427). -/
  digest : List Byte
  secVersion : Nat
  toolVer : Nat
  xsize : Nat
  carried : Nat
  requires : Nat
  hbmUse : Nat
  states : List PState
  trans : List PTrans
  imap : List SlotEnt
  /-- Hash entries in INDEX order: their selectors (R183, R185). -/
  hash : List W32
  /-- The book has hash entries, be their selector lists empty or not (R185). -/
  hashed : Bool
  emap : List SlotEnt
  tables : List TShape
  iprog : List PInstr
  eprog : List PInstr
  hier : List HierRec
  alloc : Nat
  snap : Nat
  ranges : List CtrRange
  deriving DecidableEq, Repr

/-- The Prompt Book loader beside its registers (chapter 04). -/
structure PbkSt where
  /-- The book in force (or bound to the current epoch), the checked or staged book, the book of the retiring epoch while BOUND. -/
  inForce : Option Book := none
  checked : Option Book := none
  old : Option Book := none
  /-- What a running operation will end with: its OP, the CODE, the case and the reasons; COLD_INSTALL's phase 0 checking, 1 draining, 2 installing. -/
  busyOp : Nat := 0
  code : Nat := 0
  result : Option Book := none
  case : Nat := 0
  reasons : Nat := 0
  phase : Nat := 0
  region : Nat := 0
  /-- Local time at which a cold-install drain began. -/
  drainFrom : Nat := 0
  /-- The old book, released while the split is open: what a region not yet reshaped still holds (R101, R109). -/
  former : Option Book := none
  /-- Tables whose shape the split changes, until the loader is ACTIVE again (R108). -/
  changed : List Nat := []
  deriving DecidableEq, Repr

end Sys2Proof.Machine
end

