-- ==== Sys2Proof/Machine/PacketTypes.lean ====
section
/-! DEFINITION. The plain data of the packet path: received frames, packets in the ingress pipeline, crossings, buffer chains, queues, buckets, fabric contexts, packets on their way out. -/
namespace Sys2Proof.Machine

/-- A frame in a cluster's receive buffer (R175, R243): plaintext from the destination address to the byte before the FCS. -/
structure RxFrame where
  port : Nat
  bytes : List Byte
  /-- Receive stamp, both 0 when TS_EN is 0 (R119). -/
  tsNs : Nat
  tsSec : Nat
  /-- The ticket's PROT code (R197), and the verdict: trusted or not (R165). -/
  prot : Nat
  good : Bool
  deriving DecidableEq, Repr

/-- The shape a predictor entry records (R189, R192). -/
structure Obs where
  kind : Nat := 0
  offset : Nat := 0
  pfx : Nat := 0
  deriving DecidableEq, Repr

/-- A predictor entry (R189). -/
structure PredEnt where
  port : Nat
  tag : Nat
  count : Nat
  obs : Obs
  deriving DecidableEq, Repr

/-- Where a packet goes, as its programs left it (R187). -/
inductive Dest
  | unset
  | sysPort (sport : Nat)
  | group (g : Nat)
  | nextHop (nh : Nat)
  | ring (r : Nat) (reason : Nat)
  deriving DecidableEq, Repr

/-- A learn candidate as the LEARN instruction found it (R224): table, learn key left-aligned with its length, source, a MOVE, the previous source. -/
structure LearnCand where
  table : Nat
  key : Nat
  klen : Nat
  src : Nat
  move : Bool
  prev : Nat
  deriving DecidableEq, Repr

/-- Side effects that wait for the verdict (R166, R288, R448): a hit bit, a learn candidate, a statistics pair, a policer's judgement (2 red, 1 yellow, 0 green). -/
inductive SideEff
  | hit (table key : Nat)
  | learn (c : LearnCand)
  | stat (pair : Nat)
  | police (idx colour : Nat)
  deriving DecidableEq, Repr

/-- A packet in an ingress pipeline, between head entry and its exit (R174–R192). -/
structure IngPkt where
  port : Nat
  frame : List Byte
  epoch : Nat
  since : Nat
  prot : Nat
  good : Bool
  /-- Metadata bytes 0–63 (R181). -/
  md : List Byte
  /-- The bytes that the hash entries select, in INDEX order (R185). -/
  hashed : List Byte
  dest : Dest := .unset
  eq : Option Nat := none
  voq : Option Nat := none
  mirror : Nat := 0
  res : List Byte := List.replicate 32 0
  tsNs : Nat
  tsSec : Nat
  /-- Dropped with a reason, or by a red policer. -/
  drop : Option Nat := none
  red : Option Nat := none
  /-- What its first FIB lookup shows the predictor (R192). -/
  obs : Obs := {}
  deriving DecidableEq, Repr

/-- A packet on the Dovetail or arriving on the T-die (R20). -/
structure Crossing where
  ticket : Ticket
  frame : List Byte
  since : Nat
  /-- The verdict at the crossing's end (R165). -/
  good : Bool
  deriving DecidableEq, Repr

/-- A packet copy in a queue of the T-die (R246): the head pointer of its chain, its owner number there, its ticket and frame. -/
structure Pkt where
  head : Nat
  owner : Nat
  ticket : Ticket
  frame : List Byte
  /-- Replica or mirror copy, and the egress port that a replica entry named (R325, R328). -/
  replica : Bool := false
  mirrored : Bool := false
  port : Option Nat := none
  /-- Cut-through code with which the packet arrived (R296, R311). -/
  cut : Nat := 0
  /-- It entered this device from the fabric. -/
  fromFab : Bool := false
  /-- Its crossing has ended: admission commit is made (R257). -/
  whole : Bool := true
  /-- The reassembly context from which the tail of a cut-through packet is still to come (R311). -/
  pend : Option Nat := none
  deriving DecidableEq, Repr

/-- A packet whose crossing is arriving: its charge, its queue and its decision (R257). -/
structure Arriving where
  pkt : Pkt
  queue : Nat
  good : Bool
  marked : Bool
  /-- Its chain could not be completed (R257). -/
  noBuffer : Bool
  /-- It was linked at its decision, to be cut through (R257). -/
  linked : Bool := false
  /-- The reassembly context it comes from; none for the Dovetail and the transmit rings. -/
  key : Option Nat := none
  /-- Where its crossing ends among the bytes that the Dovetail carries F→T; 0 for a packet that does not cross. -/
  fin : Nat := 0
  /-- The tick at which its section began (R82). -/
  since : Nat := 0
  deriving DecidableEq, Repr

/-- A buffer chain in use (R246, R263): its buffers, head first; its owners; the pool that is charged for a shared chain; whether the audit has marked it and whether it was allocated before the running pass. -/
structure Chain where
  bufs : List Nat
  owners : List Nat
  mcPool : Option Nat := none
  mark : Bool := false
  old : Bool := false
  deriving DecidableEq, Repr

/-- A VOQ or egress queue (R258, R439): its packets in order, its depth in buffers, split by memory, its linkage checksum, and whether the integrity reaction holds it. -/
structure Queue where
  pkts : List Pkt := []
  depth : Nat := 0
  onDie : Nat := 0
  hbm : Nat := 0
  link : W32 := 0
  isolated : Bool := false
  deriving DecidableEq, Repr

/-- A token bucket (R272): signed tokens in units of 1/(8 × 10^9) byte and the local time they stand for; an absent bucket is full. -/
structure Bucket where
  tok : Int
  at_ : Nat
  deriving DecidableEq, Repr

/-- Deficits of a weighted child (R284), for pass 2 and pass 3. -/
structure Deficit where
  d2 : Int := 0
  d3 : Int := 0
  deriving DecidableEq, Repr

/-- The round-robin places of a node: the child whose turn it is in pass 2 and pass 3, and whether its turn has begun. -/
structure Turn where
  t2 : Nat := 0
  b2 : Bool := false
  t3 : Nat := 0
  b3 : Bool := false
  deriving DecidableEq, Repr

/-- A remote VOQ that asked a local port's generator (R302). -/
structure Requester where
  dev : Nat
  voq : Nat
  tc : Nat
  seen : Nat
  deriving DecidableEq, Repr

/-- A port's credit generator (R279–R281): class deficits, the last requester served in each class, remote requesters. -/
structure GenSt where
  deficits : List (Nat × Int) := []
  turn : Nat := 1
  last : List (Nat × Nat) := []
  remote : List Requester := []
  running : Bool := false
  /-- Grants issued and not consumed, by device and VOQ: (device, VOQ). -/
  issued : List (Nat × Nat) := []
  /-- The bucket that paces the grants (R279); absent means full. -/
  pace : Option Bucket := none
  deriving DecidableEq, Repr

/-- A staged copy of an HBM packet (R253): its queue and head pointer, whether poisoned, the local time at which its dequeue is predicted. -/
structure Staged where
  queue : Nat
  head : Nat
  bytes : Nat
  poisoned : Bool
  due : Nat := 0
  deriving DecidableEq, Repr

/-- A pin-table entry (R305–R310): lane, alternate, in-flight count, hold with the lane to take at quiet. -/
structure PinEnt where
  lane : Nat
  alt : Nat
  inflight : Nat := 0
  held : Bool := false
  /-- The lane of a move in progress; none with `held` when the lane failed (R310). -/
  target : Option Nat := none
  deriving DecidableEq, Repr

/-- A reassembly context (R298): the previous SEQ, whether it waits for a packet start, the partial packet's crossing bytes, cut-through code, form and source; whether admission has decided, and refused, it. -/
structure Reasm where
  seq : Nat
  skip : Bool := false
  active : Bool := false
  /-- The epoch in whose house count the partial packet stands (R86). -/
  counted : Option Nat := none
  bytes : List Byte := []
  ct : Nat := 0
  xs : Nat := 0
  decided : Bool := false
  refused : Bool := false
  deriving DecidableEq, Repr

/-- A packet committed to a stream of a fabric lane, not yet fully sent (R297, R310): the destination its cells name, its class and cut-through code, the crossing bytes that no cell holds yet, its pin entry, epoch, head pointer and owner. -/
structure LanePkt where
  dst : Nat
  fmc : Nat
  tc : Nat
  ct : Nat
  bytes : List Byte
  entry : Nat
  epoch : Nat
  head : Nat
  owner : Nat
  /-- A cell holds its first bytes. -/
  started : Bool := false
  /-- Its ticket was sent with FRAME_LEN 0, so a cell with END 1 ends it (R298). -/
  openEnd : Bool := false
  /-- Its tail has reached this device: with the BAD bit its END cell takes; none while it is still to come (R311). -/
  tail : Option Bool := some false
  deriving DecidableEq, Repr

/-- A packet sent on a fabric lane whose fabric hold runs (R306). -/
structure FabHold where
  entry : Nat
  lane : Nat
  epoch : Nat
  deriving DecidableEq, Repr

/-- A packet that egress has selected, on its way to the egress pipeline (R329). -/
structure EgPkt where
  port : Nat
  /-- The egress queue it left. -/
  queue : Nat
  ticket : Ticket
  frame : List Byte
  since : Nat
  replica : Bool
  mirrored : Bool
  cut : Bool
  /-- The reassembly context from which its tail is still to come (R311). -/
  pend : Option Nat := none
  /-- Where its crossing ends among the bytes that the Dovetail carries T→F; none while its packing has not begun (R12, R14). -/
  fin : Option Nat := none
  deriving DecidableEq, Repr

/-- A rewritten frame that waits for the transmit MAC (R335): insertion mark and capture tag. -/
structure TxFrame where
  port : Nat
  queue : Nat
  frame : List Byte
  ticket : Ticket
  since : Nat
  /-- Mode, byte offset of the field, and the byte offset of the UDP header whose checksum is to be corrected. -/
  insert : Option (Nat × Nat × Option Nat)
  capture : Option Nat
  deriving DecidableEq, Repr

/-- A packet that waits for the replication engine (R325): its pool range, its chain and ticket. -/
structure ReplJob where
  pkt : Pkt
  base : Nat
  count : Nat
  deriving DecidableEq, Repr

/-- Buffers and queues: the Buffer Pool Manager, admission, scheduling, fabric and replication (chapters 11–14). -/
structure TmSt where
  chains : List (Nat × Chain) := []
  hbmRot : Nat := 0
  /-- SPILL_EN has been set once, and HBM_FREE has been given its value (R249). -/
  spilled : Bool := false
  /-- Spill limiter and read limiter (R252); absent means full. -/
  spillB : Option Bucket := none
  readB : Option Bucket := none
  queues : List (Nat × Queue) := []
  arriving : List Arriving := []
  staged : List Staged := []
  /-- Highest U_p since the last read, by pool (R266). -/
  peakU : List (Nat × Nat) := []
  auditing : Bool := false
  /-- Local time of the latest audit pass's start, or of the first setting of SPILL_EN (R265). -/
  auditAt : Nat := 0
  /-- The pointer-error log, newest first, two words each (R267). -/
  ptrLog : List (List W32) := []
  /-- Signed credit balances by VOQ (R276). -/
  credit : List (Nat × Int) := []
  /-- Buckets: uncredited VOQs; nodes (committed, peak) by node index; Rate Follow caps by port; policers (committed, peak). -/
  voqB : List (Nat × Option Bucket) := []
  nodeC : List (Nat × Option Bucket) := []
  nodeP : List (Nat × Option Bucket) := []
  capB : List (Nat × Option Bucket) := []
  polC : List (Nat × Option Bucket) := []
  polP : List (Nat × Option Bucket) := []
  deficits : List (Nat × Deficit) := []
  turns : List (Nat × Turn) := []
  /-- Round-robin places of VOQ service: class 0, and all others (R278). -/
  rr0 : Nat := 0
  rr : Nat := 0
  gens : List (Nat × GenSt) := []
  /-- Dovetail queues by cluster: urgent and general (R14); the clusters last served. -/
  urgent : List (Nat × List Crossing) := []
  general : List (Nat × List Crossing) := []
  /-- Crossings taken for packing whose heads have not arrived, oldest first, each with where it ends among the bytes carried F→T (R12). -/
  packed : List (Crossing × Nat) := []
  rrU : Nat := 15
  rrG : Nat := 15
  /-- Pin table: entries not in their reset value (R316). -/
  pins : List (Nat × PinEnt) := []
  holds : List FabHold := []
  /-- Pin-move records that FAB_PIN_MOVE asked for at the next tick. -/
  moveReq : List Nat := []
  /-- Reachability maps by lane × 256 + chunk (R303). -/
  maps : List (Nat × W64) := []
  /-- Packets committed to lanes, by lane × 4 + stream, oldest first (R297). -/
  laneQ : List (Nat × List LanePkt) := []
  /-- Time since the last slot began, in units of 10 ps, and the slot's place in its group of 25 (R295). -/
  slotAcc : Nat := 0
  slotNo : Nat := 0
  /-- Cells held in lanes' receive buffers, and the lanes on which LFC is set (R301). -/
  rxHeld : List (Nat × Nat) := []
  lfcSet : List Nat := []
  /-- Devices in the reachable set at the latest change, the own device apart. -/
  reachable : List Nat := []
  reasm : List (Nat × Reasm) := []
  /-- Next SEQ by lane × 4 + stream, and LFC bits by lane (R297, R301). -/
  sendSeq : List (Nat × Nat) := []
  /-- Control slots in a row that were bad, by lane (R310). -/
  badSlots : List (Nat × Nat) := []
  lfc : List (Nat × Nat) := []
  /-- Replication queue and the capture of EPP object 0x10 (R325, R336). -/
  repl : List ReplJob := []
  replCap : Option (Nat × Nat) := none
  /-- Crossings to the F-die and rewritten frames, oldest first. -/
  toEgress : List EgPkt := []
  toLine : List TxFrame := []
  deriving DecidableEq, Repr

/-- The ingress side of the clusters (chapter 08). -/
structure IngSt where
  /-- Receive buffers, by cluster, oldest first. -/
  rx : List (Nat × List RxFrame) := []
  /-- Packets in the pipelines, oldest first. -/
  pipe : List IngPkt := []
  /-- Predictor entries by cluster × 1,024 + index. -/
  pred : List (Nat × PredEnt) := []
  /-- Learn candidates on their way to the filter, oldest first (R225). -/
  cands : List LearnCand := []
  deriving DecidableEq, Repr

end Sys2Proof.Machine
end

