-- ==== Sys2Proof/Machine/RegDesc.lean ====
section
/-! DEFINITION. How a register of BAR0 is described: block window, offset, repetition, the bits of each access code, the reset value (R41–R45). -/
namespace Sys2Proof.Machine

/-- One register, or one array of registers, of a block (R41–R45). A bit that no mask names is read-only or reserved. -/
structure RegDesc where
  /-- Block index (R41). -/
  blk : Nat
  /-- Offset in the block's normal view, or in a cluster's slot when `pc`. -/
  off : Nat
  /-- One instance per cluster slot (R43). -/
  pc : Bool := false
  /-- Instances at `stride` bytes. -/
  n : Nat := 1
  stride : Nat := 4
  /-- Bits of access code RW. -/
  rw : W32 := 0
  /-- Bits of access code RS; the staged sub-block they belong to is `sub`. -/
  rs : W32 := 0
  sub : Nat := 0
  /-- Bits of access codes W1C, KW and RC. -/
  w1c : W32 := 0
  kw : W32 := 0
  rc : W32 := 0
  /-- Bits that a read returns as 0 although the write acts on them (WO, and TOP_RESET). -/
  wo : W32 := 0
  /-- Reset value of instance `i`. -/
  reset : Nat → W32 := fun _ => 0

/-- The size of a block window and of a cluster slot (R41, R43). -/
def windowSize : Nat := 0x800000
def slotSize : Nat := 0x40000

/-- The BAR0 offset, in the normal view, of instance `i` in cluster `c`. -/
def RegDesc.addr (d : RegDesc) (c i : Nat) : Nat :=
  d.blk * windowSize + c * slotSize + d.off + i * d.stride

/-- The cluster and instance that the normal-view offset `a` names in `d`, if it names one. -/
def RegDesc.match? (d : RegDesc) (a : Nat) : Option (Nat × Nat) :=
  let o := a % windowSize
  if a / windowSize != d.blk then none
  else
    let c := if d.pc then o / slotSize else 0
    let p := if d.pc then o % slotSize else o
    if p < d.off then none
    else
      let q := p - d.off
      if q % d.stride == 0 && q / d.stride < d.n && c < 16 then some (c, q / d.stride) else none

end Sys2Proof.Machine
end

