-- ==== Sys2Proof/Machine/Registers.lean ====
section
/-! DEFINITION. Every register of the spec that is not computed from other state, with its offset, access codes and reset value, chapter by chapter. -/
namespace Sys2Proof.Machine

/-! Block indices (R41). -/
abbrev bTOP := 0
abbrev bPWR := 1
abbrev bCUE := 2
abbrev bTAB := 3
abbrev bPBK := 4
abbrev bUPD := 5
abbrev bCCX := 6
abbrev bINT := 7
abbrev bLNP := 8
abbrev bOTF := 9
abbrev bLCI := 10
abbrev bIPP := 11
abbrev bSPL := 12
abbrev bFIB := 13
abbrev bEXM := 14
abbrev bACS := 15
abbrev bEPP := 16
abbrev bDVT := 17
abbrev bBPM := 18
abbrev bQAD := 19
abbrev bSCH := 20
abbrev bPOL := 21
abbrev bFAB := 22
abbrev bHBM := 23
abbrev bPCI := 24
abbrev bDMA := 25
abbrev bSTA := 26
abbrev bPMC := 27
abbrev bCAG := 28

/-- Number of blocks. -/
abbrev nBlocks := 29

/-- All ones. -/
abbrev ones : W32 := 0xFFFFFFFF#32

namespace Reg

/-! ### The common block header (R51); instance `i` is the block index. -/
def ID : RegDesc := { blk := 0, off := 0x0, n := 29, stride := 0x800000, reset := fun i => w32 (0xF5120100 + i) }
def CAPS : RegDesc := { blk := 0, off := 0x4, n := 29, stride := 0x800000 }
def STROBE_MAP : RegDesc := { blk := 0, off := 0x8, n := 29, stride := 0x800000, rw := 0x1F1F1F1F#32 }
def WING_PEND : RegDesc := { blk := 0, off := 0xC, n := 29, stride := 0x800000 }
def MBX_CMD : RegDesc := { blk := 0, off := 0x10, n := 29, stride := 0x800000, rw := 0x00FFFF7F#32 }
def MBX_STATUS : RegDesc := { blk := 0, off := 0x14, n := 29, stride := 0x800000, w1c := 0x8#32 }
def MBX_INDEX : RegDesc := { blk := 0, off := 0x18, n := 29, stride := 0x800000, rw := ones }
/-- MBX_DATA word `k` of each block; instance `i` is the block index. -/
def MBX_DATA (k : Nat) : RegDesc := { blk := 0, off := 0x20 + 4 * k, n := 29, stride := 0x800000, rw := ones }
def EVT_STATUS : RegDesc := { blk := 0, off := 0x80, n := 29, stride := 0x800000, w1c := ones }
def EVT_MASK : RegDesc := { blk := 0, off := 0x84, n := 29, stride := 0x800000, rw := ones, reset := fun _ => ones }
def EVT_RING : RegDesc := { blk := 0, off := 0x88, n := 29, stride := 0x800000, rw := 0x8000003F#32 }
/-- PMC_SEL word `k` of each block (R454). -/
def PMC_SEL (k : Nat) : RegDesc :=
  { blk := 0, off := 0xF00 + 4 * k, n := 29, stride := 0x800000, rw := 0x31FFF#32, reset := fun _ => 0x1000#32 }

/-! ### TOP (R4, R58, R64, R471, R472; chapters 00, 02, 21). -/
def TOP_UNLOCK : RegDesc := { blk := bTOP, off := 0x100, wo := 0xFFFF#32 }
def TOP_RESET : RegDesc := { blk := bTOP, off := 0x104, kw := 0x3F0F#32, wo := 0x3F0F#32 }
def TOP_ERR_ADDR : RegDesc := { blk := bTOP, off := 0x110 }
def TOP_ERR_INFO : RegDesc := { blk := bTOP, off := 0x114, w1c := 0x80000000#32 }
def TOP_ERR_COUNT : RegDesc := { blk := bTOP, off := 0x118, rc := ones }
def TOP_BOOT : RegDesc := { blk := bTOP, off := 0x140 }

/-! ### PWR (chapter 21). PWR_PD_CTRL's reset value depends on the variant: the store holds its difference from it. -/
def PWR_PD_CTRL : RegDesc := { blk := bPWR, off := 0x100, kw := ones }
def PWR_PD_STATUS : RegDesc := { blk := bPWR, off := 0x104 }
def PWR_PD_BUSY : RegDesc := { blk := bPWR, off := 0x108 }
def PWR_PD_RESULT : RegDesc := { blk := bPWR, off := 0x10C }
def PWR_THERM : RegDesc := { blk := bPWR, off := 0x120, rw := 0x01FFFFFF#32, reset := fun _ => 0x01647369#32 }
def PWR_TEMP : RegDesc := { blk := bPWR, off := 0x124 }

def PWR_RAIL_STATUS : RegDesc := { blk := bPWR, off := 0x128, w1c := 0x7F#32 }

/-! ### UPD and the fuse register (chapter 18). -/
def UPD_CMD : RegDesc := { blk := bUPD, off := 0x100, wo := 0x77F#32 }
def UPD_SRC_LO : RegDesc := { blk := bUPD, off := 0x104, rw := 0xFFFFF000#32 }
def UPD_SRC_HI : RegDesc := { blk := bUPD, off := 0x108, rw := 0x1F#32 }
def UPD_LEN : RegDesc := { blk := bUPD, off := 0x10C, rw := 0x7FFFFFF#32 }
def UPD_STATUS : RegDesc := { blk := bUPD, off := 0x110 }
def UPD_SLOTS : RegDesc := { blk := bUPD, off := 0x114 }
def UPD_BOOT : RegDesc := { blk := bUPD, off := 0x118 }
def UPD_FLOOR : RegDesc := { blk := bUPD, off := 0x11C }
def TOP_FUSE_PROG : RegDesc := { blk := bTOP, off := 0x130, kw := 0x800003FF#32 }

/-! ### HBM (chapter 15). -/
def HBM_PAGE_CFG : RegDesc := { blk := bHBM, off := 0x100, rw := 0xFF#32, reset := fun _ => 0x30#32 }
def HBM_THERM : RegDesc := { blk := bHBM, off := 0x104, rw := 0x0FFFFFFF#32, reset := fun _ => 0x035F5C55#32 }
def HBM_SCRUB : RegDesc := { blk := bHBM, off := 0x108, rw := 0xFF01#32, reset := fun _ => 0x3C01#32 }
def HBM_STACK_CTRL : RegDesc := { blk := bHBM, off := 0x1000, n := 8, stride := 0x100, rw := 0x10000#32, wo := 3#32, reset := fun _ => 0x10000#32 }
def HBM_STACK_STATUS : RegDesc := { blk := bHBM, off := 0x1004, n := 8, stride := 0x100 }

/-! ### CUE and TAB (chapter 03). -/
def CUE_CTRL : RegDesc := { blk := bCUE, off := 0x100, rw := 0x3FF17#32, reset := fun _ => 0x00020A16#32 }
def CUE_STATUS : RegDesc := { blk := bCUE, off := 0x104 }
def CUE_FREQ_ADJ : RegDesc := { blk := bCUE, off := 0x108, rw := ones }
def CUE_PHASE_ADJ : RegDesc := { blk := bCUE, off := 0x10C, rw := 0xFFFFFF#32 }
def CUE_OSC_CHECK : RegDesc := { blk := bCUE, off := 0x110, rw := 0xFF#32, reset := fun _ => 0x32#32 }
def CUE_SUBMIT_W : RegDesc := { blk := bCUE, off := 0x140, n := 4, rw := ones }
def CUE_SUBMIT_CMD : RegDesc := { blk := bCUE, off := 0x150, rw := 0x3FF#32 }
def CUE_SUBMIT_RESULT : RegDesc := { blk := bCUE, off := 0x154 }
def CUE_STROBE_FIRE : RegDesc := { blk := bCUE, off := 0x160, wo := ones }
def CUE_STROBE_BUSY : RegDesc := { blk := bCUE, off := 0x164 }
def CUE_STROBE_REFUSED : RegDesc := { blk := bCUE, off := 0x168, w1c := ones }
def CUE_EPOCH : RegDesc := { blk := bCUE, off := 0x170 }
def CUE_EPOCH_CMD : RegDesc := { blk := bCUE, off := 0x174, rw := 0x3F#32 }
def CUE_RETAIN : RegDesc := { blk := bCUE, off := 0x178, rw := 0xFF#32, reset := fun _ => 0x28#32 }
def CUE_STRAGGLER : RegDesc := { blk := bCUE, off := 0x17C, rc := ones }
def TAB_CTRL : RegDesc := { blk := bTAB, off := 0x100, rw := 0x7#32, reset := fun _ => 3#32 }
def TAB_TRIGGER : RegDesc := { blk := bTAB, off := 0x104, wo := 1#32 }
def TAB_STATUS : RegDesc := { blk := bTAB, off := 0x108, w1c := 1#32 }
def TAB_REFUSED : RegDesc := { blk := bTAB, off := 0x10C, rc := ones }

/-! ### PBK (chapter 04). -/
def PBK_LOAD_CTRL : RegDesc := { blk := bPBK, off := 0x100, rw := 3#32 }
def PBK_STAGE_ADDR_LO : RegDesc := { blk := bPBK, off := 0x104, rw := 0xFFFFF000#32 }
def PBK_STAGE_ADDR_HI : RegDesc := { blk := bPBK, off := 0x108, rw := 0x1F#32 }
def PBK_CMD : RegDesc := { blk := bPBK, off := 0x110, wo := 0x1F#32 }
def PBK_STATE : RegDesc := { blk := bPBK, off := 0x114 }
def PBK_REASONS : RegDesc := { blk := bPBK, off := 0x118 }
def PBK_SPLIT : RegDesc := { blk := bPBK, off := 0x11C, rs := 3#32, sub := 0 }
def PBK_DROP_NOBOOK : RegDesc := { blk := bPBK, off := 0x120, rc := ones }
def PBK_DROP_DRAIN : RegDesc := { blk := bPBK, off := 0x124, rc := ones }

/-! ### CCX (chapter 17). -/
def CCX_CALL : RegDesc := { blk := bCCX, off := 0x100 }
def CCX_CALL_CMD : RegDesc := { blk := bCCX, off := 0x104, wo := 3#32 }
def CCX_CALL_FORCE : RegDesc := { blk := bCCX, off := 0x108, kw := 0x80000003#32 }
def CCX_HANDOVER : RegDesc := { blk := bCCX, off := 0x110, rs := 3#32, sub := 0 }
/-- CCX_CC_STATUS_A and _B: instance 0 is CC-A. -/
def CCX_CC_STATUS : RegDesc := { blk := bCCX, off := 0x120, n := 2 }
def CCX_CTRL : RegDesc := { blk := bCCX, off := 0x130, rw := 1#32 }
def CCX_FENCE : RegDesc := { blk := bCCX, off := 0x134, rc := ones }

/-! ### INT (chapter 19). INT_CLASS_CFG instance `i` is class `i + 1`. -/
def INT_CLASS_CFG : RegDesc :=
  { blk := bINT, off := 0x104, n := 14, rw := 0xF7#32,
    reset := fun i => if i == 2 || i == 5 || i == 6 then 0x12#32 else if i == 3 then 0x13#32 else if i == 8 then 0x14#32 else 0x10#32 }
def INT_ISO : RegDesc := { blk := bINT, off := 0x200 }
def INT_RELEASE : RegDesc := { blk := bINT, off := 0x208, wo := 0x800FFFFF#32 }
def INT_PROBE_CTRL : RegDesc := { blk := bINT, off := 0x210, rw := 0xF1#32, reset := fun _ => 0x21#32 }

/-! ### LNP (chapter 05). Instances are the sixteen ports, or lanes, of a cluster. -/
def LNP_RF_CTRL : RegDesc := { blk := bLNP, off := 0x100, rw := 0x01FFFFFF#32, reset := fun _ => 0x013C0A32#32 }
def LNP_RF_REQ : RegDesc := { blk := bLNP, off := 0x104, wo := 0x8001FFFF#32 }
def LNP_PORT_CFG : RegDesc :=
  { blk := bLNP, off := 0x1000, pc := true, n := 16, stride := 0x100, rs := 0x7FFFFFFF#32, sub := 0, reset := fun _ => 0x05258000#32 }
def LNP_PORT_STATUS : RegDesc := { blk := bLNP, off := 0x1004, pc := true, n := 16, stride := 0x100 }
def LNP_RF_STATUS : RegDesc := { blk := bLNP, off := 0x1008, pc := true, n := 16, stride := 0x100 }
def LNP_RF_SETUP : RegDesc := { blk := bLNP, off := 0x100C, pc := true, n := 16, stride := 0x100, rw := 0x7FFFFFFF#32 }
def LNP_LANE_CTRL : RegDesc := { blk := bLNP, off := 0x2000, pc := true, n := 16, stride := 0x100, rs := 0x3FFF#32, sub := 1 }
def LNP_LANE_STATUS : RegDesc := { blk := bLNP, off := 0x2004, pc := true, n := 16, stride := 0x100 }
def LNP_LANE_PRBS_ERR : RegDesc := { blk := bLNP, off := 0x2008, pc := true, n := 16, stride := 0x100, rc := ones }

/-! ### OTF (chapter 06). -/
def OTF_ALIGN_CFG : RegDesc :=
  { blk := bOTF, off := 0x1000, pc := true, n := 16, stride := 0x100, rs := 0xF7F7F7#32, sub := 0, reset := fun _ => 0x00535353#32 }
def OTF_OH_CFG : RegDesc :=
  { blk := bOTF, off := 0x1004, pc := true, n := 16, stride := 0x100, rs := 0x03FFFF1F#32, sub := 0, reset := fun _ => 0x00222210#32 }
def OTF_GCC_CFG : RegDesc :=
  { blk := bOTF, off := 0x1008, pc := true, n := 16, stride := 0x100, rw := 0xFFFF#32, reset := fun _ => 0x7E00#32 }
def OTF_GCC_RING : RegDesc := { blk := bOTF, off := 0x100C, pc := true, n := 16, stride := 0x100, rw := 0x01FF01FF#32 }
def OTF_DEFECT : RegDesc := { blk := bOTF, off := 0x1010, pc := true, n := 16, stride := 0x100 }
def OTF_DEFECT_RAW : RegDesc := { blk := bOTF, off := 0x1014, pc := true, n := 16, stride := 0x100 }
def OTF_RX_PSI : RegDesc := { blk := bOTF, off := 0x1018, pc := true, n := 16, stride := 0x100 }

/-! ### LCI (chapter 07). -/
def LCI_LOAD_W : RegDesc := { blk := bLCI, off := 0x100, n := 22, wo := ones }
def LCI_CLEAR_LOAD : RegDesc := { blk := bLCI, off := 0x160, kw := 0x80013FFF#32 }
def LCI_WRAP_LOAD : RegDesc := { blk := bLCI, off := 0x164, wo := 0x80033FFF#32 }
def LCI_CTX_CMD : RegDesc := { blk := bLCI, off := 0x170, rw := 0xFFF73FFF#32 }
def LCI_CTX_STATUS : RegDesc := { blk := bLCI, off := 0x174 }
def LCI_SWITCH_NOW : RegDesc := { blk := bLCI, off := 0x178, wo := 0x80000FFF#32 }
def LCI_BYPASS : RegDesc := { blk := bLCI, off := 0x180, rw := 0x1FFFF#32, reset := fun _ => 0x0001888E#32 }
def LCI_PORT_CFG : RegDesc :=
  { blk := bLCI, off := 0x1000, pc := true, n := 16, stride := 0x100, rs := 0xFF#32, sub := 0, reset := fun _ => 0x78#32 }
def LCI_PORT_TX : RegDesc := { blk := bLCI, off := 0x1004, pc := true, n := 16, stride := 0x100, rw := 0x01FF0000#32 }
def LCI_CLUSTER_STATUS : RegDesc := { blk := bLCI, off := 0x2000, pc := true }
def LCI_CLUSTER_CTRL : RegDesc := { blk := bLCI, off := 0x2004, pc := true, wo := 1#32 }

/-! ### IPP and SPL (chapter 08). -/
def IPP_HASH_SEED : RegDesc := { blk := bIPP, off := 0x100, rs := ones, sub := 1 }
def IPP_PORT_CFG : RegDesc :=
  { blk := bIPP, off := 0x1000, pc := true, n := 16, stride := 0x100, rs := 0x1FFFFF#32, sub := 0, reset := fun _ => 0x00070000#32 }
def IPP_PORT_MISS : RegDesc :=
  { blk := bIPP, off := 0x1004, pc := true, n := 16, stride := 0x100, rs := 0x3FFFFF03#32, sub := 0, reset := fun _ => 0x100#32 }
def IPP_PORT_FAIL : RegDesc :=
  { blk := bIPP, off := 0x1008, pc := true, n := 16, stride := 0x100, rs := 0x3FFFFF03#32, sub := 0, reset := fun _ => 0x200#32 }
def IPP_PRED_CTRL : RegDesc := { blk := bIPP, off := 0x2000, pc := true, rw := 1#32, wo := 2#32, reset := fun _ => 1#32 }
def IPP_PRED_STATUS : RegDesc := { blk := bIPP, off := 0x2004, pc := true }
def SPL_CFG : RegDesc := { blk := bSPL, off := 0x1000, pc := true, rs := 1#32, sub := 1, reset := fun _ => 1#32 }

/-! ### DVT (chapter 01). -/
/-- DVT_LINK_STATUS_FT and _TF: instance 0 is F→T. -/
def DVT_LINK_STATUS : RegDesc := { blk := bDVT, off := 0x100, n := 2 }
def DVT_CNT_CRC : RegDesc := { blk := bDVT, off := 0x110, n := 2, rc := ones }
def DVT_CNT_REPLAY : RegDesc := { blk := bDVT, off := 0x118, n := 2, rc := ones }
def DVT_CNT_RETRAIN : RegDesc := { blk := bDVT, off := 0x120, n := 2, rc := ones }
def DVT_XSIZE : RegDesc := { blk := bDVT, off := 0x130 }

/-! ### PCI and DMA (chapter 16). -/
def PCI_WIN_CTRL : RegDesc := { blk := bPCI, off := 0x200, n := 16, stride := 0x10, rs := 0xFF#32, sub := 0 }
def PCI_WIN_BASE_LO : RegDesc := { blk := bPCI, off := 0x204, n := 16, stride := 0x10, rs := 0xFFFFF000#32, sub := 0 }
def PCI_WIN_BASE_HI : RegDesc := { blk := bPCI, off := 0x208, n := 16, stride := 0x10, rs := 0x1F#32, sub := 0 }

/-- The offset of ring `r` in one numbering of all rings: receive 0–511, transmit 512–1023, event 1024–1087, table-work 1088–1119. -/
def ringOff (r : Nat) : Nat :=
  if r < 512 then 0x10000 + r * 0x40
  else if r < 1024 then 0x20000 + (r - 512) * 0x40
  else if r < 1088 then 0x30000 + (r - 1024) * 0x40
  else 0x31000 + (r - 1088) * 0x40

/-- A register of every ring, given as the four arrays of R377: `k` 0 receive, 1 transmit, 2 event, 3 table-work. -/
def ringReg (k o : Nat) (rw : W32) (rc : W32) : RegDesc :=
  { blk := bDMA, off := (if k == 0 then 0x10000 else if k == 1 then 0x20000 else if k == 2 then 0x30000 else 0x31000) + o,
    n := (if k < 2 then 512 else if k == 2 then 64 else 32), stride := 0x40, rw := rw, rc := rc }

/-- The kind (0–3) of ring `r` in the common numbering, and its number in the kind. -/
def ringKind (r : Nat) : Nat := if r < 512 then 0 else if r < 1024 then 1 else if r < 1088 then 2 else 3
def ringNum (r : Nat) : Nat := if r < 512 then r else if r < 1024 then r - 512 else if r < 1088 then r - 1024 else r - 1088

def DMA_BASE_LO (k : Nat) : RegDesc := ringReg k 0x00 0xFFFFFFC0#32 0
def DMA_BASE_HI (k : Nat) : RegDesc := ringReg k 0x04 ones 0
def DMA_WB_LO (k : Nat) : RegDesc := ringReg k 0x08 0xFFFFFFFC#32 0
def DMA_WB_HI (k : Nat) : RegDesc := ringReg k 0x0C ones 0
def DMA_CFG (k : Nat) : RegDesc := ringReg k 0x10 0x1FFF001F#32 0
def DMA_HOST_IDX (k : Nat) : RegDesc := ringReg k 0x14 0xFFFF#32 0
def DMA_DEV_IDX (k : Nat) : RegDesc := ringReg k 0x18 0 0
def DMA_MOD (k : Nat) : RegDesc := ringReg k 0x1C ones 0
def DMA_DROP (k : Nat) : RegDesc := ringReg k 0x20 0 ones

/-! ### CAG (chapter 16). -/
def CAG_CAGE_CFG : RegDesc :=
  { blk := bCAG, off := 0x1000, n := 64, stride := 0x10, rw := 0x0FFFFFFF#32,
    reset := fun c => w32 (0x06400400 + 4 * c + (c / 4) * 2 ^ 12 + (c % 4) * 2 ^ 16) }
def CAG_CAGE_CTRL : RegDesc := { blk := bCAG, off := 0x1004, n := 64, stride := 0x10, rw := 0x1F#32 }
def CAG_CAGE_STATUS : RegDesc := { blk := bCAG, off := 0x1008, n := 64, stride := 0x10, w1c := 0x60#32 }
/-- CAG_PRESENT_LO and _HI: copies, computed on a read. -/
def CAG_PRESENT : RegDesc := { blk := bCAG, off := 0x200, n := 2 }
/-- CAG_ATTN_LO and _HI: copies, computed on a read; a write clears STATUS.ATTN. -/
def CAG_ATTN : RegDesc := { blk := bCAG, off := 0x208, n := 2 }
def CAG_I2C_CFG : RegDesc := { blk := bCAG, off := 0x100, n := 16, stride := 0x10, rw := 0x3FF#32, reset := fun _ => 0x385#32 }
def CAG_I2C_CMD : RegDesc := { blk := bCAG, off := 0x104, n := 16, stride := 0x10, wo := 0x81FFFFFF#32 }
def CAG_I2C_STATUS : RegDesc := { blk := bCAG, off := 0x108, n := 16, stride := 0x10 }

/-! ### STA and PMC (chapter 20). -/
def STA_CTRL : RegDesc := { blk := bSTA, off := 0x100, rw := 0xFF00#32, reset := fun _ => 0xA00#32 }
def STA_TAB_FIRST : RegDesc := { blk := bSTA, off := 0x104, rw := 0x3FFFFFF#32 }
def STA_TAB_COUNT : RegDesc := { blk := bSTA, off := 0x108, rw := 0x1FFFFF#32 }
def STA_STATUS : RegDesc := { blk := bSTA, off := 0x10C }
def PMC_CTRL : RegDesc := { blk := bPMC, off := 0x100, rw := 0x3F07#32, reset := fun _ => 1#32 }
def PMC_USER : RegDesc := { blk := bPMC, off := 0x104, rw := 1#32 }
def PMC_FC_SEL : RegDesc := { blk := bPMC, off := 0x1000, n := 64, stride := 0x10, rw := 0x3FF1F#32 }
def PMC_FC_FILT : RegDesc := { blk := bPMC, off := 0x1004, n := 64, stride := 0x10, rw := 0x1FFFF#32, reset := fun _ => 0x100FF#32 }
def PMC_FC_REQ : RegDesc := { blk := bPMC, off := 0x1008, n := 64, stride := 0x10, rw := 0x01FF0007#32 }
def PMC_FC_ADDR : RegDesc := { blk := bPMC, off := 0x100C, n := 64, stride := 0x10, rw := 0x87FF07FF#32 }

/-! ### BPM and QAD (chapter 11). HBM regions of absent stacks read 0 by the variant. -/
def BPM_HBM_REGION : RegDesc := { blk := bBPM, off := 0x100, n := 8, rw := 0x7F7F#32, reset := fun _ => 0x3C00#32 }
def BPM_CTRL : RegDesc := { blk := bBPM, off := 0x140, rw := 0x0FFFFF01#32, reset := fun _ => 0x00400000#32 }
def BPM_ONDIE_FREE : RegDesc := { blk := bBPM, off := 0x144, reset := fun _ => 0xC0000#32 }
def BPM_HBM_FREE : RegDesc := { blk := bBPM, off := 0x148 }
def BPM_PREPULL_CFG : RegDesc := { blk := bBPM, off := 0x160, rw := 0x00FFFF01#32, reset := fun _ => 0x00101401#32 }
def BPM_AUDIT_CTRL : RegDesc := { blk := bBPM, off := 0x170, rw := 0xFF01#32, wo := 0x10000#32, reset := fun _ => 0x3C01#32 }
def BPM_AUDIT_STATUS : RegDesc := { blk := bBPM, off := 0x174 }
def QAD_POOL_MIN : RegDesc := { blk := bQAD, off := 0x100, n := 16, stride := 8, rs := 0x0FFFFFFF#32, sub := 1 }
def QAD_POOL_MAX : RegDesc :=
  { blk := bQAD, off := 0x104, n := 16, stride := 8, rs := 0x0FFFFFFF#32, sub := 1, reset := fun _ => 0x0FFFFFFF#32 }
def QAD_CTRL : RegDesc := { blk := bQAD, off := 0x200, rw := 0xF#32 }
def QAD_SHARED : RegDesc := { blk := bQAD, off := 0x204 }
def QAD_ECN_CFG : RegDesc := { blk := bQAD, off := 0x208, rs := 0x1FFFF#32, sub := 2, reset := fun _ => 0x1C2E2#32 }

/-! ### SCH (chapter 12). -/
def SCH_CREDIT_CFG : RegDesc := { blk := bSCH, off := 0x100, rs := 0x3F3#32, sub := 2, reset := fun _ => 0x42#32 }
def SCH_MC_VOQ_BASE : RegDesc := { blk := bSCH, off := 0x104, rs := 0x1FFF8#32, sub := 0, reset := fun _ => 0x1FFF0#32 }
def SCH_HOST_VOQ_BASE : RegDesc := { blk := bSCH, off := 0x108, rs := 0x1FFF8#32, sub := 0, reset := fun _ => 0x1FFF8#32 }

/-! ### FAB and TOP_DEVICE_ID (chapter 13). -/
def FAB_CFG : RegDesc := { blk := bFAB, off := 0x100, rw := 0xFFFFFF1F#32, reset := fun _ => 0x0A320A00#32 }
def FAB_MESH_PEER : RegDesc := { blk := bFAB, off := 0x110, n := 5, rw := 0x3FFF#32 }
def FAB_PIN_CFG : RegDesc := { blk := bFAB, off := 0x130, rw := 0xFFFF#32, reset := fun _ => 0x3E8#32 }
def FAB_PIN_MOVE : RegDesc := { blk := bFAB, off := 0x134, wo := 0x80000FFF#32 }
def FAB_PIN_FORCE : RegDesc := { blk := bFAB, off := 0x138, kw := 0x81FF0FFF#32 }
def FAB_LANE_INSVC : RegDesc := { blk := bFAB, off := 0x140, n := 10 }
def TOP_DEVICE_ID : RegDesc := { blk := bTOP, off := 0x120, kw := 0x3FFF#32 }

/-! ### EPP (chapter 14). -/
def EPP_PORT_CFG : RegDesc := { blk := bEPP, off := 0x1000, pc := true, n := 16, stride := 0x100, rs := 1#32, sub := 0, reset := fun _ => 1#32 }

/-! ### FIB, EXM and ACS (chapters 09, 10). -/
def FIB_WATCH_CMD : RegDesc := { blk := bFIB, off := 0x100, wo := 0x37FFF#32 }
def FIB_WATCH_CFG : RegDesc := { blk := bFIB, off := 0x1000, n := 256, rs := 0xFF01#32, sub := 0 }
def EXM_LRN_CFG : RegDesc := { blk := bEXM, off := 0x100, rs := 0x803F00FF#32, sub := 0, reset := fun _ => 0xA#32 }
def EXM_LRN_RATE : RegDesc := { blk := bEXM, off := 0x104, rw := 0xFFFF#32, reset := fun _ => 0x1000#32 }
def EXM_TBL_AGE : RegDesc := { blk := bEXM, off := 0x1000, n := 128, rw := 0xFFFF#32 }
def EXM_TBL_STATUS : RegDesc := { blk := bEXM, off := 0x1400, n := 128, w1c := 0x02000000#32 }
def ACS_THROTTLE : RegDesc := { blk := bACS, off := 0x100, rw := 0x3FFFFFFF#32, reset := fun _ => 0x0567645F#32 }
def ACS_STATUS : RegDesc := { blk := bACS, off := 0x104, reset := fun _ => 1#32 }
def ACS_STEP_CTRL : RegDesc := { blk := bACS, off := 0x110, wo := 0x3F37F#32 }
def ACS_STEP_STATUS : RegDesc := { blk := bACS, off := 0x114 }

end Reg
end Sys2Proof.Machine
end

