-- ==== Sys2Proof/Machine/State.lean ====
section
/-! DEFINITION. The state of the block: everything the spec gives the device, as plain data, and the queue of waiting commands. -/
namespace Sys2Proof.Machine

/-- The whole device (chapters 00–22), without the command queue and without the held tableau. -/
structure Dev where
  variant : Variant
  /-- Registers in force, and wings of RS registers: by normal-view BAR0 offset; an unlisted register holds its reset value (R42, R47). -/
  regs : List (Nat × W32)
  wings : List (Nat × W32)
  /-- Mailbox objects that are plain records, in force and in the wing, by object key. -/
  objs : List (Nat × List W32)
  objWings : List (Nat × List W32)
  /-- 64-bit counters by counter key. -/
  ctr : List (Nat × Nat)
  /-- Mailbox operations in progress, by block. -/
  mbx : List (Nat × MbxOp)
  arming : Arming
  /-- F-base and T-base are on (R466). -/
  bases : Bool
  cue : CueSt
  tab : TabSt
  rings : List (Nat × RingSt)
  pci : PciSt
  i2c : List (Nat × I2cSt)
  /-- Cages that wait for the Lead's admission, oldest first (R386). -/
  cageWait : List Nat
  ccx : CcxSt
  int : IntSt
  pmc : List (Nat × PmcCtr)
  /-- The gate of the performance counters: PMC_CTRL.RUN as of the latest tick (R457). -/
  pmcRun : Bool
  sta : StaSt
  ports : List (Nat × PortSt)
  otf : List (Nat × OtfSt)
  lci : LciSt
  pbk : PbkSt
  /-- The two region replicas, and the content the intended digests stand for (R29, R434). -/
  rep0 : Rep
  rep1 : Rep
  intent : Rep
  tbl : TblSt
  tm : TmSt
  ing : IngSt
  hbm : HbmSt
  upd : UpdSt
  pwr : PwrSt
  dvtFT : DvtDir
  dvtTF : DvtDir
  /-- How many free values have been drawn (log entry 3). -/
  freeCtr : Nat
  /-- Everything sent to the outside, oldest first (log entry 2). -/
  out : List Out
  deriving DecidableEq, Repr

/-- The state of the block: the device, the device as the held tableau latched it (R93, R463), and the commands that wait, first in, first out. -/
structure State extends Dev where
  latched : Option Dev
  pending : List Instr
  deriving DecidableEq, Repr

/-- A device of a variant right after AON power-on (R470): every register at its reset value, PERST_N asserted, every domain off. -/
def Dev.reset (v : Variant) : Dev :=
  { variant := v, regs := [], wings := [], objs := [], objWings := [], ctr := [], mbx := [], arming := {}, bases := false, cue := {}, tab := {},
    rings := [], pci := {}, i2c := [], cageWait := [], ccx := {}, int := {}, pmc := [], pmcRun := true, sta := {}, ports := [], otf := [],
    lci := {}, pbk := {}, rep0 := {}, rep1 := {}, intent := {}, tbl := {}, tm := {}, ing := {}, hbm := {}, upd := {}, pwr := {},
    dvtFT := {}, dvtTF := {}, freeCtr := 0, out := [] }

/-- Right after reset (R470): a UM-F512A (log entry 1), nothing latched, no command waiting. -/
def State.reset : State := { Dev.reset .a with latched := none, pending := [] }

/-- Reasons for a fault. -/
inductive Fault
  /-- Raised by no command: every command of this block leaves a next state. Safe. -/
  | none
  deriving DecidableEq, Repr

/-- Reasons for a refusal. -/
inductive Refusal
  /-- Raised by a command whose meaning is not written: its mnemonic. Safe. -/
  | notModelled (mnemonic : String)
  deriving DecidableEq, Repr

end Sys2Proof.Machine
end

