-- ==== Sys2Proof/Machine/Ops.lean ====
section
/-! DEFINITION. The shared operations: registers, objects, counters, free values, events and their records, rings and interrupts, the error log, the gate every register write passes. -/
namespace Sys2Proof.Machine

/-! ### Registers, wings, objects and counters: one home each. -/

/-- The value in force of a register. -/
def Dev.rg (s : Dev) (d : RegDesc) (c i : Nat) : W32 := mget (d.reset i) s.regs (d.addr c i)

/-- A field of a register in force, as a number. -/
def Dev.rf (s : Dev) (d : RegDesc) (c i lo len : Nat) : Nat := fld (s.rg d c i) lo len

/-- Set the value in force of a register. -/
def Dev.wg (s : Dev) (d : RegDesc) (c i : Nat) (v : W32) : Dev :=
  { s with regs := mset (d.reset i) s.regs (d.addr c i) v }

/-- Set a field of a register in force. -/
def Dev.wf (s : Dev) (d : RegDesc) (c i lo len v : Nat) : Dev := s.wg d c i (setFld (s.rg d c i) lo len v)

/-- The wing of a register (R42). -/
def Dev.wing (s : Dev) (d : RegDesc) (c i : Nat) : W32 := mget (d.reset i) s.wings (d.addr c i)

/-- Set the wing of a register. -/
def Dev.setWing (s : Dev) (d : RegDesc) (c i : Nat) (v : W32) : Dev :=
  { s with wings := mset (d.reset i) s.wings (d.addr c i) v }

/-- The value of a register for a packet that began its section before tick `t` was taken: the old value while a later firing applies (R82). -/
def Dev.cfg (s : Dev) (t : Nat) (d : RegDesc) (c i : Nat) : W32 :=
  match s.cue.oldRegs.find? (fun o => decide (t < o.tick) && o.key == d.addr c i) with
  | some o => o.reg
  | none => s.rg d c i

/-- The key of mailbox object `obj` of block `b` at an index. -/
def objKey (b obj idx : Nat) : Nat := (b * 256 + obj) * 2 ^ 32 + idx

/-- How many words a plain mailbox object has: step records, FIR coefficients, trail traces, switch records, patterns, queue map, profiles, destination map, nodes, policers, pin moves, probes, I2C bytes and the like. -/
def objWords (b obj : Nat) : Nat :=
  if b == bLNP then 2
  else if b == bOTF then if obj == 0x21 then 2 else 8
  else if b == bLCI || b == bFAB then 1
  else if b == bSPL then if obj == 1 then 8 else 3
  else if b == bQAD then if obj == 0x10 then 4 else if obj == 0x11 then 6 else 1
  else if b == bSCH then if obj == 2 then 6 else if obj == 5 then 4 else 2
  else if b == bPOL then 6
  else if b == bINT then if obj == 5 then 1 else 8
  else if b == bUPD then 3
  else if b == bCAG || b == bACS then 8
  else 4

/-- The reset words of a plain object (R266, R292, R293); zeros elsewhere. -/
def objDflt (b obj idx : Nat) : List W32 :=
  if b == bQAD && obj == 0x10 then [0, 64, 0x888#32, 0]
  else if b == bQAD && obj == 0x11 then List.replicate 6 0x0FFFFFFF#32
  else if b == bSCH && obj == 2 then [0, 0x2580#32, ones, 0x2580#32, 1, 0]
  else if b == bSCH && obj == 4 then [ones, 0x2580#32]
  else if b == bSCH && obj == 5 then [4096#32, ones, 0x11111110#32, w32 (idx * 8)]
  else if b == bPOL && obj == 1 then [ones, 0x2580#32, ones, 0x2580#32, 0, 0]
  else List.replicate (objWords b obj) 0

/-- The staged sub-block of an object, for the objects whose writes land in a wing (R59). -/
def objSub (b obj : Nat) : Option Nat :=
  if b == bSPL && (obj == 1 || obj == 2) then some 0
  else if b == bQAD && (obj == 1 || obj == 2 || obj == 0x10 || obj == 0x11) then some 0
  else if b == bSCH && obj == 1 then some 0
  else if b == bSCH && (obj == 2 || obj == 4) then some 1
  else if b == bSCH && obj == 5 then some 2
  else if b == bPOL && obj == 1 then some 0
  else if b == bINT && obj == 3 then some 1
  else none

/-- Block, object and index of an object key. -/
def keyBlk (k : Nat) : Nat := k / 2 ^ 40
def keyObj (k : Nat) : Nat := k / 2 ^ 32 % 256
def keyIdx (k : Nat) : Nat := k % 2 ^ 32

/-- The words in force of a plain object. -/
def Dev.obj (s : Dev) (b obj idx : Nat) : List W32 := mget (objDflt b obj idx) s.objs (objKey b obj idx)

/-- Set the words in force of a plain object. -/
def Dev.setObj (s : Dev) (b obj idx : Nat) (ws : List W32) : Dev :=
  { s with objs := mset (objDflt b obj idx) s.objs (objKey b obj idx) ws }

/-- The wing of a staged object (R59). -/
def Dev.objWing (s : Dev) (b obj idx : Nat) : List W32 := mget (objDflt b obj idx) s.objWings (objKey b obj idx)

/-- Set the wing of a staged object. -/
def Dev.setObjWing (s : Dev) (b obj idx : Nat) (ws : List W32) : Dev :=
  { s with objWings := mset (objDflt b obj idx) s.objWings (objKey b obj idx) ws }

/-- The words of a staged object for a packet that began its section at tick `t` (R82). -/
def Dev.cfgObj (s : Dev) (t b obj idx : Nat) : List W32 :=
  match s.cue.oldObjs.find? (fun o => decide (t < o.tick) && o.key == objKey b obj idx) with
  | some o => o.words
  | none => s.obj b obj idx

/-- The key of 64-bit counter `k` of an object. -/
def ctrKey (b obj idx k : Nat) : Nat := objKey b obj idx * 8 + k

/-- A 64-bit counter. -/
def Dev.counter (s : Dev) (b obj idx k : Nat) : Nat := mget 0 s.ctr (ctrKey b obj idx k)

/-- Add to a 64-bit counter; they start at zero and never wrap. -/
def Dev.bump (s : Dev) (b obj idx k n : Nat) : Dev :=
  { s with ctr := mset 0 s.ctr (ctrKey b obj idx k) (s.counter b obj idx k + n) }

/-- A saturating 32-bit count register. -/
def Dev.bumpReg (s : Dev) (d : RegDesc) (c i n : Nat) : Dev := s.wg d c i (w32 (sat32 ((s.rg d c i).toNat + n)))

/-- A free value (log entry 3). -/
def Dev.fresh (s : Dev) : W64 × Dev := (Config.freeBits s.freeCtr, { s with freeCtr := s.freeCtr + 1 })

/-- Send something to the outside. -/
def Dev.emit (s : Dev) (o : Out) : Dev := { s with out := s.out ++ [o] }

/-! ### Blocks: presence, die, staged sub-blocks, power. -/

/-- An HBM stack, the framer, Spotlight, the fabric are present on a variant (R1). -/
def Variant.hasStack (v : Variant) (k : Nat) : Bool :=
  match v with
  | .c => k == 0 || k == 1 || k == 4 || k == 5
  | _ => k < 8
def Variant.hasOtn : Variant → Bool | .c => false | _ => true
def Variant.hasSpl : Variant → Bool | .c => false | _ => true
def Variant.hasFab : Variant → Bool | .s => false | _ => true

/-- TOP_CAPS (R5). -/
def Variant.caps : Variant → W32
  | .a => 0x0001FFF1#32
  | .c => 0x0001C332#32
  | .s => 0x0001BFF3#32

/-- The bit of a variant in the envelope's VARIANTS field (R94). -/
def Variant.index : Variant → Nat | .a => 0 | .c => 1 | .s => 2

/-- Reset value of PWR_PD_CTRL (chapter 21). -/
def Variant.pdReset : Variant → W32
  | .a => 0xFFFFFFFF#32
  | .c => 0xF33BFFFF#32
  | .s => 0xCFFFFFFF#32

/-- The power domains that a variant has (R1, R466). -/
def Variant.hasDomain (v : Variant) (d : Nat) : Bool := bit v.pdReset d

/-- PWR_PD_CTRL in force: the store holds its difference from the variant's reset value. -/
def Dev.pdCtrl (s : Dev) : W32 := s.rg Reg.PWR_PD_CTRL 0 0 ^^^ s.variant.pdReset

/-- Set PWR_PD_CTRL. -/
def Dev.setPdCtrl (s : Dev) (v : W32) : Dev := s.wg Reg.PWR_PD_CTRL 0 0 (v ^^^ s.variant.pdReset)

/-- A block lies on the F-die (R9). -/
def onFDie (b : Nat) : Bool := (8 ≤ b && b ≤ 16) || b == bPOL || b == bCAG

/-- A block has cluster slots (R43). -/
def hasSlots (b : Nat) : Bool := b == bLNP || b == bOTF || b == bLCI || b == bIPP || b == bSPL || b == bEPP

/-- The staged sub-blocks that each block's chapter names (R496). -/
def subsOf (b : Nat) : List Nat :=
  if b == bPBK || b == bCCX || b == bOTF || b == bLCI || b == bPCI || b == bEPP then [0]
  else if b == bINT then [1]
  else if b == bLNP || b == bIPP || b == bSPL then [0, 1]
  else if b == bFIB || b == bEXM || b == bPOL then [0]
  else if b == bQAD then [0, 1, 2]
  else if b == bSCH then [0, 1, 2]
  else []

/-- The strobe group of sub-block `k` of block `b` (R49). -/
def Dev.groupOf (s : Dev) (b k : Nat) : Nat := s.rf Reg.STROBE_MAP 0 b (8 * k) 5

/-- Domain `d` is on and its transition complete. -/
def Dev.pdOn (s : Dev) (d : Nat) : Bool := bit (s.rg Reg.PWR_PD_STATUS 0 0) d

/-- Domain `d` is in transition. -/
def Dev.pdBusy (s : Dev) (d : Nat) : Bool := bit (s.rg Reg.PWR_PD_BUSY 0 0) d

/-- The power domain, if any, that a location of block `b` at in-window normal-view offset `o` needs (R54, R466; log entry 8). -/
def domainOf (b o : Nat) : Option Nat :=
  let cl := o / slotSize
  let inSlot := 0x1000 ≤ o % slotSize
  if b == bLCI then some 17
  else if b == bSPL then some 18
  else if b == bLNP || b == bOTF || b == bIPP || b == bEPP then if inSlot then some cl else none
  else if b == bACS then some 19
  else if b == bFIB || b == bEXM || b == bPOL then some 16
  else if b == bHBM && 0x1000 ≤ o && o < 0x1800 then some (20 + (o - 0x1000) / 0x100)
  else none

/-! ### The Dovetail, isolation and the Call, as other blocks ask about them. -/

/-- The Dovetail of either direction has failed (R19). -/
def Dev.dvtFailed (s : Dev) : Bool :=
  s.rf Reg.DVT_LINK_STATUS 0 0 0 3 == 4 || s.rf Reg.DVT_LINK_STATUS 0 1 0 3 == 4

/-- The device is stopped (R441). -/
def Dev.stopped (s : Dev) : Bool := bit (s.rg Reg.INT_ISO 0 0) 31

/-- Cluster `c` is isolated, alone or with its region (R441). -/
def Dev.clusterIso (s : Dev) (c : Nat) : Bool :=
  s.stopped || bit (s.rg Reg.INT_ISO 0 0) c || bit (s.rg Reg.INT_ISO 0 0) (16 + c / 8) || bit (s.rg Reg.INT_ISO 0 0) (20 + c / 8)

/-- F-die and T-die region `r` is isolated. -/
def Dev.fIso (s : Dev) (r : Nat) : Bool := bit (s.rg Reg.INT_ISO 0 0) (16 + r)
def Dev.tIso (s : Dev) (r : Nat) : Bool := bit (s.rg Reg.INT_ISO 0 0) (18 + r)

/-- HOLDER of the Call (R394). -/
def Dev.holder (s : Dev) : Nat := s.rf Reg.CCX_CALL 0 0 0 2

/-- A complex holds the Call and runs: Lead duties are done (R399, R403). -/
def Dev.leadRuns (s : Dev) : Bool :=
  (s.holder == 1 && s.ccx.runA) || (s.holder == 2 && s.ccx.runB)

/-- The current epoch, the retiring epoch if one is live, and the quarantined ones (R85). -/
def Dev.epochNow (s : Dev) : Nat := s.rf Reg.CUE_EPOCH 0 0 0 4
def Dev.retiring (s : Dev) : Option Nat :=
  if bit (s.rg Reg.CUE_EPOCH 0 0) 8 then some (s.rf Reg.CUE_EPOCH 0 0 4 4) else none
def Dev.quarantined (s : Dev) (e : Nat) : Bool := bit (s.rg Reg.CUE_EPOCH 0 0) (16 + e % 16)

/-- The time of the Cue Clock in words 0–2 of the time layout (R73). -/
def timeWords (sec ns : Nat) : List W32 := [w32 ns, w32 sec, w32 (sec / 2 ^ 32 % 2 ^ 16)]

/-- TIME_US as records give it (R227): microseconds of the Cue Clock, modulo 2^32. -/
def Dev.timeUs (s : Dev) : W32 := w32 (s.cue.sec * 1000000 + s.cue.ns / 1000)

/-- A written time layout is refused (R73). -/
def badTime (ws : List W32) : Bool := decide (1000000000 ≤ wordN ws 0) || decide (2 ^ 16 ≤ wordN ws 2)

/-! ### Performance counters (R454–R459). -/

/-- What a counted event carries for the filters of R456: class, port, requester kind and number, HBM address. -/
structure EvAttr where
  tc : Option Nat := none
  port : Option Nat := none
  req : Option (Nat × Nat) := none
  addr : Option Nat := none
  deriving DecidableEq, Repr

/-- The events of R455 exist in a block. -/
def pmcListed (b e : Nat) : Bool :=
  e < 4 || (0x10 ≤ e && e - 0x10 <
    (if b == bIPP || b == bHBM then 5 else if b == bBPM then 4
     else if b == bEXM || b == bDVT || b == bQAD || b == bSCH || b == bFAB || b == bDMA || b == bSTA then 3
     else if b == bACS || b == bFIB || b == bLCI || b == bCCX then 2 else if b == bEPP then 1 else 0))

/-- Add `n` to a performance counter: past 2^48 − 1 a counter with SAMPLE 0 continues from 0 and PMC event 2 is due; a sampling one waits for its reload (R458). -/
def Dev.pmcAdd (s : Dev) (id n : Nat) (sample : Bool) : Dev × Bool :=
  let k := mget ({} : PmcCtr) s.pmc id
  let v := k.value + n
  let wrap := decide (2 ^ 48 ≤ v) && !sample
  ({ s with pmc := mset {} s.pmc id { k with value := if wrap then v % 2 ^ 48 else v } }, wrap)

/-- Filtered counter `k` takes an event of attributes `at` (R456): none when a filter names an attribute the event lacks. -/
def Dev.fcTakes (s : Dev) (k : Nat) (a : EvAttr) : Option Bool :=
  let f := s.rg Reg.PMC_FC_FILT 0 k
  let q := s.rg Reg.PMC_FC_REQ 0 k
  let ad := s.rg Reg.PMC_FC_ADDR 0 k
  let tcOn := fld f 0 8 != 0xFF
  let portOn := !bit f 16
  let reqOn := fld q 0 3 != 0
  let adOn := bit ad 31
  if (tcOn && a.tc.isNone) || (portOn && a.port.isNone) || (reqOn && a.req.isNone) || (adOn && a.addr.isNone) then none
  else some (
    (!tcOn || bit f (a.tc.getD 0)) && (!portOn || fld f 8 8 == a.port.getD 0)
      && (!reqOn || (fld q 0 3 == (a.req.getD (0, 0)).1 && (fld q 0 3 > 4 || fld q 16 9 == (a.req.getD (0, 0)).2)))
      && (!adOn || (decide (fld ad 0 11 ≤ a.addr.getD 0 / 2 ^ 26) && decide (a.addr.getD 0 / 2 ^ 26 < fld ad 16 11))))

/-- Set an event bit of a block without its record: used inside the making of records, and where no record is due. -/
def Dev.setEvt (s : Dev) (b e : Nat) : Dev := s.wg Reg.EVT_STATUS 0 b (setBit (s.rg Reg.EVT_STATUS 0 b) e true)

/-- Count `n` events `e` of block `b` (in cluster `cl` where it has slots) in every counter that selects them (R454–R457); answers whether PMC event 1 and event 2 are due. -/
def Dev.countCore (s : Dev) (b e cl n : Nat) (a : EvAttr) : Dev × Bool × Bool :=
  if !s.pmcRun || n == 0 || !pmcListed b e then (s, false, false)
  else
    let step1 := (List.range 8).foldl (fun (acc : Dev × Bool × Bool) k =>
      let sel := acc.1.rg (Reg.PMC_SEL k) 0 b
      if bit sel 16 && fld sel 0 8 == e && (!hasSlots b || bit sel 12 || fld sel 8 4 == cl) then
        let (s', w) := acc.1.pmcAdd (b * 8 + k) n (bit sel 17)
        (s', acc.2.1, acc.2.2 || w)
      else acc) (s, false, false)
    (List.range 64).foldl (fun (acc : Dev × Bool × Bool) k =>
      let sel := acc.1.rg Reg.PMC_FC_SEL 0 k
      if bit sel 16 && fld sel 8 8 == e && fld sel 0 5 == b then
        match acc.1.fcTakes k a with
        | none => (acc.1, true, acc.2.2)
        | some false => acc
        | some true =>
          let (s', w) := acc.1.pmcAdd (256 + k) n (bit sel 17)
          (s', acc.2.1, acc.2.2 || w)
      else acc) step1

/-! ### Rings (R376–R378). Ring `r` in the common numbering of `Reg.ringKind`. -/

/-- A DMA register of ring `r`. -/
def Dev.ringRg (s : Dev) (d : Nat → RegDesc) (r : Nat) : W32 := s.rg (d (Reg.ringKind r)) 0 (Reg.ringNum r)
def Dev.ringWg (s : Dev) (d : Nat → RegDesc) (r : Nat) (v : W32) : Dev := s.wg (d (Reg.ringKind r)) 0 (Reg.ringNum r) v
def Dev.ring (s : Dev) (r : Nat) : RingSt := mget {} s.rings r
def Dev.setRing (s : Dev) (r : Nat) (x : RingSt) : Dev := { s with rings := mset {} s.rings r x }
def Dev.hostIdx (s : Dev) (r : Nat) : Nat := fld (s.ringRg Reg.DMA_HOST_IDX r) 0 16
def Dev.devIdx (s : Dev) (r : Nat) : Nat := fld (s.ringRg Reg.DMA_DEV_IDX r) 0 16
def Dev.ringState (s : Dev) (r : Nat) : Nat := fld (s.ringRg Reg.DMA_DEV_IDX r) 16 3

/-- Entries outstanding of a receive, transmit or table-work ring (R376). -/
def Dev.outstanding (s : Dev) (r : Nat) : Nat := (s.hostIdx r + 65536 - s.devIdx r) % 65536

/-- Free slots of an event ring (R376). -/
def Dev.freeSlots (s : Dev) (r : Nat) : Nat := 2 ^ (s.ring r).log2 - (s.devIdx r + 65536 - s.hostIdx r) % 65536

/-- The device may issue requests: Bus Master Enable, D0, a link, no FLR (R367, R370, R371, R373). -/
def Dev.mastering (s : Dev) : Bool :=
  s.pci.busMaster && !s.pci.d3hot && (s.pci.link == 1 || s.pci.link == 2) && !s.pci.flr && !s.pci.perst

/-- Raise MSI-X vector `v`: a message, or its PBA bit when it is masked or requests may not be issued (R370, R378). -/
def Dev.raiseVector (s : Dev) (v : Nat) : Dev :=
  let masked := s.pci.msixMask || bit (mget 1#32 s.pci.msix (4 * v + 3)) 0
  if s.mastering && s.pci.msixEn && !masked then
    s.emit (.msix ((mget 0#32 s.pci.msix (4 * v)).toNat + 2 ^ 32 * (mget 0#32 s.pci.msix (4 * v + 1)).toNat)
      (mget 0#32 s.pci.msix (4 * v + 2)))
  else if s.pci.pba.contains v then s
  else { s with pci := { s.pci with pba := v :: s.pci.pba } }

/-- Raise the vector of a ring whose IRQ_EN is 1, and restart its moderation (R378). -/
def Dev.ringVector (s : Dev) (r : Nat) : Dev :=
  let cfg := s.ringRg Reg.DMA_CFG r
  if bit cfg 28 then (s.setRing r { s.ring r with fresh := 0 }).raiseVector (fld cfg 16 11) else s

/-- Write the index word of a ring to its write-back address, when bus mastering allows (R376). -/
def Dev.writeBackIdx (s : Dev) (r : Nat) : Dev :=
  if s.mastering then s.emit (.hostWrite (s.ring r).wb (wordsBytes [s.ringRg Reg.DMA_DEV_IDX r]) false false) else s

/-- Advance DEV_IDX of a ring by `n` entries, write the index back and moderate the interrupt (R376, R378). -/
def Dev.ringAdvance (s : Dev) (r n : Nat) : Dev :=
  if n == 0 then s
  else
    let s := s.ringWg Reg.DMA_DEV_IDX r (setFld (s.ringRg Reg.DMA_DEV_IDX r) 0 16 (s.devIdx r + n))
    let s := s.writeBackIdx r
    let s := s.setRing r { s.ring r with fresh := (s.ring r).fresh + n }
    let cnt := max 1 (fld (s.ringRg Reg.DMA_MOD r) 16 16)
    if cnt ≤ (s.ring r).fresh then s.ringVector r else s

/-- The host address of the slot of entry `i` of a ring, `size` bytes an entry (R376). -/
def Dev.slotAddr (s : Dev) (r i size : Nat) : Nat := (s.ring r).base + (i % 2 ^ (s.ring r).log2) * size

/-- Write a 32-byte record to event ring `e` (R382): answers whether it was dropped. -/
def Dev.pushRecord (s : Dev) (e : Nat) (ws : List W32) : Dev × Bool :=
  let r := 1024 + e % 64
  if s.ringState r == 1 && s.freeSlots r > 0 && s.mastering then
    let s := s.emit (.hostWrite (s.slotAddr r (s.devIdx r) 32) (wordsBytes ws) false false)
    (s.ringAdvance r 1, false)
  else (s.ringWg Reg.DMA_DROP r (w32 (sat32 ((s.ringRg Reg.DMA_DROP r).toNat + 1))), true)

/-! ### Events (R52, R382). -/

/-- Set event `e` of block `b` and, when the bit changes from 0 while it is unmasked and reporting is enabled, write its record; answers whether a record was dropped. -/
def Dev.eventCore (s : Dev) (b e : Nat) : Dev × Bool :=
  let old := s.rg Reg.EVT_STATUS 0 b
  let s := s.setEvt b e
  let ring := s.rg Reg.EVT_RING 0 b
  if !bit old e && !bit (s.rg Reg.EVT_MASK 0 b) e && bit ring 31 then
    s.pushRecord (fld ring 0 6)
      [at_ 0 8 1 ||| at_ 8 5 b ||| at_ 16 5 e, s.rg Reg.EVT_STATUS 0 b, w32 s.cue.ns, w32 s.cue.sec, 0, 0, 0, 0]
  else (s, false)

/-- Event `e` of block `b` occurs (R52); a dropped record sets DMA event 2 (R382). -/
def Dev.event (s : Dev) (b e : Nat) : Dev :=
  let isNew := !bit (s.rg Reg.EVT_STATUS 0 b) e
  let (s, dropped) := s.eventCore b e
  let s := if dropped then (s.eventCore bDMA 2).1 else s
  if isNew then (s.countCore b 3 0 1 {}).1 else s

/-- An event when a condition holds. -/
def Dev.eventIf (s : Dev) (p : Bool) (b e : Nat) : Dev := if p then s.event b e else s

/-- Write a record other than a block event record; a drop sets DMA event 2 (R382). -/
def Dev.record (s : Dev) (ring : Nat) (ws : List W32) : Dev × Bool :=
  let (s, dropped) := s.pushRecord ring ws
  (if dropped then s.event bDMA 2 else s, dropped)

/-- Count an event of R455, with the PMC events it may set (R456, R462). -/
def Dev.count (s : Dev) (b e cl n : Nat) (a : EvAttr := {}) : Dev :=
  let (s, e1, e2) := s.countCore b e cl n a
  (s.eventIf e1 bPMC 1).eventIf e2 bPMC 2

/-- Stop a ring: STATE and ERR, the index word, its vector, the DMA event (R377). Entries not yet reported never are; reads still outstanding complete for nothing (R370). -/
def Dev.ringStop (s : Dev) (r st err : Nat) : Dev :=
  let s := s.ringWg Reg.DMA_DEV_IDX r (setFld (setFld (s.ringRg Reg.DMA_DEV_IDX r) 16 3 st) 20 4 err)
  let x := s.ring r
  let s := s.setRing r { x with desc := [], reading := 0, late := x.late + x.reading, held := [] }
  let s := s.writeBackIdx r
  let s := s.ringVector r
  if st == 3 then s.event bDMA 0 else if st == 2 then s.event bDMA 1 else s

/-- Every ring number of the common numbering that is running. -/
def Dev.runningRings (s : Dev) : List Nat := (List.range 1120).filter fun r => s.ringState r == 1

/-! ### The error log (R57, R58). -/

/-- The number of a requester in TOP_ERR_INFO.REQ. -/
def Req.num : Req → Nat | .host => 0 | .ccA => 1 | .ccB => 2

/-- Log an access: count it, and latch it when nothing is latched (R58). -/
def Dev.logErr (s : Dev) (cause addr : Nat) (write view : Bool) (q : Req) : Dev :=
  let s := s.bumpReg Reg.TOP_ERR_COUNT 0 0 1
  if bit (s.rg Reg.TOP_ERR_INFO 0 0) 31 then s
  else
    let s := s.wg Reg.TOP_ERR_ADDR 0 0 (at_ 0 28 addr)
    let s := s.wg Reg.TOP_ERR_INFO 0 0 (at_ 0 4 cause ||| atB 4 write ||| atB 5 view ||| at_ 8 2 q.num ||| atB 31 true)
    s.event bTOP 0

/-- The arming of a requester. -/
def Arming.get (a : Arming) : Req → Bool | .host => a.host | .ccA => a.ccA | .ccB => a.ccB
def Arming.set (a : Arming) (q : Req) (v : Bool) : Arming :=
  match q with
  | .host => { a with host := v }
  | .ccA => { a with ccA := v }
  | .ccB => { a with ccB := v }

/-! ### The gate of register accesses (R46, R54, R57, R400). -/

/-- Why an access does not reach its register. -/
inductive Denial
  /-- A bus error with its CAUSE (R57). -/
  | bus (cause : Nat)
  /-- A completer abort with its CAUSE (R54). -/
  | abort (cause : Nat)
  deriving DecidableEq, Repr

/-- The block of a normal-view or active-view offset belongs to an absent unit (R6, R44). -/
def Dev.absentAt (s : Dev) (a : Nat) : Bool :=
  let b := a / windowSize
  let o := a % windowSize % 0x400000
  (b == bOTF && !s.variant.hasOtn) || (b == bSPL && !s.variant.hasSpl) || (b == bFAB && !s.variant.hasFab)
    || (b == bHBM && (match domainOf b o with | some d => !s.variant.hasStack (d - 20) | none => false))

/-- Blocks that F-die reset or a stopped base holds out of reach (R54, R470, R472): the F-die while the bases are off; everything but AON blocks before the bases are on.
DESIGN CHOICE (log entry 113): a block of the F-die whose domain is off, while the Dovetail is failed, is out of reach for CAUSE 9. -/
def Dev.unreachable (s : Dev) (a : Nat) : Option Nat :=
  let b := a / windowSize
  let o := a % windowSize % 0x400000
  let aon := b == bTOP || b == bPWR || b == bCUE || b == bPCI
  if !s.bases && !aon then some 6
  else if onFDie b && s.dvtFailed then some 9
  else match domainOf b o with
    | some d => if s.pdOn d && !s.pdBusy d then none else some 6
    | none => none

/-- What keeps an access to offset `a` from its register, in the order of R57 and then R54. `known` says that a location exists there. -/
def Dev.denied (s : Dev) (x : Access) (write known : Bool) : Option Denial :=
  let a := x.addr.toNat
  let active := decide (0x400000 ≤ a % windowSize)
  if x.len.val != 4 || !x.full || a % 4 != 0 then some (.bus 4)
  else if s.absentAt a then some (.bus 2)
  else if write && active then some (.bus 3)
  else if !known then some (.bus 1)
  else (s.unreachable a).map .abort

/-- A configuration register that software writes, by byte offset, with its reset value `d` (R361; log entry 59). -/
def Dev.pciCfg (s : Dev) (d : W32) (o : Nat) : W32 := mget d s.pci.cfg o
def Dev.setPciCfg (s : Dev) (d : W32) (o : Nat) (v : W32) : Dev := { s with pci := { s.pci with cfg := mset d s.pci.cfg o v } }

/-- Reset values of Device Control, and of AER's severity and correctable-mask registers (log entry 59). -/
def devCtlReset : W32 := 0x2800#32
def aerSevReset : W32 := 0x00062010#32
def aerCorMaskReset : W32 := 0x2000#32

/-- The host address of a byte of BAR0: the base that software wrote (R361). -/
def Dev.bar0At (s : Dev) (a : Nat) : Nat := (s.pciCfg 0 0x10).toNat / 2 ^ 28 * 2 ^ 28 + 2 ^ 32 * (s.pciCfg 0 0x14).toNat + a

/-- The four words of the TLP header of a memory write (R57; log entry 59): format and type, the length in words, the byte enables of an access with all of them set, the address. What the host alone chooses (traffic class, attributes, requester, tag, partial byte enables) is taken from the free words `u`. -/
def Dev.tlpHeader (s : Dev) (x : Access) (u : W64) : List W32 :=
  let at0 := s.bar0At x.addr.toNat
  let wide := decide (2 ^ 32 ≤ at0)
  let lead := at0 % 4
  let dws := max 1 ((lead + x.len.val + 3) / 4)
  let be (lo hi : Nat) : Nat := 2 ^ hi - 2 ^ lo
  let first := be lead (min 4 (lead + x.len.val))
  let last := if dws == 1 then 0 else be 0 (lead + x.len.val - 4 * (dws - 1))
  let own := w32 u.toNat
  let w0 := at_ 0 10 dws ||| at_ 24 8 (if wide then 0x60 else 0x40) ||| (own &&& 0x0075F000#32)
  let w1 := if x.full then at_ 0 4 first ||| at_ 4 4 last ||| (w32 (u.toNat / 2 ^ 32) &&& 0xFFFFFF00#32) else w32 (u.toNat / 2 ^ 32)
  if wide then [w0, w1, w32 (at0 / 2 ^ 32), w32 (at0 / 4 * 4)] else [w0, w1, w32 (at0 / 4 * 4), 0]

/-- A host write answered with Unsupported Request is reported through AER (R57): the status bits, and the TLP header in a log that is not yet in use. -/
def Dev.aerReport (s : Dev) (x : Access) : Dev :=
  let fatal := bit (s.pciCfg aerSevReset 0x10C) 20
  let s := s.setPciCfg devCtlReset 0x78 (setBit (setBit (s.pciCfg devCtlReset 0x78) 19 true) (if fatal then 18 else 17) true)
  let ues := s.pciCfg 0 0x104
  let used := bit ues (fld (s.pciCfg 0 0x118) 0 5)
  let s := s.setPciCfg 0 0x104 (setBit ues 20 true)
  if used || bit (s.pciCfg 0 0x108) 20 then s
  else
    let u := s.fresh
    let h := s.tlpHeader x u.1
    let s := u.2.setPciCfg 0 0x118 20#32
    (((s.setPciCfg 0 0x11C (word h 0)).setPciCfg 0 0x120 (word h 1)).setPciCfg 0 0x124 (word h 2)).setPciCfg 0 0x128 (word h 3)

/-- Answer a denied access and log it (R57, R58). -/
def Dev.deny (s : Dev) (x : Access) (write : Bool) (d : Denial) : Dev :=
  let a := x.addr.toNat
  let active := decide (0x400000 ≤ a % windowSize)
  match d with
  | .bus c =>
    let s := (s.emit (.unsupported x.req write)).logErr c a write active x.req
    if write && x.req == .host then s.aerReport x else s
  | .abort c => (s.emit (.abort x.req write)).logErr c a write active x.req

/-- A write of a complex that does not hold the Call is fenced (R400): all blocks but CCX, and in CCX all but CALL_CMD and its own CC_STATUS are left to their own rules. -/
def Dev.isFenced (s : Dev) (q : Req) (a : Nat) : Bool :=
  match q with
  | .host => false
  | .ccA => s.holder != 1 && a / windowSize != bCCX
  | .ccB => s.holder != 2 && a / windowSize != bCCX

/-- Discard a fenced write: error response, CCX_FENCE, CCX event 5 (R400). -/
def Dev.fence (s : Dev) (q : Req) : Dev :=
  let v := s.rg Reg.CCX_FENCE 0 0
  let v := if q == .ccA then setFld v 0 16 (satAdd 16 (fld v 0 16) 1) else setFld v 16 16 (satAdd 16 (fld v 16 16) 1)
  (((s.emit (.fenced q)).wg Reg.CCX_FENCE 0 0 v).event bCCX 5).count bCCX 0x11 0 1 { req := some (if q == .ccA then 5 else 6, 0) }

/-- A requester as an attribute of register-access events (R455, R456). -/
def Req.attr : Req → EvAttr
  | .host => { req := some (7, 0) }
  | .ccA => { req := some (5, 0) }
  | .ccB => { req := some (6, 0) }

/-- The cluster whose slot holds an offset, in blocks with slots (R43). -/
def slotOf (a : Nat) : Nat := a % windowSize % 0x400000 / slotSize

/-- A host access to a BAR does not reach the device (R361, R367, R371, R373): Memory Space clear, D3hot, an FLR in progress, PERST_N asserted, no link. -/
def Dev.hostShut (s : Dev) (q : Req) : Bool :=
  q == .host && (!s.pci.memSpace || s.pci.d3hot || s.pci.flr || s.pci.perst || s.pci.link == 0)

/-- A write of the register at BAR0 address `a` by requester `q` passes the gate, is counted, and only then acts.
DESIGN CHOICE (log entry 114): a write that is both denied (R54, R57) and fenced (R400) is denied and logged, and not counted as fenced. -/
def Dev.gate (s : Dev) (q : Req) (a : Nat) (act : Dev → Dev) : Dev :=
  let x : Access := { req := q, space := .bar0, addr := BitVec.ofNat 28 a, len := 4, full := true }
  if s.hostShut q then s.emit (.unsupported q true)
  else match s.denied x true true with
  | some den => s.deny x true den
  | none =>
    if s.isFenced q a then s.fence q
    else act (s.count (a / windowSize) 1 (slotOf a) 1 q.attr)

/-- A register write by requester `q` to the normal-view register `d` at `(c, i)` that has its own command: it consumes the arming, whatever its outcome (R63). `act` receives whether the requester was armed. -/
def Dev.gateWrite (s : Dev) (q : Req) (d : RegDesc) (c i : Nat) (act : Dev → Bool → Dev) : Dev :=
  { s with arming := s.arming.set q false }.gate q (d.addr c i) fun t => act t (s.arming.get q)

/-- As `gateWrite` for a KW register: a write without arming is discarded and logged with CAUSE 7 (R64). -/
def Dev.gateKw (s : Dev) (q : Req) (d : RegDesc) (c i : Nat) (act : Dev → Dev) : Dev :=
  s.gateWrite q d c i fun s armed => if armed then act s else s.logErr 7 (d.addr c i) true false q

/-- The value a normal write of access codes RW, W1C and RW alone leaves (R45): KW bits only when armed. -/
def writeValue (d : RegDesc) (old v : W32) (armed : Bool) : W32 :=
  let wmask := (d.rw ||| (if armed then d.kw else 0)) &&& ~~~d.wo
  ((old &&& ~~~wmask) ||| (v &&& wmask)) &&& ~~~(v &&& d.w1c)

/-- Store what a write of an RW register leaves (R45). -/
def Dev.storeRw (s : Dev) (d : RegDesc) (c i : Nat) (v : W32) : Dev := s.wg d c i (writeValue d (s.rg d c i) v false)

/-! ### Lists keyed by number that hold only keys. -/

/-- Add a member to a list without repeats. -/
def addKey (l : List Nat) (k : Nat) : List Nat := if l.contains k then l else k :: l
/-- Take a member out. -/
def delKey (l : List Nat) (k : Nat) : List Nat := l.filter fun x => x != k

/-! ### House counts (R86). -/

/-- House count of epoch `e`, and its part under the fabric hold. -/
def Dev.houseOf (s : Dev) (e : Nat) : Nat := mget 0 s.cue.house (e % 16)
def Dev.houseFabOf (s : Dev) (e : Nat) : Nat := mget 0 s.cue.houseFab (e % 16)
/-- The part of epoch `e`'s count that the F-die keeps (R33; log entry 115): copies in the ingress pipelines and in the Dovetail's F→T direction until they arrive, and copies past the Dovetail on their way to a line. -/
def Dev.houseOnF (s : Dev) (e : Nat) : Nat :=
  let mine (k : Ticket) : Nat := (k.epoch.toNat == e % 16).toNat
  let queued := (s.tm.urgent ++ s.tm.general).foldl (fun (n : Nat) q => q.2.foldl (fun (n : Nat) x => n + mine x.ticket) n) 0
  (s.ing.pipe.filter fun k => k.epoch == e % 16).length + queued
    + s.tm.packed.foldl (fun (n : Nat) x => n + mine x.1.ticket) 0 + s.tm.toLine.foldl (fun (n : Nat) t => n + mine t.ticket) 0
/-- The counts of the F-die and of the T-die for epoch `e`, whose sum is the house count (R33, R86). -/
def Dev.houseDies (s : Dev) (e : Nat) : Nat × Nat :=
  let f := min (s.houseOf e) (s.houseOnF e)
  (f, s.houseOf e - f)
/-- The dies exchange their counts over the sideband (R33). -/
def Dev.houseExchange (s : Dev) : Dev :=
  { s with cue := { s.cue with houseX := (List.range 16).foldl (fun (m : List (Nat × (Nat × Nat))) e => mset (0, 0) m e (s.houseDies e)) [] } }
/-- The house count of epoch `e` as the latest exchange gave it. -/
def Dev.houseSeen (s : Dev) (e : Nat) : Nat :=
  let x := mget (0, 0) s.cue.houseX (e % 16)
  x.1 + x.2
/-- A copy of epoch `e` comes into being. -/
def Dev.houseIn (s : Dev) (e n : Nat) : Dev :=
  { s with cue := { s.cue with house := mmod 0 s.cue.house (e % 16) (· + n) } }
/-- A quarantined epoch whose house count is zero leaves quarantine (R88). -/
def Dev.quarantineEnd (s : Dev) (e : Nat) : Dev :=
  if s.quarantined e && s.houseOf e == 0 then s.wf Reg.CUE_EPOCH 0 0 (16 + e % 16) 1 0 else s
/-- `n` copies of epoch `e` cease to be counted; at zero a quarantine ends (R88). -/
def Dev.houseOut (s : Dev) (e n : Nat) : Dev :=
  ({ s with cue := { s.cue with house := mmod 0 s.cue.house (e % 16) (· - n) } }).quarantineEnd e
/-- The part under the fabric hold changes. -/
def Dev.houseFabIn (s : Dev) (e n : Nat) : Dev :=
  { s with cue := { s.cue with houseFab := mmod 0 s.cue.houseFab (e % 16) (· + n) } }
def Dev.houseFabOut (s : Dev) (e n : Nat) : Dev :=
  { s with cue := { s.cue with houseFab := mmod 0 s.cue.houseFab (e % 16) (· - n) } }

/-! ### What a command leaves (R93). -/

/-- TAB_STATUS.HELD. -/
def Dev.tabHeld (s : Dev) : Bool := bit (s.rg Reg.TAB_STATUS 0 0) 0

/-- The state with device `d` and the latched copy `l`, which is held only while HELD is 1; the queue stays. -/
def State.put (s : State) (d : Dev) (l : Option Dev) : State := { s with toDev := d, latched := if d.tabHeld then l else none }

/-- The outcome of a command whose effect on the device is `f`. -/
def State.on (s : State) (f : Dev → Dev) : Host.Outcome State Fault Refusal := .next (s.put (f s.toDev) s.latched)

/-- The retention limit in force, in ms (CUE_RETAIN). -/
def Dev.retainMs (s : Dev) : Nat := max 21 (s.rf Reg.CUE_RETAIN 0 0 0 8)

end Sys2Proof.Machine
end

