-- ==== Sys2Proof/Machine/Buffers.lean ====
section
/-! DEFINITION. Buckets and rates, buffer pointers and chains, queues with their depth and linkage, admission and placement: the operations of chapters 11 and 12 that the packet path shares. -/
namespace Sys2Proof.Machine

/-! ### Rates and buckets (R270–R272). Tokens are in units of 1/(8 × 10^9) byte, so that a rate in bit/s times ns counts exactly. -/

/-- Tokens in one byte. -/
abbrev tokByte : Int := 8000000000

/-- A rate word in bit/s; none means unlimited (R270). -/
def rateOf (w : W32) : Option Nat :=
  if w == ones then none
  else if fld w 28 4 ≥ 10 then some 4000000000000
  else some (min 4000000000000 (fld w 0 28 * 10 ^ fld w 28 4))

/-- A bucket size word in bytes (R271). -/
def sizeOf_ (w : W32) : Nat := max 64 (fld w 0 24 * 2 ^ min 7 (fld w 24 4))

/-- The tokens a bucket holds now, at rate `r` and size `size` bytes: full when absent or unlimited (R270, R272, R286). -/
def Bucket.now (b : Option Bucket) (r : Option Nat) (size now : Nat) : Int :=
  let cap : Int := size * tokByte
  match r, b with
  | none, _ => cap
  | some _, none => cap
  | some v, some x => min cap (x.tok + v * (now - x.at_))

/-- The bucket after a charge of `n` bytes; a charge never lowers an unlimited bucket. -/
def Bucket.charge (b : Option Bucket) (r : Option Nat) (size now : Nat) (n : Int) : Option Bucket :=
  match r with
  | none => none
  | some _ => some { tok := Bucket.now b r size now - n * tokByte, at_ := now }

/-- A token count as a signed 32-bit word of bytes (R292, R293). -/
def tokWord (t : Int) : W32 := BitVec.ofInt 32 (t / tokByte)

/-! ### Buffer pointers and chains (R246–R248). -/

/-- Number of on-die buffers. -/
abbrev nOnDie := 786432

/-- The pointer of on-die buffer `i`, and of buffer `i` of stack `k` (R247). -/
def ptrOnDie (i : Nat) : Nat := 2 ^ 29 + i
def ptrHbm (k i : Nat) : Nat := k * 2 ^ 26 + i

/-- A pointer names an on-die buffer. -/
def isOnDie (p : Nat) : Bool := p / 2 ^ 29 % 2 == 1

/-- The packet region of a stack in buffers: from BASE to LIMIT (R249), ending at 15 GiB (R343); an absent stack has none. -/
def Dev.region (s : Dev) (k : Nat) : Nat × Nat :=
  if !s.variant.hasStack k then (0, 0)
  else
    let r := s.rg Reg.BPM_HBM_REGION 0 k
    let b := min 60 (fld r 0 7)
    let l := min 60 (fld r 8 7)
    (b * 2 ^ 20, max b l * 2 ^ 20)

/-- A chain holds buffer `p`. -/
def Dev.bufUsed (s : Dev) (p : Nat) : Bool := s.tm.chains.any fun c => c.2.bufs.contains p

/-- The chain whose head is `p`. -/
def Dev.chain? (s : Dev) (p : Nat) : Option Chain := (s.tm.chains.find? fun c => c.1 == p).map Prod.snd

/-- The cause for which a presented pointer is refused (R248, R267), if any; `head` asks for a head in use. -/
def Dev.ptrBad (s : Dev) (p : Nat) (head : Bool) : Option Nat :=
  let form := if isOnDie p then p / 2 ^ 20 % 2 ^ 9 != 0 || p % 2 ^ 20 ≥ nOnDie else decide (2 ^ 29 ≤ p)
  if form then some 1
  else if !isOnDie p && !s.variant.hasStack (p / 2 ^ 26 % 8) then some 2
  else if !isOnDie p && (p % 2 ^ 26 < (s.region (p / 2 ^ 26)).1 || (s.region (p / 2 ^ 26)).2 ≤ p % 2 ^ 26) then some 3
  else if !head then none
  else if (s.chain? p).isSome then none
  else if s.bufUsed p then some 4 else some 5

/-- Log a refusal or reclaim (R267). -/
def Dev.ptrLogAdd (s : Dev) (p cause agent owner : Nat) : Dev :=
  { s with tm := { s.tm with ptrLog :=
      ([at_ 0 30 p ||| atB 31 true, at_ 0 4 cause ||| at_ 4 4 agent ||| at_ 14 10 owner] :: s.tm.ptrLog).take 64 } }

/-- Buffers that `n` stored bytes take (R246). -/
def bufsFor (n : Nat) : Nat := max 1 ((n + 255) / 256)

/-- The crossing form in force (R11); 32 before a book gives one. -/
def Dev.xsize (s : Dev) : Nat := max 32 (s.rf Reg.DVT_XSIZE 0 0 0 7)

/-- Stored bytes of a frame without FCS. -/
def Dev.stored (s : Dev) (frame : List Byte) : Nat := s.xsize + frame.length

/-- The first index at or after `i`, cyclically below `bound`, whose pointer `f` gives is not in use; `fuel` bounds the search. -/
def Dev.findFree (s : Dev) (f : Nat → Nat) (lo bound : Nat) : Nat → Nat → Option Nat
  | 0, _ => none
  | fuel + 1, i =>
    let p := f (lo + i % bound)
    if s.bufUsed p then s.findFree f lo bound fuel (i + 1) else some p

/-- Take one buffer, chosen freely among the free ones (log entry 12): on-die, or of stack `k`. -/
def Dev.takeBuf (s : Dev) (stack : Option Nat) (used : List Nat) : Option (Nat × Dev) :=
  let (v, s') := s.fresh
  let probe : Dev := { s' with tm := { s'.tm with chains := (2 ^ 40, { bufs := used, owners := [] }) :: s'.tm.chains } }
  match stack with
  | none => (probe.findFree ptrOnDie 0 nOnDie nOnDie (v.toNat % nOnDie)).map fun p => (p, s')
  | some k =>
    let (lo, hi) := s.region k
    if hi ≤ lo then none
    else (probe.findFree (ptrHbm k) lo (hi - lo) (hi - lo) (v.toNat % (hi - lo))).map fun p => (p, s')

/-- Take `n` buffers of one memory. -/
def Dev.takeBufs (s : Dev) (stack : Option Nat) : Nat → List Nat → Option (List Nat × Dev)
  | 0, acc => some (acc.reverse, s)
  | n + 1, acc =>
    match s.takeBuf stack acc with
    | none => none
    | some (p, s') => s'.takeBufs stack n (p :: acc)

/-- Free on-die and HBM buffers. -/
def Dev.onDieFree (s : Dev) : Nat := s.rf Reg.BPM_ONDIE_FREE 0 0 0 20
def Dev.urgentRsv (s : Dev) : Nat := s.rf Reg.BPM_CTRL 0 0 8 20
def Dev.hbmFree (s : Dev) : Nat := s.rf Reg.BPM_HBM_FREE 0 0 0 29
def Dev.spillEn (s : Dev) : Bool := bit (s.rg Reg.BPM_CTRL 0 0) 0

/-- Buffers in use of stack `k`. -/
def Dev.stackUsed (s : Dev) (k : Nat) : Nat :=
  s.tm.chains.foldl (fun n c => n + (c.2.bufs.filter fun p => !isOnDie p && p / 2 ^ 26 == k).length) 0

/-- STATE of a stack (R346), and the derate step, which is at least 1 until every present stack has given a valid reading (R354). -/
def Dev.stackState (s : Dev) (k : Nat) : Nat := s.rf Reg.HBM_STACK_STATUS 0 k 0 3
def Dev.derate (s : Dev) : Nat :=
  let v := s.rf Reg.HBM_STACK_STATUS 0 0 4 2
  if (List.range 8).all fun k => !s.variant.hasStack k || s.hbm.seen.contains k then v else max 1 v

/-- A stack unit is isolated alone (R441): the unit code of HBM, T-die, region `k / 4`, instance `k % 4`. -/
def Dev.stackIso (s : Dev) (k : Nat) : Bool :=
  s.tIso (k / 4) || s.int.units.contains (at_ 0 5 bHBM ||| at_ 5 5 31 ||| at_ 10 2 (k / 4) ||| at_ 12 1 1 ||| at_ 15 17 (k % 4)).toNat

/-- A stack serves requests: present, READY, not isolated (R351, R441). -/
def Dev.stackServes (s : Dev) (k : Nat) : Bool := s.variant.hasStack k && s.stackState k == 4 && !s.stackIso k

/-- Stack `k` can place packets: it serves, is not too hot, and has a free buffer in its region (R250, R354, R441). -/
def Dev.stackFree (s : Dev) (k : Nat) : Bool :=
  s.stackServes k && !s.hbm.hot.contains k && decide (s.stackUsed k < (s.region k).2 - (s.region k).1)

/-- The HBM byte address of an HBM buffer pointer (R247). -/
def ptrAddr (p : Nat) : Nat := p / 2 ^ 26 % 8 * 2 ^ 34 + p % 2 ^ 26 * 256

/-- The HBM blocks of the chain whose head is `h`. -/
def Dev.chainBlocks (s : Dev) (h : Nat) : List Nat := ((s.chain? h).map fun c => c.bufs.map ptrAddr).getD []

/-- The pseudo-channel, bank and row of an HBM address, and the bank's key (R345). -/
def hbmPc (addr : Nat) : Nat := (addr / 2 ^ 8 % 64) ^^^ (addr / 2 ^ 20 % 64)
def hbmBank (addr : Nat) : Nat := (addr / 2 ^ 16 % 16) ^^^ (addr / 2 ^ 20 % 16)
def hbmRow (addr : Nat) : Nat := addr / 2 ^ 20 % 2 ^ 14
def bankKey (k pc bank : Nat) : Nat := k * 1024 + pc * 16 + bank

/-- An access to the 256-byte block at `addr` (R352): another row is activated; with IDLE 0 the row closes again. Open rows are stored plus one. -/
def Dev.touch (s : Dev) (addr : Nat) : Dev :=
  let key := bankKey (addr / 2 ^ 34 % 8) (hbmPc addr) (hbmBank addr)
  let row := hbmRow addr + 1
  let s := if mget 0 s.hbm.rows key == row then s else s.count bHBM 0x14 0 1
  let stay := s.rf Reg.HBM_PAGE_CFG 0 0 0 8 != 0
  { s with hbm := { s.hbm with rows := mset 0 s.hbm.rows key (if stay then row else 0) } }

/-- Access the blocks listed, or the contiguous ones of `bytes` bytes from `addr`. -/
def Dev.touchAll (s : Dev) (addr bytes : Nat) (blocks : List Nat) : Dev :=
  let l := if blocks.isEmpty then (List.range ((addr % 256 + bytes + 255) / 256)).map fun i => addr / 256 * 256 + 256 * i else blocks
  l.foldl (fun s a => s.touch a) s

/-- Traffic of a stack at an HBM byte address (R352, R358, R455); `blocks` names the blocks when they do not follow each other. -/
def Dev.hbmRead (s : Dev) (addr bytes : Nat) (packet : Bool) (req : Option (Nat × Nat) := none) (blocks : List Nat := []) : Dev :=
  let k := addr / 2 ^ 34 % 8
  let n := (bytes + 31) / 32
  let s := ((s.bump bHBM 3 k (if packet then 1 else 2) (32 * n)).bump bHBM 1 k 2 n)
  (s.touchAll addr bytes blocks).count bHBM 0x10 0 n { req := req, addr := some addr }
def Dev.hbmWrite (s : Dev) (addr bytes : Nat) (packet : Bool) (req : Option (Nat × Nat) := none) (blocks : List Nat := []) : Dev :=
  let k := addr / 2 ^ 34 % 8
  let n := (bytes + 31) / 32
  let s := ((s.bump bHBM 3 k (if packet then 0 else 2) (32 * n)).bump bHBM 1 k 3 n)
  (s.touchAll addr bytes blocks).count bHBM 0x11 0 n { req := req, addr := some addr }

/-- An entry of the HBM error log (R359). -/
def Dev.hbmEntry (s : Dev) (cause req addr : Nat) (synd : W32 := 0) : List W32 :=
  [atB 31 true ||| at_ 28 3 cause ||| at_ 20 4 req ||| at_ 3 6 (hbmPc (addr % 2 ^ 34)) ||| at_ 0 3 (addr / 2 ^ 34), w32 (addr % 2 ^ 34),
    at_ 16 16 synd.toNat ||| at_ 0 2 (addr % 2 ^ 34 / 2 ^ 32), s.timeUs]
def Dev.hbmLog (s : Dev) (cause req addr : Nat) (synd : W32 := 0) : Dev :=
  { s with hbm := { s.hbm with log := (s.hbmEntry cause req addr synd :: s.hbm.log).take 64 } }

/-- HBM_FREE once SPILL_EN has been set: the buffers not in use of the stacks that serve (R249, R343, R441, R472). -/
def Dev.recountHbm (s : Dev) : Dev :=
  if !s.tm.spilled then s
  else s.wf Reg.BPM_HBM_FREE 0 0 0 29
    ((List.range 8).foldl (fun n k => if s.stackServes k then n + ((s.region k).2 - (s.region k).1 - s.stackUsed k) else n) 0)

/-- Put a chain into use and count its buffers out of the free ones. -/
def Dev.addChain (s : Dev) (bufs owners : List Nat) : Dev :=
  match bufs with
  | [] => s
  | h :: _ =>
    let s := { s with tm := { s.tm with chains := minsert s.tm.chains h ({ bufs := bufs, owners := owners, mark := true } : Chain) } }
    if isOnDie h then s.wf Reg.BPM_ONDIE_FREE 0 0 0 20 (s.onDieFree - bufs.length)
    else s.wf Reg.BPM_HBM_FREE 0 0 0 29 (s.hbmFree - bufs.length)

/-! ### Queues. VOQ `v` has key `v`, egress queue `e` key 131,072 + `e` (R266). -/

/-- Number of VOQs, and of egress queues. -/
abbrev nQ := 131072

def Dev.queue (s : Dev) (q : Nat) : Queue := mget {} s.tm.queues q
def Dev.setQueue (s : Dev) (q : Nat) (x : Queue) : Dev := { s with tm := { s.tm with queues := mset {} s.tm.queues q x } }

/-! ### Chains that return to the free lists (R264). -/

/-- Mark the chain that holds buffer `p`, while an audit pass runs (R265). -/
def Dev.markChain (s : Dev) (p : Nat) : Dev :=
  if !s.tm.auditing then s
  else { s with tm := { s.tm with chains := s.tm.chains.map fun (c : Nat × Chain) => if c.2.bufs.contains p then (c.1, { c.2 with mark := true }) else c } }

/-- Release `n` buffers charged to queue `q`. -/
def Dev.releaseQ (s : Dev) (q n : Nat) (onDie : Bool) : Dev :=
  let x := s.queue q
  s.setQueue q { x with depth := x.depth - n, onDie := x.onDie - (if onDie then n else 0), hbm := x.hbm - (if onDie then 0 else n) }

/-- The queues that a chain's head is still charged to: once for each copy linked there, and for an arriving packet that is not linked. -/
def Dev.chargedTo (s : Dev) (h : Nat) : List Nat :=
  (s.tm.queues.flatMap fun e => (e.2.pkts.filter fun k => k.head == h).map fun _ => e.1)
    ++ (s.tm.arriving.filter fun a => !a.linked && a.pkt.head == h).map fun a => a.queue

/-- Return a chain to the free lists; its charges are released. -/
def Dev.dropChain (s : Dev) (h : Nat) : Dev :=
  match s.chain? h with
  | none => s
  | some c =>
    let s := (s.chargedTo h).foldl (fun s q => s.releaseQ q c.bufs.length (isOnDie h)) s
    let s := { s with tm := { s.tm with chains := merase s.tm.chains h } }
    if isOnDie h then s.wf Reg.BPM_ONDIE_FREE 0 0 0 20 (s.onDieFree + c.bufs.length)
    else if s.stackServes (h / 2 ^ 26) then s.wf Reg.BPM_HBM_FREE 0 0 0 29 (s.hbmFree + c.bufs.length)
    else s

/-- A refused pointer: count, log with the owner that a free named, BPM event 0, integrity class 10 left to the caller (R248, R267). -/
def Dev.refusePtr (s : Dev) (p cause agent : Nat) (owner : Nat := 0) : Dev :=
  ((s.bump bBPM 1 0 0 1).ptrLogAdd p cause agent owner).event bBPM 0

/-- A free names a head pointer and an owner (R264). -/
def Dev.freeOwner (s : Dev) (p owner agent : Nat) : Dev :=
  let s := s.markChain p
  match s.ptrBad p true with
  | some c => s.refusePtr p c agent owner
  | none =>
    match s.chain? p with
    | none => s
    | some c =>
      if !c.owners.contains owner then
        ((s.bump bBPM 1 0 1 1).ptrLogAdd p 6 agent owner).event bBPM 1
      else
        let rest := delKey c.owners owner
        if rest.isEmpty then s.dropChain p
        else { s with tm := { s.tm with chains := minsert s.tm.chains p { c with owners := rest, mark := true } } }

/-- The queue-map word of a queue, its pool and profile, for a decision at tick `t` (R262, R266). -/
def Dev.qmap (s : Dev) (q t : Nat) : W32 := word (s.cfgObj t bQAD (if q < nQ then 1 else 2) (q % nQ)) 0
def Dev.poolOf (s : Dev) (q : Nat) : Nat := fld (word (s.obj bQAD (if q < nQ then 1 else 2) (q % nQ)) 0) 0 4
def Dev.profOf (s : Dev) (q : Nat) : Nat := fld (word (s.obj bQAD (if q < nQ then 1 else 2) (q % nQ)) 0) 8 6

/-- A threshold word in buffers: units of 4 buffers (R259). -/
def thresh (w : W32) : Nat := 4 * fld w 0 28

/-- QMIN of a queue. -/
def Dev.qmin (s : Dev) (q : Nat) : Nat := thresh (word (s.obj bQAD 0x10 (s.profOf q)) 0)

/-- U_p: excesses of the pool's queues, and the shared chains charged to it (R258, R263). -/
def Dev.poolUse (s : Dev) (p : Nat) : Nat :=
  s.tm.queues.foldl (fun n e => if s.poolOf e.1 == p then n + (e.2.depth - s.qmin e.1) else n) 0
    + s.tm.chains.foldl (fun n c => if c.2.mcPool == some p then n + c.2.bufs.length else n) 0

/-- PMIN and PMAX of a pool in buffers. -/
def Dev.pmin (s : Dev) (p : Nat) : Nat := thresh (s.rg Reg.QAD_POOL_MIN 0 p)
def Dev.pmax (s : Dev) (p : Nat) : Nat := thresh (s.rg Reg.QAD_POOL_MAX 0 p)

/-- Σ QMIN over all queues: the queues whose map entry names another profile than 0 are counted one by one. -/
def Dev.sumQmin (s : Dev) : Nat :=
  let m0 := thresh (word (s.obj bQAD 0x10 0) 0)
  let other := s.objs.foldl (fun (acc : Nat × Nat) e =>
    if keyBlk e.1 == bQAD && (keyObj e.1 == 1 || keyObj e.1 == 2) then
      let q := if keyObj e.1 == 1 then keyIdx e.1 else nQ + keyIdx e.1
      (acc.1 + 1, acc.2 + s.qmin q)
    else acc) (0, 0)
  m0 * (2 * nQ - other.1) + other.2

/-- Packet buffers in all: on-die ones, and those of the packet regions once spilling has been set. -/
def Dev.totalBufs (s : Dev) : Nat :=
  nOnDie + (if s.tm.spilled then (List.range 8).foldl (fun n k => n + ((s.region k).2 - (s.region k).1)) 0 else 0)

/-- The device shared free as a signed number (R258). -/
def Dev.sharedFree (s : Dev) : Int :=
  (s.totalBufs : Int) - s.urgentRsv - (List.range 16).foldl (fun n p => n + s.pmin p) 0 - s.sumQmin
    - (List.range 16).foldl (fun n p => n + (s.poolUse p - s.pmin p)) 0

/-- The configured reserves exceed the total (R258). -/
def Dev.reservesNeg (s : Dev) : Bool :=
  decide ((s.totalBufs : Int) - s.urgentRsv - (List.range 16).foldl (fun n p => n + s.pmin p) 0 - s.sumQmin < 0)

/-- QAD_SHARED (R258): G, and NEG. -/
def Dev.sharedReg (s : Dev) : W32 :=
  at_ 0 29 (if s.reservesNeg then 0 else s.sharedFree.toNat) ||| atB 31 s.reservesNeg

/-- QAD_SHARED and its event, after occupancy or configuration has changed (R258); a read computes the register anew. -/
def Dev.refreshShared (s : Dev) : Dev :=
  (s.wg Reg.QAD_SHARED 0 0 s.sharedReg).eventIf (s.reservesNeg && !bit (s.rg Reg.QAD_SHARED 0 0) 31) bQAD 2

/-- F_p, what pool `p` can still take (R258). -/
def Dev.poolRoom (s : Dev) (p : Nat) : Nat :=
  let u := s.poolUse p
  (s.pmin p - u) + min (s.sharedFree.toNat) (s.pmax p - max u (s.pmin p))

/-- `E ≥ α × F` with α encoded (R260): α = 2^(a − 8), 0 for 0, values above 12 act as 12. -/
def overAlpha (a e f : Nat) : Bool :=
  if a == 0 then true else decide (f * 2 ^ min 12 a ≤ e * 2 ^ 8)

/-- Why a packet is not admitted or placed (R250, R259). -/
inductive Refuse | limit | threshold | onDieFull | hbmRate
  deriving DecidableEq, Repr

/-- The judgement of a packet of colour `c` for queue `q` decided at tick `t` (R259). -/
def Dev.judge (s : Dev) (q c t : Nat) : Option Refuse :=
  let m := s.qmap q t
  let prof := fld m 8 6
  let p10 := s.cfgObj t bQAD 0x10 prof
  let p11 := s.cfgObj t bQAD 0x11 prof
  let d := (s.queue q).depth
  let qm := thresh (word p10 0)
  let f := s.poolRoom (fld m 0 4)
  if thresh (word p11 (3 + min c 2)) ≤ d then some .limit
  else if d < qm then none
  else if f == 0 || overAlpha (wfld p10 2 (4 * min c 2) 4) (d - qm) f then some .threshold
  else none

/-- The packet is to be marked (R261). Result byte `i` of the ticket carries the ECT bit. -/
def Dev.ecnMarks (s : Dev) (q t : Nat) (k : Ticket) : Bool :=
  let e := s.cfg t Reg.QAD_ECN_CFG 0 0
  let prof := fld (s.qmap q t) 8 6
  bit e 16 && bit (word (s.cfgObj t bQAD 0x10 prof) 2) 16
    && bit (k.res.getD (fld e 0 5) 0) (fld e 5 3)
    && decide (thresh (word (s.cfgObj t bQAD 0x11 prof) (min k.colour.toNat 2)) ≤ (s.queue q).depth)

/-- Set the CE bit of a ticket (R261). -/
def Dev.setCe (s : Dev) (t : Nat) (k : Ticket) : Ticket :=
  let e := s.cfg t Reg.QAD_ECN_CFG 0 0
  let i := fld e 8 5
  { k with res := k.res.set i (k.res.getD i 0 ||| BitVec.ofNat 8 (2 ^ fld e 13 3)) }

/-- The spill limiter's rate in bit/s by derate step, and its bucket size (R252, R354). -/
def Dev.spillRate (s : Dev) : Nat :=
  let a := if s.derate == 0 then 51200000000000 else if s.derate == 1 then 48000000000000 else 38400000000000
  if s.variant == .c then a / 2 else a
abbrev spillSize := 262144

/-- Where a packet of class `tc` for queue `q` goes (R250): the chosen stack or on-die, whether it counts as overflow, or why it is dropped. -/
def Dev.place (s : Dev) (q tc : Nat) (fromFabric : Bool) (t : Nat) : Except Refuse (Option Nat × Bool) :=
  let free := s.onDieFree
  let above := decide (s.urgentRsv < free)
  let odq := thresh (word (s.cfgObj t bQAD 0x10 (fld (s.qmap q t) 8 6)) 1)
  if tc == 0 then if 0 < free then .ok (none, false) else .error .onDieFull
  else if nQ ≤ q && fromFabric then if above then .ok (none, false) else .error .onDieFull
  else if q < nQ && (s.queue q).onDie < odq && above then .ok (none, false)
  else
    let budget := decide ((0 : Int) < Bucket.now s.tm.spillB (some s.spillRate) spillSize s.cue.localNs)
    let stack := ((List.range 8).map fun i => (s.tm.hbmRot + i) % 8).find? fun k => s.stackFree k
    match s.spillEn, budget, stack with
    | true, true, some k => .ok (some k, false)
    | en, bu, _ =>
      if above then .ok (none, true)
      else if en && !bu then .error .hbmRate else .error .onDieFull

/-- Count a drop at admission by its cause, with its event (R266, R267). -/
def Dev.countRefuse (s : Dev) (r : Refuse) : Dev :=
  match r with
  | .limit => s.bump bQAD 0x30 0 0 1
  | .threshold => s.bump bQAD 0x30 0 1 1
  | .onDieFull => (s.bump bQAD 0x30 0 2 1).event bQAD 1
  | .hbmRate => (s.bump bQAD 0x30 0 3 1).event bQAD 0

/-- The use of pool `p` may have grown: its highest value since the last read (R266). -/
def Dev.notePeak (s : Dev) (p : Nat) : Dev :=
  let u := s.poolUse p
  { s with tm := { s.tm with peakU := if mget 0 s.tm.peakU p < u then mset 0 s.tm.peakU p u else s.tm.peakU } }

/-- A firing has moved queues between pools, or changed their reserves (R262, R266). -/
def Dev.notePeaks (s : Dev) : Dev := (List.range 16).foldl (fun s p => s.notePeak p) s

/-- Charge `n` buffers to queue `q`. -/
def Dev.chargeQ (s : Dev) (q n : Nat) (onDie : Bool) : Dev :=
  let x := s.queue q
  let s := s.setQueue q { x with depth := x.depth + n, onDie := x.onDie + (if onDie then n else 0), hbm := x.hbm + (if onDie then 0 else n) }
  s.notePeak (s.poolOf q)

/-- A chain that replicas share is charged once, to MC_POOL (R263). -/
def Dev.chargeShared (s : Dev) (p : Nat) : Dev :=
  match s.chain? p with
  | none => s
  | some c =>
    let pool := s.rf Reg.QAD_CTRL 0 0 0 4
    { s with tm := { s.tm with chains := minsert s.tm.chains p ({ c with mcPool := some pool } : Chain) } }.notePeak pool

/-- Register the owner set of a chain in one write; a shared one is charged to MC_POOL (R263, R326). -/
def Dev.setOwners (s : Dev) (p : Nat) (owners : List Nat) (shared : Bool) : Dev :=
  match s.chain? p with
  | none => s
  | some c =>
    let s := { s with tm := { s.tm with chains := minsert s.tm.chains p ({ c with owners := owners, mark := true } : Chain) } }
    if shared then s.chargeShared p else s

/-- Buffers of the chain of a packet. -/
def Dev.pktBufs (s : Dev) (k : Pkt) : Nat := ((s.chain? k.head).map fun c => c.bufs.length).getD 0

/-- CRC-32C of a head pointer, as the linkage checksum takes it: four bytes, least significant first (R439; log entry 13). -/
def linkTerm (p : Nat) : W32 := crc32c (leBytes 4 p)

/-- Link a packet at the tail of its queue (R439). -/
def Dev.enqueue (s : Dev) (q : Nat) (k : Pkt) : Dev :=
  let s := s.markChain k.head
  let x := s.queue q
  s.setQueue q { x with pkts := x.pkts ++ [k], link := x.link ^^^ linkTerm k.head }

/-- Discard the staged copies for which a condition holds: only staging slots are freed (R255). -/
def Dev.unstage (s : Dev) (p : Staged → Bool) : Dev :=
  let n := (s.tm.staged.filter p).length
  if n == 0 then s
  else (({ s with tm := { s.tm with staged := s.tm.staged.filter fun x => !p x } }).bump bBPM 1 1 2 n).count bBPM 0x13 0 n

/-- On-die buffers a packet of class `tc` may still take (R251). -/
def Dev.onDieRoom (s : Dev) (tc : Nat) : Nat := if tc == 0 then s.onDieFree else s.onDieFree - s.urgentRsv

/-- Buffers of memory `mem` for a chain of class `tc`; none when they run out. -/
def Dev.takeFor (s : Dev) (tc n : Nat) (mem : Option Nat) : Option (List Nat × Dev) :=
  if mem.isNone && s.onDieRoom tc < n then none else s.takeBufs mem n []

/-- Charge the spill limiter for an HBM packet write and move the rotation on (R250, R252). -/
def Dev.spillCharge (s : Dev) (k bytes : Nat) (bufs : List Nat) : Dev :=
  let b := Bucket.charge s.tm.spillB (some s.spillRate) spillSize s.cue.localNs (((bytes + 31) / 32 * 32 : Nat) : Int)
  ({ s with tm := { s.tm with spillB := b, hbmRot := (k + 1) % 8 } }).hbmWrite (ptrAddr (bufs.headD 0)) bytes true none (bufs.map ptrAddr)

/-- Allocate and charge for a packet of class `tc` and `bytes` stored bytes that was placed at `mem`: its head pointer, or none when buffers have run out. -/
def Dev.allocFor (s : Dev) (q tc bytes : Nat) (mem : Option Nat) : Option Nat × Dev :=
  let n := bufsFor bytes
  match s.takeFor tc n mem with
  | none => (none, s)
  | some (bufs, s) =>
    let s := s.addChain bufs [0]
    let s := match mem with
      | none => s.count bBPM 0x10 0 1 { tc := some tc }
      | some k => (s.spillCharge k bytes bufs).count bBPM 0x11 0 1 { tc := some tc }
    (bufs.head?, s.chargeQ q n mem.isNone)

/-- More buffers join the end of a chain. -/
def Dev.addBufs (s : Dev) (h : Nat) (c : Chain) (bufs : List Nat) : Dev :=
  let s := { s with tm := { s.tm with chains := minsert s.tm.chains h { c with bufs := c.bufs ++ bufs } } }
  if isOnDie h then s.wf Reg.BPM_ONDIE_FREE 0 0 0 20 (s.onDieFree - bufs.length) else s.wf Reg.BPM_HBM_FREE 0 0 0 29 (s.hbmFree - bufs.length)

/-- Complete the chain whose head is `h` to the buffers that `bytes` stored bytes take: false when they run out (R257). -/
def Dev.extendChain (s : Dev) (q tc h bytes : Nat) : Dev × Bool :=
  match s.chain? h with
  | none => (s, false)
  | some c =>
    let n := bufsFor bytes - c.bufs.length
    if n == 0 then (s, true)
    else
      let mem := if isOnDie h then none else some (h / 2 ^ 26 % 8)
      match s.takeFor tc n mem with
      | none => (s, false)
      | some (bufs, s) => ((s.addBufs h c bufs).chargeQ q n mem.isNone, true)

end Sys2Proof.Machine
end

