-- ==== Sys2Proof/Machine/Queues.lean ====
section
/-! DEFINITION. What happens to packets in queues: statistics of a packet's book, leaving a queue with the linkage check, drops, flushes and stragglers (chapters 03, 11, 12, 19, 20). -/
namespace Sys2Proof.Machine

/-! ### Books by epoch (R104, R107). -/

/-- The book whose bank a packet of epoch `e` is processed by: the old one when that epoch is bound to it. -/
def Dev.bookOf (s : Dev) (e : Nat) : Option Book :=
  match s.pbk.old with
  | some b => if s.retiring == some e then some b else s.pbk.inForce
  | none => s.pbk.inForce

/-! ### Statistics (R448–R451). -/

/-- The HBM address of a pair: stack S_(i mod m) of the book's HBM_USE (R342, R447). -/
def Dev.statAddr (s : Dev) (pair : Nat) : Nat :=
  let ks := (List.range 8).filter fun k => ((s.pbk.inForce.map Book.hbmUse).getD 0) / 2 ^ k % 2 == 1
  let m := max 1 ks.length
  ks.getD (pair % m) 0 * 2 ^ 34 + 0x3D0000000 + pair / m * 16

/-- What the HBM holds of a pair: an unlisted one is zero, or what training left of it (R347, R473). -/
def Dev.statHbm (s : Dev) (pair : Nat) : Nat × Nat :=
  match s.sta.hbm.find? fun e => e.1 == pair with
  | some e => e.2
  | none =>
    let a := s.statAddr pair
    let k := a / 2 ^ 34
    let g := mget 0 s.hbm.gen k
    if mget 0 s.sta.gens k == g then (0, 0)
    else (ofLe ((List.range 8).map fun i => Config.hbmByte g (a + i)), ofLe ((List.range 8).map fun i => Config.hbmByte g (a + 8 + i)))

/-- Set what the HBM holds of a pair, with no delta beside it (R450). -/
def Dev.statSet (s : Dev) (pair : Nat) (v : Nat × Nat) : Dev :=
  { s with sta := { s.sta with hbm := minsert s.sta.hbm pair v, cache := merase s.sta.cache pair } }

/-- The value of a pair: HBM value plus cached delta (R450). -/
def Dev.statValue (s : Dev) (pair : Nat) : Nat × Nat :=
  let b := s.statHbm pair
  match s.sta.cache.find? fun e => e.1 == pair with
  | some e => (b.1 + e.2.packets, b.2 + e.2.bytes)
  | none => b

/-- The stack that holds a pair answers requests. -/
def Dev.statServes (s : Dev) (pair : Nat) : Bool := s.stackServes (s.statAddr pair / 2 ^ 34)

/-- A pair whose HBM access failed is rewritten as zero and marked invalid (R355 REQ 3, R451). -/
def Dev.statLost (s : Dev) (pair : Nat) : Dev :=
  let s := s.statSet pair (0, 0)
  (({ s with sta := { s.sta with invalid := addKey s.sta.invalid pair } }).bump bSTA 3 0 3 1).event bSTA 0

/-- The cached delta of a pair goes to HBM (R449): lost with the pair when its stack does not serve (R451; log entry 96). -/
def Dev.statSpill (s : Dev) (pair : Nat) : Dev :=
  let s := (s.bump bSTA 3 0 2 1).count bSTA 0x12 0 1
  let a := s.statAddr pair
  if !s.statServes pair then (s.hbmLog 2 3 a).statLost pair
  else
    let v := s.statValue pair
    ((s.hbmRead a 16 false).hbmWrite a 16 false).statSet pair v

/-- The pairs whose deltas the cache holds at most (R449). -/
def staRoom : Nat := 262144

/-- A delta that would exceed 2^24 packets or 2^40 bytes is written back first; a pair that finds the cache full evicts another, which one is free (R449; log entry 96). -/
def Dev.statMake (s : Dev) (pair packets bytes : Nat) : Dev :=
  match s.sta.cache.find? fun e => e.1 == pair with
  | some e => if 2 ^ 24 < e.2.packets + packets || 2 ^ 40 < e.2.bytes + bytes then s.statSpill pair else s
  | none =>
    if s.sta.cache.length < staRoom then s
    else
      let (v, s) := s.fresh
      match s.sta.cache[v.toNat % staRoom]? with
      | some e => s.statSpill e.1
      | none => s

/-- One update of a statistics pair: the cached delta grows, packets and bytes together (R448, R449). -/
def Dev.statAdd (s : Dev) (pair packets bytes : Nat) : Dev :=
  let miss := (s.sta.cache.find? fun e => e.1 == pair).isNone
  let s := s.statMake pair packets bytes
  let d : StaDelta := match s.sta.cache.find? fun e => e.1 == pair with
    | some e => { e.2 with packets := e.2.packets + packets, bytes := e.2.bytes + bytes }
    | none => { packets := packets, bytes := bytes, since := s.cue.localNs }
  let s := { s with sta := { s.sta with cache := minsert s.sta.cache pair d } }
  let s := if miss then s.count bSTA 0x11 0 1 else s
  (s.bump bSTA 3 0 1 1).count bSTA 0x10 0 1

/-- Count a packet of epoch `e` into the ranges of its book for a source (R446, R448). -/
def Dev.statRange (s : Dev) (e source n len : Nat) : Dev :=
  match s.bookOf e with
  | none => s
  | some b => b.ranges.foldl (fun s r =>
      if r.source == source then s.statAdd (r.first + n) 1 (((len : Int) + r.adj).toNat) else s) s

/-! ### The hierarchy of the book in force (R282). -/

/-- The parent and slot of a child at a level (1 level 2, 2 level 3, 3 queue). -/
def Dev.hierOf (s : Dev) (level num : Nat) : Option HierRec :=
  (s.pbk.inForce.map Book.hier).getD [] |>.find? fun h => h.level == level && h.num == num

/-- The port whose subtree holds egress queue `eq`, with the level-3 and level-2 nodes on its path. -/
def Dev.pathOf (s : Dev) (eq : Nat) : Option (Nat × Nat × Nat) := do
  let a ← s.hierOf 3 eq
  let b ← s.hierOf 2 a.parent
  let c ← s.hierOf 1 b.parent
  return (c.parent, b.parent, a.parent)

/-- The egress port of a packet: the port of its replica entry, or DST_PORT of a unicast ticket. -/
def Pkt.eport (k : Pkt) : Nat := k.port.getD (fld k.ticket.dst 10 8)

/-- The default egress queue of a port and class (R282). -/
def Dev.defaultEq (s : Dev) (port tc : Nat) : Nat := fld (word (s.obj bSCH 5 port) 3) 3 14 * 8 + tc

/-! ### Credited VOQs (R274–R276). -/

/-- The device ID (R36, R312). -/
def Dev.devId (s : Dev) : Nat := s.rf Reg.TOP_DEVICE_ID 0 0 0 14

/-- The port and class of VOQ `v` under the destination map entry of device `d`, when that entry has MODE 1 and reaches it (R274, R275). -/
def Dev.voqUnder (s : Dev) (v d : Nat) : Option (Nat × Nat × Nat) :=
  let e := s.obj bSCH 1 d
  let base := wfld e 0 4 17
  let lo := wfld e 1 0 8
  let hi := wfld e 1 8 8
  if wfld e 0 0 2 == 1 && decide (base ≤ v) && decide (lo ≤ hi) && decide (v < base + 8 * (hi - lo + 1))
      && (s.variant.hasFab || d == s.devId) then
    some (d, lo + (v - base) / 8, (v - base) % 8)
  else none

/-- VOQ `v` is one of the multicast or host VOQs (R274, R277). -/
def Dev.voqReserved (s : Dev) (v : Nat) : Bool :=
  v / 8 == s.rf Reg.SCH_MC_VOQ_BASE 0 0 3 14 || v / 8 == s.rf Reg.SCH_HOST_VOQ_BASE 0 0 3 14

/-- The device, port and class of a credited VOQ: one that a MODE 1 entry of the destination map reaches (R274, R276). The multicast and host VOQs are uncredited whatever the map says; of several entries that reach a VOQ, this device's own comes first, then the lowest device (log entry 60). -/
def Dev.voqDest (s : Dev) (v : Nat) : Option (Nat × Nat × Nat) :=
  if s.voqReserved v then none
  else match s.voqUnder v s.devId with
    | some x => some x
    | none => s.objs.findSome? fun e => if keyBlk e.1 == bSCH && keyObj e.1 == 1 then s.voqUnder v (keyIdx e.1) else none

/-- Send a request of a VOQ to the generator of its remote port (R276, R302). -/
def Dev.sendRequest (s : Dev) (v : Nat) (on : Bool) : Dev :=
  match s.voqDest v with
  | some (d, p, tc) => if d == s.devId then s else s.emit (.fabMsg d (.request v on p tc))
  | none => s

/-- A VOQ has become empty: its balance is 0 and its request is withdrawn (R276). -/
def Dev.voqEmptied (s : Dev) (v : Nat) : Dev :=
  ({ s with tm := { s.tm with credit := merase s.tm.credit v } }).sendRequest v false

/-- A node of the hierarchy as SCH mailbox INDEX names it (R292): LEVEL 0 port, 1 level 2, 2 level 3, 3 queue. -/
def nodeKey (level num : Nat) : Nat := level * 2 ^ 17 + num

/-- Any queue at or below a level-3 or level-2 node holds a packet (R283). -/
def Dev.active3 (s : Dev) (n : Nat) : Bool :=
  s.tm.queues.any fun e => decide (nQ ≤ e.1) && !e.2.pkts.isEmpty && (s.hierOf 3 (e.1 - nQ)).map HierRec.parent == some n
def Dev.active2 (s : Dev) (n : Nat) : Bool :=
  s.tm.queues.any fun e => decide (nQ ≤ e.1) && !e.2.pkts.isEmpty &&
    ((s.hierOf 3 (e.1 - nQ)).bind fun h => s.hierOf 2 h.parent).map HierRec.parent == some n

/-- A child has become inactive: its deficits are 0 and its turn ends (R284). -/
def Dev.goIdle (s : Dev) (parent child : Nat) : Dev :=
  let t := mget ({} : Turn) s.tm.turns parent
  let t := { t with b2 := t.b2 && t.t2 != child, b3 := t.b3 && t.t3 != child }
  { s with tm := { s.tm with deficits := merase s.tm.deficits child, turns := mset {} s.tm.turns parent t } }

/-- An egress queue has become empty: it and the nodes above it that hold no packet any more become inactive (R284). -/
def Dev.eqEmptied (s : Dev) (e : Nat) : Dev :=
  match s.hierOf 3 e with
  | none => s
  | some h3 =>
    let s := s.goIdle (nodeKey 2 h3.parent) (nodeKey 3 e)
    if s.active3 h3.parent then s
    else match s.hierOf 2 h3.parent with
      | none => s
      | some h2 =>
        let s := s.goIdle (nodeKey 1 h2.parent) (nodeKey 2 h3.parent)
        if s.active2 h2.parent then s
        else match s.hierOf 1 h2.parent with
          | none => s
          | some h1 => s.goIdle (nodeKey 0 h1.parent) (nodeKey 1 h2.parent)

/-- A queue has become empty (R276, R284). -/
def Dev.qEmptied (s : Dev) (q : Nat) : Dev := if q < nQ then s.voqEmptied q else s.eqEmptied (q - nQ)

/-- Link a packet into its queue; a VOQ that becomes non-empty asks for credit (R276, R302). -/
def Dev.link (s : Dev) (q : Nat) (k : Pkt) : Dev :=
  let was := (s.queue q).pkts.isEmpty
  let s := s.enqueue q k
  if was && q < nQ then s.sendRequest q true else s

/-! ### Leaving a queue. -/

/-- Free the copy that `k` is: its owner, and one of its epoch's house count (R86, R264). -/
def Dev.freeCopy (s : Dev) (k : Pkt) (agent : Nat) : Dev :=
  (s.freeOwner k.head k.owner agent).houseOut k.ticket.epoch.toNat 1

/-- What a class 11 detection at a queue needs, left for the integrity collector: the queues whose linkage failed. -/
structure LinkFault where
  queue : Nat
  deriving DecidableEq, Repr

/-- Unlink the packet at place `i` of queue `q`: linkage checksum, depth, the staged copy; answers whether the queue became empty with a wrong checksum, which is then reset (R439). -/
def Dev.unlink (s : Dev) (q i : Nat) : Dev × Option Pkt × Bool :=
  let x := s.queue q
  match x.pkts[i]? with
  | none => (s, none, false)
  | some k =>
    let s := s.markChain k.head
    let rest := x.pkts.eraseIdx i
    let link := x.link ^^^ linkTerm k.head
    let bad := rest.isEmpty && link != 0
    let n := s.pktBufs k
    let s := s.setQueue q { x with pkts := rest, link := if rest.isEmpty then 0 else link }
    let s := s.releaseQ q n (isOnDie k.head)
    let s := s.unstage fun z => z.queue == q && z.head == k.head
    -- an emptied VOQ loses its credit and its request (R276), an emptied egress queue its deficits (R284)
    let s := if rest.isEmpty then s.qEmptied q else s
    (s, some k, bad)

/-- Empty a queue: every packet is freed, and counted by `count` (R291, R355, R441). -/
def Dev.flushQ (s : Dev) (q : Nat) (count : Dev → Pkt → Dev) : Dev :=
  let x := s.queue q
  let s := s.unstage fun z => z.queue == q
  let s := x.pkts.foldl (fun s k => count (s.freeCopy k 3) k) s
  let held (m : Bool) : Nat := (s.tm.arriving.filter fun a => a.queue == q && !a.linked && isOnDie a.pkt.head == m).foldl (fun n a => n + s.pktBufs a.pkt) 0
  let s := s.setQueue q { x with pkts := [], depth := held true + held false, onDie := held true, hbm := held false, link := 0 }
  if x.pkts.isEmpty then s else s.qEmptied q

/-- Every key of a non-empty queue. -/
def Dev.busyQueues (s : Dev) : List Nat := (s.tm.queues.filter fun e => !e.2.pkts.isEmpty).map Prod.fst

/-- Count a flushed packet of an egress queue (R291, R292). -/
def countFlushed (q : Nat) (s : Dev) (_ : Pkt) : Dev := if nQ ≤ q then s.bump bSCH 0x10 (q - nQ) 2 1 else s

/-- Flush every queue of the T-die (R441, stop device). -/
def Dev.flushAll (s : Dev) : Dev := s.busyQueues.foldl (fun s q => s.flushQ q (countFlushed q)) s

/-! ### Stragglers (R89, R90). -/

/-- Count a straggler or a foreign-epoch drop (R89). -/
def Dev.countStale (s : Dev) (foreign : Bool) : Dev :=
  let v := s.rg Reg.CUE_STRAGGLER 0 0
  let v := if foreign then setFld v 16 16 (satAdd 16 (fld v 16 16) 1) else setFld v 0 16 (satAdd 16 (fld v 0 16) 1)
  (s.wg Reg.CUE_STRAGGLER 0 0 v).event bCUE 7

/-- Take the stragglers out of one queue, keeping the order of the rest (R90): answers whether the linkage failed. -/
def Dev.sweepQ (s : Dev) (q : Nat) : Nat → Dev × Bool
  | 0 => (s, false)
  | fuel + 1 =>
    match (s.queue q).pkts.findIdx? fun k => s.quarantined k.ticket.epoch.toNat with
    | none => (s, false)
    | some i =>
      match s.unlink q i with
      | (s', some k, bad) =>
        let s' := (s'.freeCopy k 3).countStale false
          let (s'', b) := s'.sweepQ q fuel
        (s'', bad || b)
      | (s', none, bad) => (s', bad)

/-- Revoke the credit of a VOQ: the lesser of its balance and 0 (R281, R304). -/
def Dev.clipCredit (s : Dev) (v : Nat) : Dev :=
  let c := mget 0 s.tm.credit v
  let s := if 0 < c then { s with tm := { s.tm with credit := merase s.tm.credit v } } else s
  s.unstage fun z => z.queue == v

end Sys2Proof.Machine
end

