-- ==== Sys2Proof/Machine/Lookup.lean ====
section
/-! DEFINITION. Lookups in the replicated tables: shapes, keys and selectors, FIB, exact match, associative search, next hops, watches, writes to the replicas (chapters 09, 10). -/
namespace Sys2Proof.Machine

/-! ### Regions and replicas (R29–R31, R108). -/

/-- The primary region: region 0 unless it is isolated (R31). -/
def Dev.primary (s : Dev) : Nat := if s.fIso 0 then 1 else 0

/-- The replica of a region. -/
def Dev.rep (s : Dev) (r : Nat) : Rep := if r == 0 then s.rep0 else s.rep1

/-- Change the replicas that a command's REGION names and that are in service, and the intended content: REGION 0 both, 1 or 2 one of them (R30, R208, R441). During a resynchronisation the primary takes the write, and the copy carries it over (R442; log entry 17). -/
def Dev.writeReps (s : Dev) (region : Nat) (f : Rep → Rep) : Dev :=
  let s := if region != 2 && !s.fIso 0 then { s with rep0 := f s.rep0 } else s
  let s := if region != 1 && !s.fIso 1 then { s with rep1 := f s.rep1 } else s
  { s with intent := f s.intent }

/-- The mark of an unreadable entry (R432): kind 0 route, 1 next hop, 2 ECMP group, 3 member slot, 4 exact-match position, 5 associative-search position. -/
def badKey (kind pos : Nat) : Nat := pos * 8 + kind

/-- An entry is marked unreadable; the mark is cleared. -/
def Rep.isBad (r : Rep) (kind pos : Nat) : Bool := r.bad.contains (badKey kind pos)
def Rep.unmark (r : Rep) (kind pos : Nat) : Rep := { r with bad := r.bad.filter fun x => x != badKey kind pos }

/-! ### Shapes (R201–R204, R231). -/

/-- A split is open; table `t` is one whose shape it changes; region `r` is reshaped (R108, R109). -/
def Dev.splitOpen (s : Dev) : Bool := bit (s.rg Reg.PBK_SPLIT 0 0) 8
def Dev.splitNames (s : Dev) (t : Nat) : Bool := s.splitOpen && s.pbk.changed.contains t
def Dev.reshaped (s : Dev) (r : Nat) : Bool := bit (s.rg Reg.PBK_SPLIT 0 0) (9 + r)

/-- The book whose shapes a reshaped region holds, and an unreshaped one: the staged book and the one in force; once bound, the one in force and the old one, which a split that outlives its release still names (R101). -/
def Dev.newBook (s : Dev) : Option Book := match s.pbk.checked with | some b => some b | none => s.pbk.inForce
def Dev.oldBook (s : Dev) : Option Book := 
  match s.pbk.checked, s.pbk.old, s.pbk.former with
  | some _, _, _ => s.pbk.inForce
  | none, some o, _ => some o
  | none, none, some o => some o
  | none, none, none => s.pbk.inForce

/-- The shape of table `t` as region `r` holds it; outside a split that of the book in force (R108, R109). -/
def Dev.shape? (s : Dev) (t r : Nat) : Option TShape :=
  let b := if !s.pbk.changed.contains t then s.pbk.inForce else if s.reshaped r then s.newBook else s.oldBook
  (b.map Book.tables).getD [] |>.find? fun x => x.id == t

/-- The single FIB table, and the single next-hop table, of a book. -/
def Book.fib? (b : Book) : Option TShape := b.tables.find? fun x => x.tkind == 3
def Book.nht? (b : Book) : Option TShape := b.tables.find? fun x => x.tkind == 8
def Dev.fib? (s : Dev) : Option TShape := s.pbk.inForce.bind Book.fib?
def Dev.nht? (s : Dev) : Option TShape := s.pbk.inForce.bind Book.nht?

/-- Word `j` of further record `i` (from 0) of a shape. -/
def TShape.w (t : TShape) (i j : Nat) : W32 := word (t.recs.getD i []) j

/-- The key-source record of a FIB shape (R202). -/
def TShape.ksRec? (t : TShape) (ks : Nat) : Option (List W32) := t.recs.find? fun r => fld (word r 0) 0 3 == ks

/-- Length of a selector in bytes (R182). -/
def selLen (w : W32) : Nat := fld w 8 6

/-- The list of selectors in a run of words, ended by a length of 0. -/
def selList (ws : List W32) : List W32 := ws.takeWhile fun w => selLen w != 0

/-- The key selectors of an exact-match table, of its learn key, and of an associative-search table. -/
def TShape.exmSel (t : TShape) : List W32 := selList (t.recs.getD 0 [])
def TShape.learnSel (t : TShape) : List W32 := selList (t.recs.getD 1 [])
def TShape.acsSel (t : TShape) : List W32 := selList (t.recs.getD 1 [] ++ t.recs.getD 2 [])

/-- Key width of a selector list in bytes. -/
def selWidth (l : List W32) : Nat := l.foldl (fun n w => n + selLen w) 0

/-- The bytes a selector names (R182): field vector, metadata, zeros, result data. -/
def selBytes (fv md rd : List Byte) (w : W32) : List Byte :=
  let off := fld w 0 8
  let src := fld w 16 2
  if src == 0 then slice fv off (selLen w)
  else if src == 1 then slice md off (selLen w)
  else if src == 2 then List.replicate (selLen w) 0
  else slice rd off (selLen w)

/-- A key: its selectors' bytes one after another. -/
def selKey (fv md rd : List Byte) (l : List W32) : List Byte := l.flatMap (selBytes fv md rd)

/-- A byte list left-aligned in 128 bits. -/
def left128 (bs : List Byte) : Nat := ofBe (slice bs 0 16)

/-- Four words, most significant first, as a 128-bit number, and back. -/
def n128 (a b c d : W32) : Nat := ((a.toNat * 2 ^ 32 + b.toNat) * 2 ^ 32 + c.toNat) * 2 ^ 32 + d.toNat
def w128 (n : Nat) : List W32 := [w32 (n / 2 ^ 96), w32 (n / 2 ^ 64), w32 (n / 2 ^ 32), w32 n]

/-! ### The FIB (R205, R206). -/

/-- The key of a route in a replica. -/
def routeKey (ks pfx len addr : Nat) : Nat := ((ks * 2 ^ 32 + pfx) * 256 + len) * 2 ^ 128 + addr
def rkKs (k : Nat) : Nat := k / 2 ^ 168
def rkPfx (k : Nat) : Nat := k / 2 ^ 136 % 2 ^ 32
def rkLen (k : Nat) : Nat := k / 2 ^ 128 % 256
def rkAddr (k : Nat) : Nat := k % 2 ^ 128

/-- The cost of a route in FIB units (R205). -/
def routeCost (wide : Bool) (len : Nat) : Nat := if !wide then 1 else if len ≤ 64 then 2 else 4

/-- A route covers an address: its first LEN bits equal (R206). -/
def covers (k addr : Nat) : Bool := rkAddr k / 2 ^ (128 - rkLen k) == addr / 2 ^ (128 - rkLen k)

/-- The route a lookup finds: largest LEN among the covering routes of the key source and prefix (R206). -/
def Rep.fibBest (r : Rep) (ks pfx addr : Nat) : Option (Nat × (Nat × Nat)) :=
  r.routes.foldl (fun best e =>
    if rkKs e.1 == ks && rkPfx e.1 == pfx && covers e.1 addr then
      match best with
      | some b => if rkLen b.1 < rkLen e.1 then some e else best
      | none => some e
    else best) none

/-- The outcome of a lookup: one that meets an unreadable route takes its miss (R432). -/
def Rep.fibFind (r : Rep) (ks pfx addr : Nat) : Option (Nat × (Nat × Nat)) :=
  (r.fibBest ks pfx addr).bind fun e => if r.isBad 0 e.1 then none else some e

/-- The 16-byte result of a FIB hit (R206). -/
def fibResult (e : Nat × (Nat × Nat)) : List Byte :=
  beBytes 2 e.2.2 ++ beBytes 3 e.2.1 ++ [BitVec.ofNat 8 (rkLen e.1)] ++ List.replicate 10 0

/-- Units in use of a key source. -/
def Rep.fibUnits (r : Rep) (ks : Nat) (wide : Bool) : Nat :=
  r.routes.foldl (fun n e => if rkKs e.1 == ks then n + routeCost wide (rkLen e.1) else n) 0

/-! ### Exact match (R220–R223). -/

/-- The position key of way `w`, slot `i` of table `t`. -/
def exmPos (t w i : Nat) : Nat := (t * 4 + w) * 2 ^ 20 + i

/-- The slot of a key in way `w` under a seed (R220). -/
def exmSlot (alloc : Nat) (seed : W32) (kw key w : Nat) : Nat :=
  let h := crc32c (beBytes 4 (seed ^^^ w32 w).toNat ++ (beBytes 16 key).take kw)
  h.toNat * (alloc / 4) / 2 ^ 32

/-- The four candidates of a key under a seed. -/
def exmCands (t alloc : Nat) (seed : W32) (kw key : Nat) : List Nat :=
  (List.range 4).map fun w => exmPos t w (exmSlot alloc seed kw key w)

/-- What a replica lists at an exact-match position. -/
def Rep.exmAt (r : Rep) (p : Nat) : Option ExmEnt := (r.exm.find? fun e => e.1 == p).map Prod.snd

/-- The active seed of a table: the book's default until a rehash has replaced it (R223, R229). -/
def Dev.seedOf (s : Dev) (t : TShape) : W32 :=
  let new := (s.newBook.map Book.tables).getD [] |>.any fun x => x == t
  let old := (s.oldBook.map Book.tables).getD [] |>.any fun x => x == t
  if s.pbk.changed.contains t.id && new && !old then t.seed
  else (s.tbl.seeds.find? fun e => e.1 == t.id).map Prod.snd |>.getD t.seed

/-- The rehash of a table in dual-seed mode. -/
def Dev.rehash? (s : Dev) (t : Nat) : Option Rehash := (s.tbl.rehash.find? fun e => e.1 == t).map Prod.snd

/-- Every candidate of a key: under the active seed, and in dual-seed mode under the target as well (R223). -/
def Dev.exmAll (s : Dev) (t : TShape) (key : Nat) : List Nat :=
  let kw := selWidth t.exmSel
  exmCands t.id t.alloc (s.seedOf t) kw key ++
    (match s.rehash? t.id with | some r => exmCands t.id t.alloc r.target kw key | none => [])

/-- The position and entry at which a replica holds a key; an unreadable entry does not match (R432). -/
def Dev.exmFind (s : Dev) (r : Rep) (t : TShape) (key : Nat) : Option (Nat × ExmEnt) :=
  (s.exmAll t key).findSome? fun p =>
    match r.exmAt p with
    | some e => if e.key == key && !r.isBad 4 p then some (p, e) else none
    | none => none

/-- The 16-byte result of an exact-match hit: PROG_OFF and the 48 bits of DATA (R184, R209; log entry 15). -/
def exmResult (e : ExmEnt) : List Byte := beBytes 2 e.prog ++ beBytes 6 e.data ++ List.replicate 8 0

/-! ### Associative search (R230–R236). -/

/-- The banks a table names, its width, its EPOCHED bit, the priority of a bank. -/
def TShape.banks (t : TShape) : List Nat :=
  (List.range 64).filter fun b => bit (t.w 0 (b / 32)) (b % 32)
def TShape.acsWidth (t : TShape) : Nat := fld (t.w 0 2) 0 3
def TShape.epoched (t : TShape) : Bool := t.alloc2 % 2 == 1
def TShape.prio (t : TShape) (b : Nat) : Nat := fld (t.w (3 + b / 16) (b % 16 / 4)) (8 * (b % 4)) 8

/-- The units of a search key: padded with zeros to 20 bytes a unit (R233). -/
def keyUnits (w : Nat) (key : List Byte) : List Nat := (List.range w).map fun u => ofBe (slice key (20 * u) 20)

/-- An entry matches a key under an epoch (R234). -/
def AcsEnt.matches (e : AcsEnt) (units : List Nat) (epoched : Bool) (epoch : Nat) : Bool :=
  e.valid && (!epoched || e.mask / 2 ^ epoch % 2 == 1)
    && (List.range units.length).all fun u => ((units.getD u 0) ^^^ (e.value.getD u 0)) &&& (e.care.getD u 0) == 0

/-- Positions order by priority of the bank, bank, index (R235). -/
def posLt (a b : Nat × Nat × Nat) : Bool :=
  decide (a.1 < b.1) || (a.1 == b.1 && (decide (a.2.1 < b.2.1) || (a.2.1 == b.2.1 && decide (a.2.2 < b.2.2))))

/-- The positions of all matching entries of a table in a replica. -/
def Rep.acsMatches (r : Rep) (t : TShape) (key : List Byte) (epoch : Nat) : List (Nat × Nat × Nat) :=
  let units := keyUnits t.acsWidth key
  r.acs.filterMap fun e =>
    let b := e.1 / 4096
    if t.banks.contains b && e.2.matches units t.epoched epoch then
      some (t.prio b, b, e.1 % 4096)
    else none

/-- The least position of a list. -/
def minPos : List (Nat × Nat × Nat) → Option (Nat × Nat × Nat)
  | [] => none
  | p :: l => match minPos l with
    | none => some p
    | some q => some (if posLt q p then q else p)

/-- The winner of a search and MULTI (R235); an unreadable winner is a miss (R432). -/
def Rep.acsSearch (r : Rep) (t : TShape) (key : List Byte) (epoch : Nat) : Option ((Nat × Nat × Nat) × Bool) :=
  let m := r.acsMatches t key epoch
  (minPos m).bind fun p => if r.isBad 5 (p.2.1 * 4096 + p.2.2) then none else some (p, decide (1 < m.length))

/-- The 16-byte result of a search hit (R236). -/
def Rep.acsResult (r : Rep) (p : Nat × Nat × Nat) (multi : Bool) : List Byte :=
  let e := mget ({} : AcsEnt) r.acs (p.2.1 * 4096 + p.2.2)
  beBytes 2 e.prog ++ beBytes 10 e.data ++ beBytes 4 (multi.toNat * 2 ^ 31 + p.2.1 * 2 ^ 12 + p.2.2)

/-! ### Watches and next hops (R213–R218). -/

/-- Device `d` is in the reachable set, in which the device's own ID always is (R303). -/
def Dev.reachable (s : Dev) (d : Nat) : Bool := d == s.devId || (s.variant.hasFab && s.tm.reachable.contains d)

/-- A watch is live (R217). -/
def Dev.watchLive (s : Dev) (w : Nat) : Bool :=
  if w == 0x7FFF then true
  else if w < 256 then s.tbl.live.contains w
  else if w < 16640 then s.reachable (w - 256)
  else if w < 16896 then !s.tbl.hostDead.contains (w - 16640)
  else false

/-- A next-hop entry of a replica. -/
def Rep.nhAt (r : Rep) (i : Nat) : List W32 := if r.isBad 1 i then [0, 0, 0, 0] else mget [0, 0, 0, 0] r.nh i

/-- How a next hop resolved (R214). -/
inductive NhOut
  | invalid
  | noPath
  | dropped
  /-- The final index and its entry, and whether a backup was used. -/
  | used (i : Nat) (e : List W32) (backup : Bool)
  deriving DecidableEq, Repr

/-- Step 2 of R214 for entry `n`: itself when its watch is live, its backup when that is valid and live. -/
def Dev.nhPick (s : Dev) (r : Rep) (alloc n : Nat) : NhOut :=
  let e := r.nhAt n
  if !(decide (n < alloc) && bit (word e 0) 31) then .invalid
  else if s.watchLive (wfld e 2 17 15) then .used n e false
  else if bit (word e 0) 26 then
    let b := wfld e 0 0 20
    let eb := r.nhAt b
    if decide (b < alloc) && bit (word eb 0) 31 && s.watchLive (wfld eb 2 17 15) then .used b eb true else .noPath
  else .noPath

/-- Resolve next hop `n` with a flow hash (R214, R216). -/
def Dev.nhResolve (s : Dev) (r : Rep) (t : TShape) (n : Nat) (hash : W32) : NhOut :=
  match s.nhPick r t.alloc n with
  | .used i e bk =>
    if wfld e 0 28 3 == 2 then
      let g := mget [0, 0] r.ecmp (wfld e 1 0 16)
      if !bit (word g 0) 31 || t.alloc2 ≤ wfld e 1 0 16 || r.isBad 2 (wfld e 1 0 16) then .invalid
      else
        let k := fld hash 16 16 * wfld g 1 0 10 / 2 ^ 16
        let m := fld (mget 0#32 r.members (wfld g 0 0 21 + k)) 0 20
        if r.isBad 3 (wfld g 0 0 21 + k) || (bit (word (r.nhAt m) 0) 31 && wfld (r.nhAt m) 0 28 3 == 2) then .invalid
        else match s.nhPick r t.alloc m with
        | .used j f bk' => if wfld f 0 28 3 == 2 then .invalid else .used j f (bk || bk')
        | o => o
    else .used i e bk
  | o => o

end Sys2Proof.Machine
end

