-- ==== Sys2Proof/Machine/Ports.lean ====
section
/-! DEFINITION. Line ports and cipher slots as every block sees them: port registers and forms, contexts in slots, park, the port's queues, down declaration, hold expiry (chapters 05, 07, 09, 12). -/
namespace Sys2Proof.Machine

/-! ### Ports (R110, R117). -/

/-- A register of port (or lane) `p`. -/
def Dev.pRg (s : Dev) (d : RegDesc) (p : Nat) : W32 := s.rg d (p / 16) (p % 16)
def Dev.pWg (s : Dev) (d : RegDesc) (p : Nat) (v : W32) : Dev := s.wg d (p / 16) (p % 16) v
def Dev.pRf (s : Dev) (d : RegDesc) (p lo len : Nat) : Nat := fld (s.pRg d p) lo len
def Dev.pWf (s : Dev) (d : RegDesc) (p lo len v : Nat) : Dev := s.pWg d p (setFld (s.pRg d p) lo len v)

/-- The state of a port beside its registers. -/
def Dev.port (s : Dev) (p : Nat) : PortSt := mget {} s.ports p
def Dev.setPort (s : Dev) (p : Nat) (x : PortSt) : Dev := { s with ports := mset {} s.ports p x }

/-- A FlexO port's framer. -/
def Dev.otf1 (s : Dev) (p : Nat) : OtfSt := mget {} s.otf p
def Dev.setOtf (s : Dev) (p : Nat) (x : OtfSt) : Dev := { s with otf := mset {} s.otf p x }

/-- The number of lanes of a port form (R110): MODE from bit 1, WIDTH from bit 4. -/
def cfgWidth (w : W32) : Nat :=
  let m := fld w 1 3
  if m == 1 || m == 2 then 1 else if m == 3 then 2 else if m == 4 then 4 else if m == 5 then 8
  else if m == 6 then 2 ^ fld w 4 2 else 0

/-- The n of OTUCn of a FlexO form (R110). -/
def cfgOtuN (w : W32) : Nat := if bit w 6 then 2 * cfgWidth w else cfgWidth w

/-- The nominal rate of a port form in Gb/s (R279). -/
def cfgGbps (w : W32) : Nat :=
  let m := fld w 1 3
  if m == 1 then 100 else if m == 2 then 200 else if m == 3 then 400 else if m == 4 then 800 else if m == 5 then 1600
  else if m == 6 then 100 * cfgOtuN w else 0

/-- The active configuration of port `p`. -/
def Dev.portCfg (s : Dev) (p : Nat) : W32 := s.pRg Reg.LNP_PORT_CFG p
def Dev.portMode (s : Dev) (p : Nat) : Nat := fld (s.portCfg p) 1 3
def Dev.portOn (s : Dev) (p : Nat) : Bool := bit (s.portCfg p) 0 && cfgWidth (s.portCfg p) != 0
/-- STATE of a port. -/
def Dev.portState (s : Dev) (p : Nat) : Nat := s.pRf Reg.LNP_PORT_STATUS p 0 3
def Dev.portUp (s : Dev) (p : Nat) : Bool := s.portState p == 2
/-- The port runs Rate Follow (R121). -/
def Dev.portRf (s : Dev) (p : Nat) : Bool := s.portMode p == 6 && bit (s.portCfg p) 7
/-- The port is MACsec-protected (R150). -/
def Dev.protected (s : Dev) (p : Nat) : Bool := bit (s.pRg Reg.LCI_PORT_CFG p) 0
/-- The same for a packet whose egress section began at tick `t` (R82). -/
def Dev.protectedAt (s : Dev) (t p : Nat) : Bool := bit (s.cfg t Reg.LCI_PORT_CFG (p / 16) (p % 16)) 0

/-! ### Cipher slots (R152–R159). -/

def ctxPort (ws : List W32) : Nat := wfld ws 0 6 8
def ctxTx (ws : List W32) : Bool := bit (word ws 0) 2
def ctxAn (ws : List W32) : Nat := wfld ws 0 3 2
def ctxImplicit (ws : List W32) : Bool := bit (word ws 0) 5
def ctxXpn (ws : List W32) : Bool := bit (word ws 0) 1
def ctxTxSci (ws : List W32) : Bool := bit (word ws 0) 17
def ctxGen (ws : List W32) : Nat := wordN ws 10 + 2 ^ 32 * wordN ws 11

/-- The words of a context with a PN and a generation. -/
def ctxWith (ws : List W32) (pn gen : Nat) : List W32 :=
  (((ws.set 2 (w32 pn)).set 3 (w32 (pn / 2 ^ 32))).set 10 (w32 gen)).set 11 (w32 (gen / 2 ^ 32))

/-- The context in a slot. -/
def Dev.ctx? (s : Dev) (c slot : Nat) : Option CtxSlot := (s.lci.slots.find? fun e => e.1 == c * 256 + slot).map Prod.snd
def Dev.setCtx (s : Dev) (c slot : Nat) (x : CtxSlot) : Dev :=
  { s with lci := { s.lci with slots := minsert s.lci.slots (c * 256 + slot) x } }

/-- Empty a slot; a port whose current transmit slot it was has none until a switch (R158, R160). -/
def Dev.dropCtx (s : Dev) (c slot : Nat) : Dev :=
  let s := { s with lci := { s.lci with slots := merase s.lci.slots (c * 256 + slot) } }
  (List.range 16).foldl (fun s i =>
    let v := s.rg Reg.LCI_PORT_TX c i
    if bit v 8 && fld v 0 8 == slot then s.wf Reg.LCI_PORT_TX c i 8 1 0 else s) s

/-- PNs a transmit context can still send (R159). -/
def CtxSlot.remaining (x : CtxSlot) : Nat := (if ctxXpn x.words then 2 ^ 64 else 2 ^ 32) - x.pn

/-- WARN_EXP in force for a context of a port (R159, chapter 07 registers). -/
def Dev.warnExp (s : Dev) (p : Nat) (x : CtxSlot) : Nat :=
  let e := max 5 (s.pRf Reg.LCI_PORT_CFG p 2 6)
  if ctxXpn x.words then e else min 31 e

/-- The PN of a context as a store index holds it: a park one above the last PN of an XPN suite leaves 0 in its 64 bits, which no context loaded in the clear can hold, and which a restore takes as exhausted (R152, R157, R159; log entry 124). -/
def ctxPn (ws : List W32) : Nat :=
  let pn := wordN ws 2 + 2 ^ 32 * wordN ws 3
  if pn == 0 then 2 ^ 64 else pn

/-- Event 1 when the R of a transmit slot is found at most 2^WARN_EXP for the first time in the slot's life (R159). -/
def Dev.warnPn (s : Dev) (c slot : Nat) : Dev :=
  match s.ctx? c slot with
  | none => s
  | some x =>
    if ctxTx x.words && !x.warned && decide (x.remaining ≤ 2 ^ s.warnExp (ctxPort x.words) x) then
      (s.setCtx c slot { x with warned := true }).event bLCI 1
    else s

/-- The generation of a store index, and its increment; none at the last one (R154). -/
def Dev.nextGen (s : Dev) (i : Nat) : Option Nat :=
  let g := mget 0 s.lci.gens i
  if g == 2 ^ 64 - 1 then none else some (g + 1)

/-- Wrap words into a store index under the device context key, with its next generation (R153, R154). -/
def Dev.storePut (s : Dev) (i g : Nat) (ws : List W32) (pn : Nat) : Dev :=
  { s with lci := { s.lci with gens := mset 0 s.lci.gens i g,
                               store := minsert s.lci.store i ({ key := s.lci.devKey, words := ctxWith ws pn g } : Wrapped) } }

/-- Park a slot into the index it came from (R156, R157): answers the CODE. -/
def Dev.park (s : Dev) (c slot : Nat) : Dev × Nat :=
  match s.ctx? c slot with
  | none => (s, 3)
  | some x =>
    match s.nextGen x.index with
    | none => (s, 4)
    | some g => ((s.storePut x.index g x.words x.pn).dropCtx c slot, 0)

/-- Every valid slot number of a cluster. -/
def Dev.validSlots (s : Dev) (c : Nat) : List Nat :=
  (s.lci.slots.filter fun e => e.1 / 256 == c).map fun e => e.1 % 256

/-- The cluster's cipher goes out of service and parks its slots, unless it is out already (R170, R441). -/
def Dev.cipherOut (s : Dev) (c : Nat) : Dev :=
  if s.rf Reg.LCI_CLUSTER_STATUS c 0 0 2 == 1 then s
  else
    let s := s.wf Reg.LCI_CLUSTER_STATUS c 0 0 2 1
    (s.validSlots c).foldl (fun s k => (s.park c k).1) s

/-- A lockstep disagreement of the cluster's lanes: counted, event 0, out of service (R170). -/
def Dev.cipherFault (s : Dev) (c : Nat) : Dev :=
  let v := s.rg Reg.LCI_CLUSTER_STATUS c 0
  ((s.wg Reg.LCI_CLUSTER_STATUS c 0 (setFld v 16 16 (satAdd 16 (fld v 16 16) 1))).cipherOut c).event bLCI 0

/-! ### Queues of a port (R282, R289, R291). -/

/-- The egress queues with packets or charges whose subtree is port `p`. -/
def Dev.portQueues (s : Dev) (p : Nat) : List Nat :=
  (s.tm.queues.map Prod.fst).filter fun q => decide (nQ ≤ q) && (s.pathOf (q - nQ)).map Prod.fst == some p

def Dev.gen (s : Dev) (p : Nat) : GenSt := mget {} s.tm.gens p
def Dev.setGen (s : Dev) (p : Nat) (g : GenSt) : Dev := { s with tm := { s.tm with gens := mset {} s.tm.gens p g } }

/-- The grant size (SCH_CREDIT_CFG.QUANTUM). -/
def Dev.quantum (s : Dev) : Nat := 256 * 2 ^ s.rf Reg.SCH_CREDIT_CFG 0 0 0 2

/-- Apply a revoke to a local VOQ (R281): its balance, its count and the event. -/
def Dev.revokeVoq (s : Dev) (v : Nat) : Dev :=
  let c := mget 0 s.tm.credit v
  let n := (c.toNat + s.quantum - 1) / s.quantum
  let s := (s.clipCredit v).bump bSCH 0x11 v 3 n
  s.eventIf (decide (0 < c)) bSCH 3

/-- Stop a port's generator and revoke its grants (R281). -/
def Dev.genStop (s : Dev) (p : Nat) : Dev :=
  let g := s.gen p
  let s := s.setGen p { g with running := false, issued := [] }
  let s := g.issued.foldl (fun s e => if e.1 == s.devId then s.revokeVoq e.2 else s.emit (.fabMsg e.1 (.revoke e.2 p))) s
  s.eventIf (g.issued.any fun e => e.1 != s.devId) bSCH 3

/-- A local watch goes dead at a down declaration, latched when LATCH is 1 (R217, R218). -/
def Dev.watchDown (s : Dev) (p : Nat) : Dev :=
  let was := s.tbl.live.contains p
  let latch := bit (s.rg Reg.FIB_WATCH_CFG 0 p) 0
  let s := { s with tbl := { s.tbl with live := delKey s.tbl.live p, revertAt := merase s.tbl.revertAt p,
                                        latched := if latch then addKey s.tbl.latched p else s.tbl.latched } }
  s.eventIf was bFIB 0

/-- The hold time of a port expires (R118, R291): its egress queues are flushed. -/
def Dev.holdExpire (s : Dev) (p : Nat) : Dev :=
  let s := s.pWf Reg.LNP_PORT_STATUS p 0 3 4
  let s := (s.portQueues p).foldl (fun s q => s.flushQ q (countFlushed q)) s
  -- the generator drains until the next up declaration
  let s := s.setGen p { s.gen p with running := true }
  (s.event bSCH 0).event bLNP 2

/-- A port down during a Rate Follow step abandons the BDI watch and the EXPECT_RX check (R129). -/
def Dev.rfPortDown (s : Dev) (p : Nat) : Dev :=
  let x := s.port p
  let x := { x with bdiWatch := false }
  let s := s.setPort p x
  match x.step with
  | none => s
  | some r =>
    if r.phase == 3 then
      (s.setPort p { x with step := none }).pWf Reg.LNP_RF_STATUS p 0 3 0 |>.event bLNP 3
    else s.setPort p { x with step := some { r with watch := false, expectRx := false } }

/-- A fault of its own that the port signals to the far end (R113, R137): loss of signal or alignment, high-SER, local fault, an OTN port-down defect. -/
def Dev.localFault (s : Dev) (p : Nat) : Bool := s.portOn p && (fld (s.port p).causes 1 4 != 0 || bit (s.port p).causes 6)

/-- Remote fault is sent while such a fault lasts. -/
def Dev.signalFault (s : Dev) (p : Nat) : Dev :=
  let x := s.port p
  let w := s.localFault p
  if w == x.remoteFault then s else (s.setPort p { x with remoteFault := w }).emit (.remoteFault p w)

/-- Lanes of a port lose signal or clock: LOCK falls on all of them (R116, R117; log entry 121). -/
def Dev.lanesDark (s : Dev) (p : Nat) : Dev :=
  (List.range (cfgWidth (s.portCfg p))).foldl (fun s i => s.pWf Reg.LNP_LANE_STATUS (p + i) 0 1 0) s

/-- LOOP of lane `l`: 3 acts as 0 (R116). -/
def Dev.laneLoop (s : Dev) (l : Nat) : Nat := s.pRf Reg.LNP_LANE_CTRL l 10 2 % 3

/-- The port's transmitter is returned to its receiver; its receiver takes no line data; it sends what it receives (R116; lanes that differ: log entry 121). -/
def Dev.loopNear (s : Dev) (p : Nat) : Bool := let w := cfgWidth (s.portCfg p); w != 0 && (List.range w).all fun i => s.laneLoop (p + i) == 1
def Dev.loopShut (s : Dev) (p : Nat) : Bool := (List.range (cfgWidth (s.portCfg p))).any fun i => s.laneLoop (p + i) == 1
def Dev.loopFar (s : Dev) (p : Nat) : Bool := (List.range (cfgWidth (s.portCfg p))).any fun i => s.laneLoop (p + i) == 2

/-- A port is declared down for `cause` (R117, R118, R281, R289). A port that is not up only notes the cause; HOLD_MS 0 expires at once. -/
def Dev.portDown (s : Dev) (p cause : Nat) : Dev :=
  let x := s.port p
  let s := (s.setPort p { x with causes := setBit x.causes cause true }).signalFault p
  let s := if cause == 1 then s.lanesDark p else s
  let st := s.portState p
  if st == 0 then s
  else
    let s := s.pWf Reg.LNP_PORT_STATUS p 4 4 cause
    if st != 2 then s
    else
      let s := s.pWf Reg.LNP_PORT_STATUS p 0 3 3
      let s := (s.bump bLNP 2 p 3 1).event bLNP 0
      let s := s.watchDown p
      let s := s.genStop p
      let qs := s.portQueues p
      let s := s.unstage fun z => qs.contains z.queue
      let s := s.rfPortDown p
      if s.pRf Reg.LNP_PORT_CFG p 22 8 == 0 then s.holdExpire p else s

/-- Every predictor entry of a cluster becomes invalid (R193). -/
def Dev.predFlush (s : Dev) (c : Nat) : Dev :=
  let s := { s with ing := { s.ing with pred := s.ing.pred.filter fun e => e.1 / 1024 != c } }
  s.event bIPP 3

end Sys2Proof.Machine
end

