-- ==== Sys2Proof/Machine/Integrity.lean ====
section
/-! DEFINITION. The integrity collector: unit codes, detections, the log and the reactions, with the lane and bundle failures and the reachability changes that they bring (chapters 01, 13, 15, 19). -/
namespace Sys2Proof.Machine

/-! ### Unit codes (R26; log entry 21). -/

/-- A unit: block, cluster (31 for none), region (3 for none), die, instance. -/
structure UnitId where
  blk : Nat
  cl : Nat := 31
  reg : Nat := 3
  die : Nat := 1
  inst : Nat := 0
  deriving DecidableEq, Repr

def UnitId.code (u : UnitId) : W32 := at_ 0 5 u.blk ||| at_ 5 5 u.cl ||| at_ 10 2 u.reg ||| at_ 12 1 u.die ||| at_ 15 17 u.inst
def UnitId.ofCode (w : W32) : UnitId :=
  { blk := fld w 0 5, cl := fld w 5 5, reg := fld w 10 2, die := fld w 12 1, inst := fld w 15 17 }

/-- A unit of block `b` with neither cluster nor region. -/
def blkUnit (b : Nat) : UnitId := { blk := b, die := (!onFDie b).toNat }
/-- A unit of a cluster of the F-die. -/
def clusterUnit (b c i : Nat) : UnitId := { blk := b, cl := c, reg := c / 8, die := 0, inst := i }
/-- Bundle `b` of a direction (0 F→T, 1 T→F): INSTANCE 16 × direction + bundle; and the Dovetail as a whole: INSTANCE 32. DESIGN CHOICE (log entry 21): no chapter numbers them. -/
def bundleUnit (dir b : Nat) : UnitId := { blk := bDVT, inst := dir * 16 + b }
def dovetailUnit : UnitId := { blk := bDVT, inst := 32 }
def stackUnit (k : Nat) : UnitId := { blk := bHBM, reg := k / 4, inst := k % 4 }
def laneUnit (l : Nat) : UnitId := { blk := bFAB, reg := l / 160, inst := l % 160 }
/-- A VOQ is a unit of QAD, an egress queue one of SCH. -/
def queueUnit (q : Nat) : UnitId := if q < nQ then { blk := bQAD, inst := q } else { blk := bSCH, inst := q - nQ }

/-! ### Fabric lanes and the reachable set (R303, R304, R310). -/

/-- A lane is in service (FAB_LANE_INSVC). -/
def Dev.laneUp (s : Dev) (l : Nat) : Bool := bit (s.rg Reg.FAB_LANE_INSVC 0 (l / 32)) (l % 32)
def Dev.anyLane (s : Dev) : Bool := (List.range 10).any fun i => s.rg Reg.FAB_LANE_INSVC 0 i != 0

/-- A pin-table entry (R316). -/
def pinDflt (h : Nat) : PinEnt := { lane := h % 320, alt := (h + 160) % 320 }
def Dev.pin (s : Dev) (h : Nat) : PinEnt := mget (pinDflt h) s.tm.pins h
def Dev.setPin (s : Dev) (h : Nat) (e : PinEnt) : Dev := { s with tm := { s.tm with pins := mset (pinDflt h) s.tm.pins h e } }

/-- FAB_CFG.MODE in force. -/
def Dev.fabMode (s : Dev) : Nat :=
  let m := s.rf Reg.FAB_CFG 0 0 0 2
  if m == 3 || !s.variant.hasFab then 0 else m

/-- The device's own mesh index; 5 to 7 act as 0 (FAB_CFG). -/
def Dev.meshSelf (s : Dev) : Nat :=
  let j := s.rf Reg.FAB_CFG 0 0 2 3
  if 5 ≤ j then 0 else j

/-- The ID of mesh member `j`. -/
def Dev.meshPeer (s : Dev) (j : Nat) : Nat := s.rf Reg.FAB_MESH_PEER 0 j 0 14

/-- The reachable set, the device's own ID apart: with MODE 2 the mesh members of whose group a lane is in service (R314), else the devices that the maps of in-service lanes name (R303). -/
def Dev.unionMaps (s : Dev) : List Nat :=
  let l :=
    if s.fabMode == 2 then
      (((List.range 5).filter fun j => j != s.meshSelf && (List.range 64).any fun i => s.laneUp (64 * j + i)).map s.meshPeer).eraseDups
    else s.tm.maps.foldl (fun (acc : List Nat) e =>
      if s.laneUp (e.1 / 256) then
        (List.range 64).foldl (fun acc j => if bit e.2 j then addKey acc (64 * (e.1 % 256) + j) else acc) acc
      else acc) []
  l.filter fun d => d != s.devId

/-- The VOQs that the destination-map entry of device `d` names (R274). -/
def Dev.voqsOf (s : Dev) (d : Nat) : Nat → Bool := fun v =>
  let ws := s.obj bSCH 1 d
  let base := wfld ws 0 4 17
  let n := if wfld ws 0 0 2 == 1 then 8 * (wfld ws 1 8 8 + 1 - wfld ws 1 0 8) else if wfld ws 0 0 2 == 2 then 8 else 0
  decide (base ≤ v) && decide (v < base + n)

/-- An unreachable declaration (R304). -/
def Dev.declareUnreachable (s : Dev) (d : Nat) : Dev :=
  let hit := s.voqsOf d
  let vs := (s.tm.credit.map Prod.fst).filter hit
  let s := vs.foldl (fun s v => s.clipCredit v) s
  let s := s.unstage fun z => decide (z.queue < nQ) && hit z.queue
  (s.event bFAB 5).event bFIB 0

/-- Recompute the reachable set and declare its changes (R303). -/
def Dev.refreshReach (s : Dev) : Dev :=
  let new := s.unionMaps
  let old := s.tm.reachable
  let s := { s with tm := { s.tm with reachable := new } }
  let s := (old.filter fun d => !new.contains d).foldl (fun s d => s.declareUnreachable d) s
  s.eventIf (new.any fun d => !old.contains d) bFIB 1

/-- A packet committed to a lane is dropped before its last cell is sent (R306, R310). -/
def Dev.dropLanePkt (s : Dev) (x : LanePkt) : Dev :=
  let s := s.setPin x.entry { s.pin x.entry with inflight := (s.pin x.entry).inflight - 1 }
  ((s.bump bFAB 5 0 0 1).freeOwner x.head x.owner 2).houseOut x.epoch 1

/-- Drop the packets of a lane that have not fully left it (R310). -/
def Dev.dropLane (s : Dev) (l : Nat) : Dev :=
  let mine := (s.tm.laneQ.filter fun e => e.1 / 4 == l).flatMap Prod.snd
  let s := { s with tm := { s.tm with laneQ := s.tm.laneQ.filter fun e => e.1 / 4 != l } }
  mine.foldl (fun s x => s.dropLanePkt x) s

/-- A fabric lane leaves service: event, what it has not fully sent is dropped, every entry of that lane is held (R310). -/
def Dev.laneFail (s : Dev) (l : Nat) : Dev :=
  if !s.laneUp l then s
  else
    let s := s.wg Reg.FAB_LANE_INSVC 0 (l / 32) (setBit (s.rg Reg.FAB_LANE_INSVC 0 (l / 32)) (l % 32) false)
    let s := (s.event bFAB 0).dropLane l
    let s := (List.range 4096).foldl (fun s h =>
      if (s.pin h).lane == l then s.setPin h { s.pin h with held := true, target := none } else s) s
    let s := { s with tm := { s.tm with maps := s.tm.maps.filter fun e => e.1 / 256 != l,
                                        rxHeld := merase s.tm.rxHeld l, lfcSet := delKey s.tm.lfcSet l } }
    s.refreshReach

/-- Header words 0 to 2 of the control slots that lane `l` sends: LFC on every stream while the lane's receive buffer asks for it, READY unless the device is stopped (R300, R301, R441). Word 3 is the CRC-32C that each slot's messages give. -/
def Dev.ctrlHdr (s : Dev) (l : Nat) : List W32 :=
  [at_ 28 4 0xC ||| at_ 0 4 (if s.tm.lfcSet.contains l then 15 else 0), at_ 18 14 s.devId ||| at_ 9 9 l ||| atB 0 (!s.stopped), 0]

/-! ### Queues that lose their list (R355 REQ 2). -/

/-- Empty a queue whose list cannot be followed: packets counted as HBM drops, charges released, buffers left to the leak audit. -/
def Dev.leakQ (s : Dev) (q : Nat) : Dev :=
  let x := s.queue q
  let s := s.unstage fun z => z.queue == q
  let s := x.pkts.foldl (fun s k => (s.bump bHBM 0x40 0 0 1).houseOut k.ticket.epoch.toNat 1) s
  let held (m : Bool) : Nat := (s.tm.arriving.filter fun a => a.queue == q && !a.linked && isOnDie a.pkt.head == m).foldl (fun n a => n + s.pktBufs a.pkt) 0
  let s := s.setQueue q { x with pkts := [], depth := held true + held false, onDie := held true, hbm := held false, link := 0 }
  if x.pkts.isEmpty then s else s.qEmptied q

/-- Stack `k` leaves placement and the free lists; queues with buffers in it are emptied; its statistics fail (R441). -/
def Dev.stackOut (s : Dev) (k : Nat) : Dev :=
  let s := s.recountHbm
  let bad := s.tm.queues.filter fun e => e.2.pkts.any fun p =>
    match s.chain? p.head with
    | some c => c.bufs.any fun b => !isOnDie b && b / 2 ^ 26 % 8 == k
    | none => false
  (bad.map Prod.fst).foldl (fun s q => s.leakQ q) s

/-! ### Dovetail bundles (R18, R19). -/

def Dev.dvt (s : Dev) (dir : Nat) : DvtDir := if dir == 0 then s.dvtFT else s.dvtTF
def Dev.setDvt (s : Dev) (dir : Nat) (x : DvtDir) : Dev := if dir == 0 then { s with dvtFT := x } else { s with dvtTF := x }

/-- The bundle after `b` in the rotation (R15, R18): the next of the 16 that is not out. -/
def DvtDir.after (x : DvtDir) (b : Nat) : Option Nat :=
  ((List.range 16).map fun i => (b + 1 + i) % 16).find? fun c => !x.out.contains c

/-- The kept flits of bundles that are out pass, in order, to the bundles of the rotation (R18). -/
def DvtDir.spread (x : DvtDir) : DvtDir :=
  let y := x.replayBuf.foldl (fun (acc : List Flit × Nat) f =>
    if x.out.contains f.bundle then
      match x.after acc.2 with
      | some c => (acc.1 ++ [{ f with bundle := c }], c)
      | none => (acc.1 ++ [f], acc.2)
    else (acc.1 ++ [f], acc.2)) ([], x.last)
  { x with replayBuf := y.1, last := y.2 }

/-- A bundle leaves the rotation and retrains; answers whether the Dovetail of that direction has thereby failed. A failed Dovetail stays failed (R19). -/
def Dev.bundleLeave (s : Dev) (dir b : Nat) : Dev × Bool :=
  let x := s.dvt dir
  if x.out.contains b then (s, false)
  else
    let x := { x with out := b :: x.out, replays := merase x.replays b }.spread
    let s := (s.setDvt dir x).bumpReg Reg.DVT_CNT_RETRAIN 0 dir 1
    let v := setBit (s.rg Reg.DVT_LINK_STATUS 0 dir) (16 + b) false
    let failed := decide (2 < x.out.length)
    (s.wg Reg.DVT_LINK_STATUS 0 dir (setFld v 0 3 (if failed || fld v 0 3 == 4 then 4 else 3)), failed)

/-! ### Detections (R440, R443). -/

/-- REACT in force for a class. -/
def Dev.reactOf (s : Dev) (cls : Nat) : Nat :=
  if cls == 9 then 4 else min 4 (s.rf Reg.INT_CLASS_CFG 0 (cls - 1) 0 3)

/-- The unit lies in an isolated scope (R440). -/
def Dev.unitIso (s : Dev) (u : UnitId) : Bool :=
  s.stopped || (decide (u.cl < 16) && s.clusterIso u.cl)
    || (decide (u.reg < 2) && (if u.die == 0 then s.fIso u.reg else s.tIso u.reg))
    || s.int.units.contains u.code.toNat

/-- Log one detection (R443): counters, log, event bit, record. -/
def Dev.logDetect (s : Dev) (cls : Nat) (u : UnitId) (d0 d1 : W32) (applied : Bool) (count : Nat) : Dev :=
  let react := s.reactOf cls
  let ws : List W32 := [0x20#32 ||| at_ 8 4 cls ||| at_ 12 3 react ||| atB 15 applied ||| at_ 16 8 (min 255 count),
    u.code, w32 s.cue.ns, w32 s.cue.sec, d0, d1, 0, 0]
  let s := { s with int := { s.int with log := (ws :: s.int.log).take 1024 } }
  let s := s.bump bINT 4 cls 0 1
  let s := if applied then s.bump bINT 4 cls 1 1 else s
  let s := s.event bINT (cls - 1)
  let ring := s.rg Reg.EVT_RING 0 bINT
  if bit ring 31 then (s.record (fld ring 0 6) ws).1 else s

/-- Detections of a class in a unit within the last second, the present one included; notes the present one. -/
def Dev.noteDetect (s : Dev) (cls : Nat) (u : UnitId) : Dev × Nat :=
  let now := s.cue.localNs
  let keep := s.int.recent.filter fun e => decide (now < e.2.2 + 1000000000)
  let mine := (keep.filter fun e => e.1 == cls && e.2.1 == u.code.toNat).length
  ({ s with int := { s.int with recent := (cls, u.code.toNat, now) :: keep } }, mine + 1)

/-- Stop device (R441): ports held down, fabric lanes not READY, queues flushed. -/
def Dev.stopDevice (s : Dev) : Dev :=
  if s.stopped then s
  else
    let s := s.wf Reg.INT_ISO 0 0 31 1 1
    let s := (List.range 256).foldl (fun s p => if s.portState p == 0 then s else s.portDown p 9) s
    let s := (List.range 320).foldl (fun s l => if s.laneUp l then s.emit (.ctrlSlot l (s.ctrlHdr l)) else s) s
    s.flushAll

/-- Isolate a cluster (R28, R441). -/
def Dev.isolateCluster (s : Dev) (c : Nat) : Dev :=
  let s := s.wf Reg.INT_ISO 0 0 c 1 1
  let s := (List.range 16).foldl (fun s i => if s.portState (16 * c + i) == 0 then s else s.portDown (16 * c + i) 9) s
  s.predFlush c

/-- Isolate an F-die region; both are stop device (R441). -/
def Dev.isolateF (s : Dev) (r : Nat) : Dev :=
  if s.fIso (1 - r) then s.stopDevice
  else
    let cls := (List.range 8).map fun i => 8 * r + i
    let s := cls.foldl (fun s c => if s.clusterIso c then s else
      let s := (List.range 16).foldl (fun s i => if s.portState (16 * c + i) == 0 then s else s.portDown (16 * c + i) 9) s
      s.predFlush c) s
    let s := s.wf Reg.INT_ISO 0 0 (16 + r) 1 1
    { s with int := { s.int with differ := [] } }

/-- Isolate a T-die region; both are stop device (R441). -/
def Dev.isolateT (s : Dev) (r : Nat) : Dev :=
  if s.tIso (1 - r) then s.stopDevice
  else
    let s := s.wf Reg.INT_ISO 0 0 (18 + r) 1 1
    let s := (List.range 4).foldl (fun s k => if s.variant.hasStack (4 * r + k) then s.stackOut (4 * r + k) else s) s
    (List.range 160).foldl (fun s l => s.laneFail (160 * r + l)) s

/-- Isolate region or the next larger scope. -/
def Dev.isolateRegion (s : Dev) (u : UnitId) : Dev :=
  if 2 ≤ u.reg then s.stopDevice else if u.die == 0 then s.isolateF u.reg else s.isolateT u.reg

/-- Isolate cluster or the next larger scope. -/
def Dev.isolateScope (s : Dev) (u : UnitId) : Dev :=
  if u.cl < 16 then s.isolateCluster u.cl else s.isolateRegion u

/-- Isolate a unit (R441): lanes, bundles, ciphers, queues and stacks alone, anything else with its cluster. -/
def Dev.isolateUnit (s : Dev) (u : UnitId) : Dev :=
  let mark (s : Dev) : Dev := { s with int := { s.int with units := addKey s.int.units u.code.toNat } }
  if u.blk == bLNP && u.cl < 16 then
    let lane := 16 * u.cl + u.inst % 16
    let ports := (List.range 16).map (16 * u.cl + ·)
    let s := mark s
    ports.foldl (fun s p => if s.portOn p && decide (p ≤ lane) && decide (lane < p + cfgWidth (s.portCfg p)) then s.portDown p 9 else s) s
  else if u.blk == bFAB && u.reg < 2 then (mark s).laneFail (160 * u.reg + u.inst)
  else if u.blk == bDVT && u.inst < 32 then
    let (s, failed) := (mark s).bundleLeave (u.inst / 16) (u.inst % 16)
    if failed then (s.stopDevice).logDetect 9 dovetailUnit 0 0 true 1 else s
  else if u.blk == bLCI && u.cl < 16 then (mark s).cipherOut u.cl
  else if u.blk == bQAD || u.blk == bSCH then
    let q := if u.blk == bQAD then u.inst else nQ + u.inst
    let s := (mark s).leakQ q
    s.setQueue q { s.queue q with isolated := true }
  else if u.blk == bHBM && u.reg < 2 then (mark s).stackOut (4 * u.reg + u.inst)
  else s.isolateScope u

/-- Apply a reaction (R440, R441). -/
def Dev.applyReact (s : Dev) (r : Nat) (u : UnitId) : Dev :=
  if r == 0 then s else if r == 1 then s.isolateUnit u else if r == 2 then s.isolateScope u
  else if r == 3 then s.isolateRegion u else s.stopDevice

/-- A detection in a resynchronising region ends the release (R442). -/
def Dev.endResync (s : Dev) (u : UnitId) : Dev :=
  if u.die == 0 && u.reg < 2 && bit (s.rg Reg.INT_ISO 0 0) (20 + u.reg) then
    s.wf Reg.INT_ISO 0 0 (20 + u.reg) 1 0
  else s

/-- A detection of class `cls` in unit `u` with the reaction `react` (R440, R443). -/
def Dev.detectWith (s : Dev) (cls : Nat) (u : UnitId) (d0 d1 : W32) (react : Nat) : Dev :=
  let (s, n) := s.noteDetect cls u
  let s := s.endResync u
  let due := cls == 9 || decide (max 1 (s.rf Reg.INT_CLASS_CFG 0 (cls - 1) 4 4) ≤ n)
  let applied := due && !s.unitIso u
  let s := s.logDetect cls u d0 d1 applied n
  if applied then s.applyReact react u else s

/-- A detection with the reaction configured for its class. -/
def Dev.detect (s : Dev) (cls : Nat) (u : UnitId) (d0 d1 : W32 := 0) : Dev := s.detectWith cls u d0 d1 (s.reactOf cls)

/-- A bundle leaves the rotation: class 8, and class 9 when the Dovetail has failed (R18, R19, R431). -/
def Dev.bundleOut (s : Dev) (dir b : Nat) : Dev :=
  if (s.dvt dir).out.contains b then s
  else
    let (s, failed) := s.bundleLeave dir b
    let s := s.detect 8 (bundleUnit dir b)
    if failed then s.detect 9 dovetailUnit else s

/-- A refused buffer pointer with its integrity detection (R248, class 10); a free names an owner. -/
def Dev.badPtr (s : Dev) (p cause agent : Nat) (owner : Nat := 0) : Dev :=
  (s.refusePtr p cause agent owner).detect 10 { blk := bBPM } (at_ 0 30 p ||| atB 31 true) 0

/-- A linkage mismatch of a queue (R439, class 11). -/
def Dev.badLink (s : Dev) (q : Nat) : Dev :=
  s.detect 11 (queueUnit q) (at_ 0 17 (q % nQ) ||| atB 17 (decide (nQ ≤ q))) 0

/-- A sweep of every queue that holds a straggler (R90). -/
def Dev.sweepAll (s : Dev) : Dev :=
  s.busyQueues.foldl (fun s q =>
    let (s, bad) := s.sweepQ q (s.queue q).pkts.length
    if bad then s.badLink q else s) s

end Sys2Proof.Machine
end

