-- ==== Sys2Proof/Machine/Cipher.lean ====
section
/-! DEFINITION. The Link Cipher: loads, context commands, switches, self-test, and the protection of one frame in either direction (chapter 07). -/
namespace Sys2Proof.Machine

/-! ### Contexts (R152, R155). -/

/-- A context in the clear obeys R152. -/
def ctxOk (ws : List W32) : Bool :=
  let xpn := ctxXpn ws
  ws.length == 20 && wfld ws 0 19 13 == 0 && wfld ws 0 14 2 != 3
    && (xpn || word ws 3 == 0) && !(word ws 2 == 0 && word ws 3 == 0)
    && (xpn || (List.range 4).all fun i => word ws (6 + i) == 0)
    && word ws 10 == 0 && word ws 11 == 0
    && (bit (word ws 0) 0 || (List.range 4).all fun i => word ws (16 + i) == 0)

/-- The key bytes of a context (R152). -/
def ctxKey (ws : List W32) : List Byte :=
  (wordsBytes (ws.drop 12)).take (if bit (word ws 0) 0 then 32 else 16)

/-- The SCI of a context, most significant byte first. -/
def ctxSci (ws : List W32) : List Byte := beBytes 8 (wordN ws 4 + 2 ^ 32 * wordN ws 5)

/-- The initialisation vector of a frame: SCI and PN, or for the XPN suites the salt XOR SSCI and PN (IEEE 802.1AE). -/
def ctxIv (ws : List W32) (pn : Nat) : List Byte :=
  if ctxXpn ws then
    let salt := wordN ws 7 + 2 ^ 32 * wordN ws 8 + 2 ^ 64 * wordN ws 9
    beBytes 12 (salt ^^^ (wordN ws 6 * 2 ^ 64 + pn))
  else ctxSci ws ++ beBytes 4 pn

/-- Bytes after the SecTAG that stay in the clear: the confidentiality offset, or all for integrity only. -/
def ctxClear (ws : List W32) (len : Nat) : Nat :=
  if bit (word ws 0) 16 then len
  else min len (if wfld ws 0 14 2 == 1 then 30 else if wfld ws 0 14 2 == 2 then 50 else 0)

/-- A store index is restored to some slot. -/
def Dev.restored (s : Dev) (i : Nat) : Bool := s.lci.slots.any fun e => e.2.index == i

/-- Store a context that was loaded for an index: the CODE (R155). -/
def Dev.loadCtx (s : Dev) (i : Nat) (ws : List W32) : Dev × Nat :=
  let p := ctxPort ws
  if !ctxOk ws || !(s.portOn p && s.protected p) then (s, 5)
  else if s.restored i then (s, 7)
  else match s.nextGen i with
    | none => (s, 4)
    | some g => (s.storePut i g ws (wordN ws 2 + 2 ^ 32 * wordN ws 3), 0)

/-- The load words. -/
def Dev.loadWords (s : Dev) (n : Nat) : List W32 := (List.range n).map fun i => mget 0 s.lci.load i

/-- Clear the load words (R155). -/
def Dev.loadClear (s : Dev) : Dev := { s with lci := { s.lci with load := [] } }

/-- Begin a context command or load: refused with CODE 1 while one is in progress, else `act` runs and its CODE waits for completion (R156). -/
def Dev.ctxBegin (s : Dev) (load : Bool) (act : Dev → Dev × Nat) : Dev :=
  if s.lci.busy.isSome then (s.wf Reg.LCI_CTX_STATUS 0 0 4 4 1).event bLCI 5
  else
    let (s, code) := act s
    let s := { s with lci := { s.lci with busy := some code, busyLoad := load } }
    s.wg Reg.LCI_CTX_STATUS 0 0 2#32

/-- A context command or load completes (R156). -/
def Dev.ctxComplete (s : Dev) : Dev :=
  match s.lci.busy with
  | none => s
  | some code =>
    let s := if s.lci.busyLoad then s.loadClear else s
    let s := { s with lci := { s.lci with busy := none, busyLoad := false } }
    (s.wg Reg.LCI_CTX_STATUS 0 0 (1#32 ||| at_ 4 4 code)).eventIf (code != 0) bLCI 5

/-- The cluster's cipher is in service: powered, STATE 0 (R170). -/
def Dev.cipherIn (s : Dev) (c : Nat) : Bool := s.rf Reg.LCI_CLUSTER_STATUS c 0 0 2 == 0 && s.pdOn 17

/-- A clear context load (R155). -/
def Dev.clearLoad (s : Dev) (i : Nat) : Dev := s.ctxBegin true fun s => s.loadCtx i (s.loadWords 20)

/-- A key-encryption key load (R154). -/
def Dev.kekLoad (s : Dev) (k : Nat) : Dev :=
  s.ctxBegin true fun s => ({ s with lci := { s.lci with keks := minsert s.lci.keks k (s.loadWords 8) } }, 0)

/-- A wrapped context load (R155). -/
def Dev.wrapLoad (s : Dev) (i k : Nat) : Dev :=
  s.ctxBegin true fun s =>
    match s.lci.keks.find? fun e => e.1 == k with
    | none => (s, 10)
    | some kek =>
      match Config.keyUnwrap (wordsBytes kek.2) (wordsBytes (s.loadWords 22)) with
      | none => (s, 4)
      | some bs => s.loadCtx i (bytesWords 20 bs)

/-- Restore (R156). -/
def Dev.restoreCtx (s : Dev) (i c slot : Nat) (hbmErr : Bool) : Dev :=
  s.ctxBegin false fun s =>
    if !s.cipherIn c then (s, 9)
    else if (s.ctx? c slot).isSome then (s, 2)
    else if hbmErr || s.tIso 0 then (s, 8)
    else match s.lci.store.find? fun e => e.1 == i with
      | none => (s, 4)
      | some e =>
        let ws := e.2.words
        if s.restored i then (s, 7)
        else if e.2.key != s.lci.devKey || ctxGen ws != mget 0 s.lci.gens i then (s, 4)
        else if ctxPort ws / 16 != c then (s, 6)
        else if ctxImplicit ws && !ctxTx ws && (s.lci.slots.any fun x =>
            ctxImplicit x.2.words && !ctxTx x.2.words && ctxPort x.2.words == ctxPort ws && ctxAn x.2.words == ctxAn ws) then (s, 5)
        else ((s.setCtx c slot { words := ws, index := i, pn := ctxPn ws }).warnPn c slot, 0)

/-- Park (R156). -/
def Dev.parkCtx (s : Dev) (c slot : Nat) : Dev := s.ctxBegin false fun s => s.park c slot

/-- Drop (R156). -/
def Dev.dropCmd (s : Dev) (c slot : Nat) : Dev :=
  s.ctxBegin false fun s => if (s.ctx? c slot).isNone then (s, 3) else (s.dropCtx c slot, 0)

/-- Erase (R156). -/
def Dev.eraseCtx (s : Dev) (i : Nat) : Dev :=
  s.ctxBegin false fun s =>
    if s.restored i then (s, 7) else ({ s with lci := { s.lci with store := merase s.lci.store i } }, 0)

/-! ### Switches (R160–R162). -/

/-- A slot can be made current for port `p`: a valid transmit context for it, not exhausted. -/
def Dev.txSlotOk (s : Dev) (p slot : Nat) : Bool :=
  match s.ctx? (p / 16) slot with
  | some x => ctxTx x.words && ctxPort x.words == p && decide (0 < x.remaining)
  | none => false

/-- Make a slot current. -/
def Dev.setCur (s : Dev) (p slot : Nat) : Dev := s.pWf Reg.LCI_PORT_TX p 0 9 (256 + slot)

/-- Apply switch record `r`; answers whether the check held (R161). -/
def Dev.applySwitch (s : Dev) (r : Nat) : Dev × Bool :=
  let w := word (s.obj bLCI 0x10 r) 0
  let p := fld w 0 8
  if fld w 16 16 == 0 && s.txSlotOk p (fld w 8 8) then (s.setCur p (fld w 8 8), true) else (s, false)

/-- The automatic switch of port `p` on a tick (R162). -/
def Dev.autoSwitch (s : Dev) (p : Nat) : Dev :=
  let v := s.pRg Reg.LCI_PORT_TX p
  -- a time in which the conditions do not hold ends; the next one warns anew
  let rest : Dev := { s with lci := { s.lci with autoWarned := delKey s.lci.autoWarned p } }
  if !bit v 24 || !bit v 8 then rest
  else match s.ctx? (p / 16) (fld v 0 8) with
    | none => rest
    | some cur =>
      if 2 ^ s.warnExp p cur < cur.remaining then rest
      else
        let ok := fld v 16 8 != fld v 0 8 && (match s.ctx? (p / 16) (fld v 16 8) with
          | some x => ctxTx x.words && ctxPort x.words == p && decide (2 ^ s.warnExp p x < x.remaining)
          | none => false)
        if ok then
          let s := (s.setCur p (fld v 16 8)).pWf Reg.LCI_PORT_TX p 24 1 0
          ({ s with lci := { s.lci with autoWarned := delKey s.lci.autoWarned p } }).event bLCI 3
        else if s.lci.autoWarned.contains p then s
        else ({ s with lci := { s.lci with autoWarned := addKey s.lci.autoWarned p } }).event bLCI 4

/-! ### Transmit (R151, R158, R159, R169). -/

/-- How a protected frame leaves the cipher. -/
inductive TxOut
  | sent (data : List Byte)
  | dropped
  | cut (data : List Byte)
  deriving DecidableEq, Repr

/-- The SecTAG of a frame (IEEE 802.1AE): EtherType, TCI and AN, SL, PN, and the SCI when TX_SCI is 1. -/
def secTag (ws : List W32) (pn len : Nat) : List Byte :=
  let integ := bit (word ws 0) 16
  let tci := (if ctxTxSci ws then 0x20 else 0) + (if integ then 0 else 0x0C) + ctxAn ws
  let sl := if len < 48 then len else 0
  beBytes 2 0x88E5 ++ [BitVec.ofNat 8 tci, BitVec.ofNat 8 sl] ++ beBytes 4 pn ++ (if ctxTxSci ws then ctxSci ws else [])

/-- Protect a frame (addresses to the byte before the FCS) of port `p` (R158, R159). `agree` none when the lanes agree, else the number of bytes agreed before they disagreed (R169). -/
def Dev.protect (s : Dev) (p : Nat) (frame : List Byte) (agree : Option Nat) : Dev × TxOut :=
  let c := p / 16
  let tx := s.pRg Reg.LCI_PORT_TX p
  if !s.cipherIn c || !bit tx 8 then (s.bump bLCI 3 p 3 1, .dropped)
  else match s.ctx? c (fld tx 0 8) with
    | none => (s.bump bLCI 3 p 3 1, .dropped)
    | some x =>
      let exp := if ctxTxSci x.words then 32 else 24
      let lim := max 1518 (min 9600 (s.pRf Reg.LNP_PORT_CFG p 8 14))
      if lim + 32 < frame.length + 4 + exp then ((s.bump bEPP 1 p 2 1).event bEPP 1, .dropped)
      else if x.remaining == 0 then ((s.bump bLCI 3 p 1 1).event bLCI 2, .dropped)
      else
        let s := (s.setCtx c (fld tx 0 8) { x with pn := x.pn + 1 }).warnPn c (fld tx 0 8)
        let body := frame.drop 12
        let tag := secTag x.words x.pn body.length
        let clr := ctxClear x.words body.length
        let aad := frame.take 12 ++ tag ++ body.take clr
        let iv := ctxIv x.words x.pn
        let ct := Config.gcmEncrypt (ctxKey x.words) iv aad (body.drop clr)
        let data := aad ++ ct ++ Config.gcmTag (ctxKey x.words) iv aad ct
        let s := s.count bLCI 0x10 c ((body.length + 31) / 32) { port := some p }
        match agree with
        | none => (s.bump bLCI 3 p 0 1, .sent data)
        | some n => (((s.bump bLCI 3 p 2 1).cipherFault c).detect 7 (clusterUnit bLCI c 0),
            -- whole 32-byte blocks that both lanes agree on, and no ICV
            .cut (frame.take 12 ++ tag ++ (body.take clr ++ ct).take (n / 32 * 32)))

/-! ### Receive (R163–R165). -/

/-- What the cipher hands to the receive buffer: the plaintext, the PROT code, the verdict. -/
inductive RxOut
  | pass (frame : List Byte) (prot : Nat) (good : Bool)
  | dropped
  deriving DecidableEq, Repr

/-- Recover a 64-bit PN from its low 32 bits and the lowest acceptable PN (R164, IEEE 802.1AE). -/
def recoverPn (lap low : Nat) : Nat :=
  let hi := lap / 2 ^ 32
  if lap % 2 ^ 32 ≥ 2 ^ 31 && low < 2 ^ 31 then (hi + 1) * 2 ^ 32 + low else hi * 2 ^ 32 + low

/-- Count of class `k` of a port's receive cipher object. -/
def Dev.rxCount (s : Dev) (p k : Nat) : Dev := s.bump bLCI 2 p k 1

/-- The SecTAG of a frame with `len` bytes behind it is malformed, but for its PN (R163, IEEE 802.1AE): V nonzero, SC with ES or SCB, C without E, SL above 47, SL 0 before fewer than 48 bytes of secure data, or SL beyond the frame. -/
def badTag (tci sl len : Nat) : Bool :=
  let b (i : Nat) : Bool := tci / 2 ^ i % 2 == 1
  b 7 || (b 5 && (b 6 || b 4)) || 48 ≤ sl || (b 2 && !b 3) || decide (len < (if sl == 0 then 48 else sl) + 16)

/-- Receive one frame of a protected port (R163–R165). `disagree`: the lanes agree on so many bytes and then disagree (R169). -/
def Dev.unprotect (s : Dev) (p : Nat) (frame : List Byte) (disagree : Option Nat) : Dev × RxOut :=
  let c := p / 16
  let etype := ofBe (slice frame 12 2)
  -- dropped out of service: counted where object 0x03 counts it (log entry 124)
  if !s.cipherIn c then (s.bump bLCI 3 p 3 1, .dropped)
  else if etype != 0x88E5 then
    let by_ := s.rg Reg.LCI_BYPASS 0 0
    if bit by_ 16 && etype == fld by_ 0 16 then (s, .pass frame 2 true)
    else if bit (s.pRg Reg.LCI_PORT_CFG p) 1 then (s, .pass frame 3 true)
    else (s.rxCount p 3, .dropped)
  else
    let tci := (frame.getD 14 0).toNat
    let sl := (frame.getD 15 0).toNat
    let scPresent := tci / 32 % 2 == 1
    let es := tci / 64 % 2 == 1
    let tagLen := if scPresent then 16 else 8
    if badTag tci sl (frame.length - 12 - tagLen) then (s.bump bLCI 0x41 p 0 1, .dropped)
    else
      let low := ofBe (slice frame 16 4)
      let an := tci % 4
      let sci := if scPresent then some (slice frame 20 8) else if es then some (slice frame 6 6 ++ [0, 1]) else none
      let hit := s.lci.slots.find? fun e => e.1 / 256 == c && !ctxTx e.2.words && ctxPort e.2.words == p && ctxAn e.2.words == an
        && (match sci with | some v => ctxSci e.2.words == v | none => ctxImplicit e.2.words)
      match hit with
      | none => (s.rxCount p 3, .dropped)
      | some e =>
        let x := e.2
        let pn := if ctxXpn x.words then recoverPn x.pn low else low
        -- PN 0 is malformed but for the XPN suites
        if !ctxXpn x.words && low == 0 then (s.bump bLCI 0x41 p 0 1, .dropped)
        else if bit (word x.words 0) 18 && pn < x.pn then (s.rxCount p 2, .dropped)
        else
          let all := frame.drop (12 + tagLen)
          let sec := if sl == 0 then all else all.take (sl + 16)
          let data := sec.take (sec.length - 16)
          let icv := sec.drop (sec.length - 16)
          let clr := ctxClear x.words data.length
          let aad := frame.take (12 + tagLen) ++ data.take clr
          let iv := ctxIv x.words pn
          let ct := data.drop clr
          let good := disagree.isNone && Config.gcmTag (ctxKey x.words) iv aad ct == icv
          let text := data.take clr ++ Config.gcmDecrypt (ctxKey x.words) iv aad ct
          -- only blocks that both lanes agree on pass
          let plain := frame.take 12 ++ (match disagree with | some n => text.take (n / 32 * 32) | none => text)
          let s := s.count bLCI 0x11 c ((data.length + 31) / 32) { port := some p }
          let s := if good then
              s.setCtx c (e.1 % 256) { x with pn := max x.pn (pn + 1 - wordN x.words 1) }
            else s.event bLCI 6
          let s := s.rxCount p (if good then 0 else 1)
          let s := if disagree.isSome then (s.cipherFault c).detect 7 (clusterUnit bLCI c 0) else s
          (s, .pass plain 1 good)

/-! ### Commands. -/

/-- CLEAR_CONTEXT_LOAD (R155): a KW write of LCI_CLEAR_LOAD with TARGET 0. -/
def execClearContextLoad (q : Req) (index : BitVec 14) (go : Bool) (s : State) : Host.Outcome State Fault Refusal :=
  s.on fun d => d.gateKw q Reg.LCI_CLEAR_LOAD 0 0 fun d =>
    let d := d.wg Reg.LCI_CLEAR_LOAD 0 0 (at_ 0 14 index.toNat ||| atB 31 go)
    if go then d.clearLoad index.toNat else d

/-- CLEAR_KEK_LOAD (R154, R155): a KW write of LCI_CLEAR_LOAD with TARGET 1. -/
def execClearKekLoad (q : Req) (index : BitVec 14) (go : Bool) (s : State) : Host.Outcome State Fault Refusal :=
  s.on fun d => d.gateKw q Reg.LCI_CLEAR_LOAD 0 0 fun d =>
    let d := d.wg Reg.LCI_CLEAR_LOAD 0 0 (at_ 0 14 index.toNat ||| atB 16 true ||| atB 31 go)
    if go then d.kekLoad (index.toNat % 4) else d

/-- WRAPPED_CONTEXT_LOAD (R155): a write of LCI_WRAP_LOAD. -/
def execWrappedContextLoad (q : Req) (index : BitVec 14) (kek : Fin 4) (go : Bool) (s : State) : Host.Outcome State Fault Refusal :=
  s.on fun d => d.gateWrite q Reg.LCI_WRAP_LOAD 0 0 fun d _ => if go then d.wrapLoad index.toNat kek else d

/-- LOAD_WORDS_CLEAR (R155): 1 ms after the last write of a load word. -/
def execLoadWordsClear (s : State) : Host.Outcome State Fault Refusal := s.on fun d => d.loadClear

/-- A write of LCI_CTX_CMD stores its fields and starts `act`. -/
def Dev.ctxWrite (d : Dev) (q : Req) (op : Nat) (index : BitVec 14) (c : Fin 16) (slot : Byte) (act : Dev → Dev) : Dev :=
  d.gateWrite q Reg.LCI_CTX_CMD 0 0 fun d _ =>
    act (d.wg Reg.LCI_CTX_CMD 0 0 (at_ 0 14 index.toNat ||| at_ 16 3 op ||| at_ 20 4 c ||| at_ 24 8 slot.toNat))

/-- RESTORE (R156): OP 1; `hbmErr` says that the store read meets an uncorrectable error (R355). -/
def execRestore (q : Req) (index : BitVec 14) (c : Fin 16) (slot : Byte) (hbmErr : Bool) (s : State) : Host.Outcome State Fault Refusal :=
  s.on fun d => d.ctxWrite q 1 index c slot fun d => d.restoreCtx index.toNat c slot.toNat hbmErr

/-- PARK (R156, R157): OP 2. -/
def execPark (q : Req) (index : BitVec 14) (c : Fin 16) (slot : Byte) (s : State) : Host.Outcome State Fault Refusal :=
  s.on fun d => d.ctxWrite q 2 index c slot fun d => d.parkCtx c slot.toNat

/-- DROP (R156, R157): OP 3. -/
def execDrop (q : Req) (index : BitVec 14) (c : Fin 16) (slot : Byte) (s : State) : Host.Outcome State Fault Refusal :=
  s.on fun d => d.ctxWrite q 3 index c slot fun d => d.dropCmd c slot.toNat

/-- ERASE (R156): OP 4. -/
def execErase (q : Req) (index : BitVec 14) (c : Fin 16) (slot : Byte) (s : State) : Host.Outcome State Fault Refusal :=
  s.on fun d => d.ctxWrite q 4 index c slot fun d => d.eraseCtx index.toNat

/-- LCI_SWITCH_NOW (R160): the record applies at the next tick. -/
def execLciSwitchNow (q : Req) (record : BitVec 12) (go : Bool) (s : State) : Host.Outcome State Fault Refusal :=
  s.on fun d => d.gateWrite q Reg.LCI_SWITCH_NOW 0 0 fun d _ =>
    if go then { d with lci := { d.lci with switchReq := d.lci.switchReq ++ [record.toNat] } } else d

/-- CIPHER_RESTORE (R171): a write of LCI_CLUSTER_CTRL. -/
def execCipherRestore (q : Req) (c : Fin 16) (restore : Bool) (s : State) : Host.Outcome State Fault Refusal :=
  s.on fun d => d.gateWrite q Reg.LCI_CLUSTER_CTRL c 0 fun d _ =>
    if restore && d.rf Reg.LCI_CLUSTER_STATUS c 0 0 2 == 1 then d.wf Reg.LCI_CLUSTER_STATUS c 0 0 2 2 else d

/-- SELF_TEST_COMPLETE (R171). -/
def execSelfTestComplete (c : Fin 16) (pass : Bool) (s : State) : Host.Outcome State Fault Refusal :=
  s.on fun d =>
    if d.rf Reg.LCI_CLUSTER_STATUS c 0 0 2 != 2 then d
    else
      let d := (d.validSlots c).foldl (fun d k => d.dropCtx c k) d
      let d := d.wf Reg.LCI_CLUSTER_STATUS c 0 0 2 (if pass then 0 else 1)
      d.eventIf pass bLCI 7

/-- CONTEXT_COMMAND_COMPLETE (R156). -/
def execContextCommandComplete (s : State) : Host.Outcome State Fault Refusal := s.on fun d => d.ctxComplete

end Sys2Proof.Machine
end

