-- ==== Sys2Proof/Machine/CueOps.lean ====
section
/-! DEFINITION. Cue slots and submission (R73–R78), as the commands of chapter 03 and firmware on the Lead use them. -/
namespace Sys2Proof.Machine

def Dev.slot (s : Dev) (i : Nat) : CueSlot := mget {} s.cue.slots i
def Dev.setSlot (s : Dev) (i : Nat) (x : CueSlot) : Dev := { s with cue := { s.cue with slots := mset {} s.cue.slots i x } }

def CueSlot.sec (x : CueSlot) : Nat := x.w1.toNat + 2 ^ 32 * fld x.w2 0 16
def CueSlot.ns (x : CueSlot) : Nat := x.w0.toNat
def CueSlot.action (x : CueSlot) : Nat := fld x.w2 16 4

/-- A time is at or before another. -/
def timeLe (s1 n1 s2 n2 : Nat) : Bool := decide (s1 < s2) || (s1 == s2 && decide (n1 ≤ n2))

/-- TIME_VALID (R71). -/
def Dev.timeValid (s : Dev) : Bool := bit (s.rg Reg.CUE_CTRL 0 0) 0

/-- A cue entry is refused with CODE 4: ACTION or ARG invalid, NS out of range, reserved bits, unit absent (R75, R76). -/
def Dev.cueBad (s : Dev) (w0 w2 w3 : W32) : Bool :=
  let act := fld w2 16 4
  let argOk :=
    if act == 1 then w3 != 0
    else if act == 2 then fld w3 4 28 == 0
    else if act == 3 || act == 4 then w3 == 0
    else if act == 5 then fld w3 12 20 == 0
    else if act == 6 then fld w3 12 20 == 0 && s.variant.hasOtn
    else if act == 7 then fld w3 12 20 == 0 && s.variant.hasFab
    else false
  !argOk || decide (1000000000 ≤ w0.toNat) || fld w2 20 4 != 0

/-- Submit a cue entry to slot `i` (R76): the new state and the CODE. `lead`: the submitter is firmware on the Lead.
DESIGN CHOICE (log entry 116): of several refusals the lowest CODE is given. -/
def Dev.submitCue (s : Dev) (i : Nat) (w0 w1 w2 w3 : W32) (lead : Bool) : Dev × Nat :=
  if !s.timeValid then (s, 2)
  else if 224 ≤ i && !lead then (s, 3)
  else if s.cueBad w0 w2 w3 then (s, 4)
  else if (s.slot i).state == 1 then (s, 5)
  else
    let late := timeLe (w1.toNat + 2 ^ 32 * fld w2 0 16) w0.toNat s.cue.sec s.cue.ns
    (s.setSlot i { w0 := w0, w1 := w1, w2 := w2, w3 := w3, state := 1 }, if late then 1 else 0)

/-- The time `d` nanoseconds after the latest tick. -/
def Dev.timeIn (s : Dev) (d : Nat) : Nat × Nat :=
  let n := s.cue.ns + d
  (s.cue.sec + n / 1000000000, n % 1000000000)

/-- Firmware on the Lead submits an action for a time in the lowest of its slots 224–255 that holds no pending cue (R77). -/
def Dev.leadCueAt (s : Dev) (sec ns action : Nat) (arg : W32) : Dev × Bool :=
  match (List.range 32).find? fun k => (s.slot (224 + k)).state != 1 with
  | none => (s, false)
  | some k =>
    let (s', code) := s.submitCue (224 + k) (w32 ns) (w32 sec) (at_ 0 16 (sec / 2 ^ 32) ||| at_ 16 4 action) arg true
    (s', code == 0 || code == 1)

/-- The same, `d` nanoseconds from now. -/
def Dev.leadCue (s : Dev) (d action : Nat) (arg : W32) : Dev × Bool :=
  let t := s.timeIn d
  s.leadCueAt t.1 t.2 action arg

end Sys2Proof.Machine
end

