-- ==== Sys2Proof/Machine/Tickets.lean ====
section
/-! DEFINITION. The ticket's sixteen words, its crossing form, and the bytes of a crossing (R11, R197, R246). -/
namespace Sys2Proof.Machine

/-- Words 0–7 of a ticket (R197). -/
def Ticket.fixed (k : Ticket) : List W32 :=
  [at_ 28 4 k.epoch.toNat ||| at_ 25 3 k.tc.toNat ||| at_ 23 2 k.colour.toNat ||| atB 22 k.untrusted ||| at_ 20 2 k.prot.toNat
      ||| at_ 18 2 k.dkind.toNat ||| at_ 14 4 k.mirror.toNat ||| at_ 0 14 k.frameLen.toNat,
   k.dst,
   atB 17 k.eqValid ||| at_ 0 17 k.eq.toNat,
   at_ 17 8 k.srcPort.toNat ||| at_ 0 17 k.voq.toNat,
   k.flowHash, k.tsNs, k.tsSec,
   at_ 24 8 k.reason.toNat ||| atB 20 k.nhValid ||| at_ 0 20 k.nhIndex.toNat]

/-- Bytes 0–63 of a ticket, each word most significant byte first. -/
def Ticket.bytes (k : Ticket) : List Byte := (k.fixed.flatMap fun w => beBytes 4 w.toNat) ++ slice k.res 0 32

/-- The CARRIED bits of the book in force (R11, R98). -/
def Dev.carried (s : Dev) : Nat := (s.pbk.inForce.map Book.carried).getD 0

/-- The result bytes with those of words that do not cross read as 0 (R11). -/
def carryRes (carried : Nat) (res : List Byte) : List Byte :=
  (List.range 4).flatMap fun j => if carried / 2 ^ j % 2 == 1 then slice res (8 * j) 8 else List.replicate 8 0

/-- A ticket as it arrives on the T-die (R11). -/
def Ticket.crossed (k : Ticket) (carried : Nat) : Ticket := { k with res := carryRes carried k.res }

/-- The crossing form of a ticket (R11). -/
def Ticket.form (k : Ticket) (carried : Nat) : List Byte :=
  (k.fixed.flatMap fun w => beBytes 4 w.toNat) ++
    (List.range 4).flatMap fun j => if carried / 2 ^ j % 2 == 1 then slice k.res (8 * j) 8 else []

/-- The result bytes that a crossing form holds, put back into their places. -/
def spreadRes (carried : Nat) (bs : List Byte) : List Byte :=
  ((List.range 4).foldl (fun (acc : List Byte × List Byte) i =>
    if carried / 2 ^ i % 2 == 1 then (acc.1 ++ slice acc.2 0 8, acc.2.drop 8) else (acc.1 ++ List.replicate 8 0, acc.2)) ([], bs)).1

/-- Word `i` of a crossing. -/
def beWord (bs : List Byte) (i : Nat) : W32 := BitVec.ofNat 32 (ofBe (slice bs (4 * i) 4))

/-- A field of a word as a bit vector. -/
def fldV (n : Nat) (w : W32) (lo : Nat) : BitVec n := BitVec.ofNat n (w.toNat / 2 ^ lo)

/-- The ticket that a crossing begins with (R197). -/
def ticketOf (carried : Nat) (bs : List Byte) : Ticket :=
  let w0 := beWord bs 0
  let w2 := beWord bs 2
  let w3 := beWord bs 3
  let w7 := beWord bs 7
  { epoch := fldV 4 w0 28, tc := fldV 3 w0 25, colour := fldV 2 w0 23, untrusted := bit w0 22, prot := fldV 2 w0 20,
    dkind := fldV 2 w0 18, mirror := fldV 4 w0 14, frameLen := fldV 14 w0 0, dst := beWord bs 1,
    eqValid := bit w2 17, eq := fldV 17 w2 0, srcPort := fldV 8 w3 17, voq := fldV 17 w3 0,
    flowHash := beWord bs 4, tsNs := beWord bs 5, tsSec := beWord bs 6,
    reason := fldV 8 w7 24, nhValid := bit w7 20, nhIndex := fldV 20 w7 0, res := spreadRes carried (bs.drop 32) }

/-- The crossing of a packet: ticket in its crossing form, then the frame without FCS (R10). -/
def Dev.crossing (s : Dev) (k : Ticket) (frame : List Byte) : List Byte := k.form s.carried ++ frame

/-- DST_DEV and DST_PORT of a unicast ticket, the group of a multicast one, the ring of a host one (R197). -/
def Ticket.dstDev (k : Ticket) : Nat := fld k.dst 18 14
def Ticket.dstPort (k : Ticket) : Nat := fld k.dst 10 8
def Ticket.group (k : Ticket) : Nat := fld k.dst 0 20
def Ticket.rxRing (k : Ticket) : Nat := fld k.dst 0 9

/-- The mesh index of a device, if it is a member of the mesh. -/
def Dev.meshIndex (s : Dev) (d : Nat) : Option Nat :=
  (List.range 5).find? fun j => j != s.meshSelf && s.meshPeer j == d

/-- The lane of pin entry `h` for a mesh member, or for the fabric elements (R305). -/
def Dev.laneFor (s : Dev) (h : Nat) (mesh : Option Nat) : Nat :=
  match mesh with
  | some j => 64 * j + (s.pin h).lane % 64
  | none => (s.pin h).lane

/-- The pin entry of a packet. -/
def Ticket.pinOf (k : Ticket) : Nat := fld k.flowHash 0 12

/-- The stream of a lane (R297). -/
def streamOf (kind tc : Nat) : Nat := 2 * kind + (if tc == 0 then 1 else 0)

/-- An entry can commit a packet to a lane: not held, the lane in service, its stream not stopped by LFC (R301, R305). -/
def Dev.laneTakes (s : Dev) (h lane stream : Nat) : Bool :=
  !(s.pin h).held && s.laneUp lane && mget 0 s.tm.lfc lane / 2 ^ stream % 2 == 0

/-- The mesh member of a destination in mesh mode. -/
def Dev.meshFor (s : Dev) (d : Nat) : Option (Option Nat) :=
  if s.fabMode == 2 then (s.meshIndex d).map some else some none

/-- The length that shapers and counters take: FRAME_LEN, or what the frame gives while FRAME_LEN is still 0 (R197, R268). -/
def lenOf (k : Ticket) (frame : List Byte) : Nat := if k.frameLen == 0 then frame.length + 4 else k.frameLen.toNat
def Pkt.len (k : Pkt) : Nat := lenOf k.ticket k.frame

/-- The attributes of a T-die packet event: class and egress port; a packet without an egress port matches no port filter (R455). -/
def Ticket.attr (k : Ticket) : EvAttr := { tc := some k.tc.toNat, port := some (if k.dkind == 0 then k.dstPort else 256) }
def Pkt.attr (k : Pkt) : EvAttr :=
  { tc := some k.ticket.tc.toNat, port := some (match k.port with | some p => p | none => if k.ticket.dkind == 0 then k.ticket.dstPort else 256) }

/-- The VOQ that the destination map gives (R274, R275), for a decision at tick `t`. -/
def Dev.voqFor (s : Dev) (t : Nat) (dkind : Nat) (dst : W32) (tc : Nat) : Option Nat :=
  let v : Option Nat :=
    if dkind == 0 then
      let d := fld dst 18 14
      let p := fld dst 10 8
      let ws := s.cfgObj t bSCH 1 d
      let mode := wfld ws 0 0 2
      let base := wfld ws 0 4 17
      if d != s.devId && !s.variant.hasFab then none
      else if mode == 1 && decide (wfld ws 1 0 8 ≤ p) && decide (p ≤ wfld ws 1 8 8) then some (base + (p - wfld ws 1 0 8) * 8 + tc)
      else if mode == 2 && d != s.devId then some (base + tc)
      else none
    else if dkind == 1 then some (fld (s.cfg t Reg.SCH_MC_VOQ_BASE 0 0) 3 14 * 8 + tc)
    else some (fld (s.cfg t Reg.SCH_HOST_VOQ_BASE 0 0) 3 14 * 8 + tc)
  v.bind fun n => if n < nQ then some n else none

end Sys2Proof.Machine
end

