-- ==== Sys2Proof/Machine/Sched.lean ====
section
/-! DEFINITION. The egress hierarchy: node buckets, the choice of a packet for a port, and the charges at dequeue commit (chapter 12). -/
namespace Sys2Proof.Machine

/-! ### Buckets of nodes, of ports' caps, of uncredited VOQs (R270–R273, R283, R292). -/

/-- Word `j` of a node's object. -/
def Dev.nodeW (s : Dev) (n j : Nat) : W32 := word (s.obj bSCH 2 n) j

/-- The peak rate of a pair of rate words: never below the committed one (R273). -/
def peakRate (cir pir : W32) : Option Nat :=
  match rateOf cir, rateOf pir with
  | some c, some p => some (max c p)
  | _, _ => none

def Dev.nodeCommitted (s : Dev) (n : Nat) : Int :=
  Bucket.now (mget none s.tm.nodeC n) (rateOf (s.nodeW n 0)) (sizeOf_ (s.nodeW n 1)) s.cue.localNs
def Dev.nodePeak (s : Dev) (n : Nat) : Int :=
  Bucket.now (mget none s.tm.nodeP n) (peakRate (s.nodeW n 0) (s.nodeW n 2)) (sizeOf_ (s.nodeW n 3)) s.cue.localNs

def Dev.chargeCommitted (s : Dev) (n len : Nat) : Dev :=
  { s with tm := { s.tm with nodeC := mset none s.tm.nodeC n (Bucket.charge (mget none s.tm.nodeC n) (rateOf (s.nodeW n 0)) (sizeOf_ (s.nodeW n 1)) s.cue.localNs len) } }
def Dev.chargePeak (s : Dev) (n len : Nat) : Dev :=
  { s with tm := { s.tm with nodeP := mset none s.tm.nodeP n (Bucket.charge (mget none s.tm.nodeP n) (peakRate (s.nodeW n 0) (s.nodeW n 2)) (sizeOf_ (s.nodeW n 3)) s.cue.localNs len) } }

/-- The Rate Follow cap of a port in bit/s, and its bucket (R122). -/
def Dev.capRate (s : Dev) (p : Nat) : Option Nat := if s.portRf p then some ((s.port p).cap * 5000000000) else none
abbrev capSize := 19240
def Dev.capTokens (s : Dev) (p : Nat) : Int := Bucket.now (mget none s.tm.capB p) (s.capRate p) capSize s.cue.localNs

/-- Cipher expansion of a port's frames (R151). -/
def Dev.expansion (s : Dev) (p : Nat) : Nat :=
  if !s.protected p then 0
  else match s.ctx? (p / 16) (fld (s.pRg Reg.LCI_PORT_TX p) 0 8) with
    | some x => if ctxTxSci x.words then 32 else 24
    | none => 24

def Dev.chargeCap (s : Dev) (p len : Nat) : Dev :=
  { s with tm := { s.tm with capB := mset none s.tm.capB p (Bucket.charge (mget none s.tm.capB p) (s.capRate p) capSize s.cue.localNs ((len + 20 + s.expansion p : Nat) : Int)) } }

/-- The bucket of an uncredited VOQ (R277). -/
def Dev.voqTokens (s : Dev) (v : Nat) : Int :=
  let ws := s.obj bSCH 4 v
  Bucket.now (mget none s.tm.voqB v) (rateOf (word ws 0)) (sizeOf_ (word ws 1)) s.cue.localNs
def Dev.chargeVoq (s : Dev) (v len : Nat) : Dev :=
  let ws := s.obj bSCH 4 v
  { s with tm := { s.tm with voqB := mset none s.tm.voqB v (Bucket.charge (mget none s.tm.voqB v) (rateOf (word ws 0)) (sizeOf_ (word ws 1)) s.cue.localNs len) } }

/-! ### The choice (R282–R284). -/

/-- The children of a node: of a port at level 1, of a level-2 node at level 2, of a level-3 node at level 3 (queues), by rising number. -/
def Dev.kids (s : Dev) (level num : Nat) : List HierRec :=
  (((s.pbk.inForce.map Book.hier).getD []).filter fun h => h.level == level && h.parent == num).foldr insKid []
where
  /-- Keep the list in rising order of number. -/
  insKid (h : HierRec) : List HierRec → List HierRec
    | [] => [h]
    | x :: l => if h.num ≤ x.num then h :: x :: l else x :: insKid h l

/-- One step of the path to a chosen queue: the child's node, whether it is weighted, the pass that served it. -/
structure Hop where
  node : Nat
  weighted : Bool
  pass : Nat
  deriving DecidableEq, Repr

/-- What a node yields: the state with its round robins moved on, the queue, the length of its packet, the path. -/
structure Yield where
  dev : Dev
  queue : Nat
  len : Nat
  path : List Hop
  deriving DecidableEq, Repr

/-- The deficit of a child in a pass, and its change. -/
def Dev.deficit (s : Dev) (pass child : Nat) : Int :=
  let d := mget ({} : Deficit) s.tm.deficits child
  if pass == 2 then d.d2 else d.d3
def Dev.setDeficit (s : Dev) (pass child : Nat) (v : Int) : Dev :=
  let d := mget ({} : Deficit) s.tm.deficits child
  { s with tm := { s.tm with deficits := mset {} s.tm.deficits child (if pass == 2 then { d with d2 := v } else { d with d3 := v }) } }

/-- Whose turn it is at a node in a pass, and whether the turn has begun. -/
def Dev.turnOf (s : Dev) (pass node : Nat) : Nat × Bool :=
  let t := mget ({} : Turn) s.tm.turns node
  if pass == 2 then (t.t2, t.b2) else (t.t3, t.b3)
def Dev.setTurn (s : Dev) (pass node child : Nat) (begun : Bool) : Dev :=
  let t := mget ({} : Turn) s.tm.turns node
  { s with tm := { s.tm with turns := mset {} s.tm.turns node (if pass == 2 then { t with t2 := child, b2 := begun } else { t with t3 := child, b3 := begun }) } }

/-- The child after `c`, in cyclic order of the candidates. -/
def nextKid (cands : List (Nat × Yield)) (c : Nat) : Option (Nat × Yield) :=
  match cands.find? fun e => decide (c < e.1) with
  | some e => some e
  | none => cands.head?

/-- Deficit-weighted round robin among the candidates of a pass (R284): the child served and the deficits and turn as they then stand; `fuel` bounds the turns. -/
def Dev.dwrr (s : Dev) (pass node : Nat) (cands : List (Nat × Yield)) : Nat → Option ((Nat × Yield) × Dev)
  | 0 => none
  | fuel + 1 =>
    let (c, begun) := s.turnOf pass node
    match (if begun then cands.find? fun e => e.1 == c else nextKid cands c) with
    | none => if begun then (s.setTurn pass node c false).dwrr pass node cands fuel else none
    | some e =>
      let w := max 1 (fld (s.nodeW e.1 4) 0 12)
      let s := if begun then s else (s.setTurn pass node e.1 true).setDeficit pass e.1 (s.deficit pass e.1 + w * 256)
      if (e.2.len : Int) ≤ s.deficit pass e.1 then some (e, s)
      else (s.setTurn pass node e.1 false).dwrr pass node cands fuel

/-- Put the round robin of one node, as `from_` has it, into a yielded state. -/
def Yield.withTurns (y : Yield) (from_ : Dev) (node : Nat) (cands : List (Nat × Yield)) : Dev :=
  let d := cands.foldl (fun (d : Dev) e =>
    { d with tm := { d.tm with deficits := mset {} d.tm.deficits e.1 (mget {} from_.tm.deficits e.1) } }) y.dev
  { d with tm := { d.tm with turns := mset {} d.tm.turns node (mget {} from_.tm.turns node) } }

/-- What the node `num` of a level (0 port, 1 level 2, 2 level 3) yields (R283); `fuel` is the depth. -/
def Dev.yieldOf (s : Dev) (level num : Nat) : Nat → Option Yield
  | 0 => none
  | fuel + 1 =>
    let me := nodeKey level num
    let cands : List (HierRec × Yield) := (s.kids (level + 1) num).filterMap fun h =>
      let n := nodeKey (level + 1) h.num
      if s.nodePeak n ≤ 0 then none
      else if level == 2 then
        match (s.queue (nQ + h.num)).pkts.head? with
        | none => none
        | some k => some (h, { dev := s, queue := h.num, len := k.len, path := [] })
      else (s.yieldOf (level + 1) h.num fuel).map fun y => (h, y)
    let done (h : HierRec) (y : Yield) (d : Dev) (pass : Nat) : Yield :=
      { y with dev := d, path := { node := nodeKey (level + 1) h.num, weighted := 4 ≤ h.slot, pass := pass } :: y.path }
    let strict := (List.range 4).findSome? fun k => cands.find? fun e => e.1.slot == k
    match strict with
    | some e => some (done e.1 e.2 e.2.dev 1)
    | none =>
      let wt := cands.filter fun e => decide (4 ≤ e.1.slot)
      let serve (pass : Nat) (l : List (HierRec × Yield)) : Option Yield :=
        let keyed := l.map fun e => (nodeKey (level + 1) e.1.num, e.2)
        match s.dwrr pass me keyed 4096 with
        | none => none
        | some (e, d) => (l.find? fun x => nodeKey (level + 1) x.1.num == e.1).map fun x => done x.1 x.2 (x.2.withTurns d me keyed) pass
      match serve 2 (wt.filter fun e => decide (0 < s.nodeCommitted (nodeKey (level + 1) e.1.num))) with
      | some y => some y
      | none => serve 3 wt

/-- Bytes on the wire, with preamble, gap and expansion, of the packets selected for a port and not yet transmitted (R269). -/
def Dev.onWire (s : Dev) (p : Nat) : Nat :=
  (s.tm.toEgress.filter fun k => k.port == p).foldl (fun n k => n + lenOf k.ticket k.frame + 20 + s.expansion p) 0
    + (s.tm.toLine.filter fun t => t.port == p).foldl (fun n t => n + t.frame.length + 24 + s.expansion p) 0

/-- The transmit path of a port takes a whole frame of length `len` (R269): an empty path takes any. -/
def Dev.pathTakes (s : Dev) (p len : Nat) : Bool :=
  s.onWire p == 0 || decide (s.onWire p + len + 20 + s.expansion p ≤ Config.txPath p)

/-- The Dovetail allowance of the port's cluster is not exhausted (R14). -/
def Dev.allowed (s : Dev) (p : Nat) : Bool :=
  decide ((s.tm.toEgress.filter fun k => k.port / 16 == p / 16).length ≤ Config.dovetailAllowance)

/-- The port node may choose (R14, R283, R289): up, its peak bucket and its Rate Follow cap above 0, its cluster's Dovetail allowance not exhausted. -/
def Dev.portChoosable (s : Dev) (p : Nat) : Bool :=
  s.portUp p && !s.stopped && decide (0 < s.nodePeak (nodeKey 0 p)) && decide (0 < s.capTokens p) && s.allowed p

/-- The queue that the hierarchy selects for a port, when its transmit path takes the packet (R269, R283). -/
def Dev.choose (s : Dev) (p : Nat) : Option Yield :=
  if s.portChoosable p then (s.yieldOf 0 p 3).filter fun y => s.pathTakes p y.len else none

/-- A child that leaves a pass loses its turn there, keeping its deficit (R284): both passes when its peak bucket is not above 0, pass 2 when its committed one is not. -/
def Dev.leavePass (s : Dev) (parent child : Nat) : Dev :=
  let t := mget ({} : Turn) s.tm.turns parent
  let out := decide (s.nodePeak child ≤ 0)
  let t := { t with b2 := t.b2 && !(t.t2 == child && (out || decide (s.nodeCommitted child ≤ 0))), b3 := t.b3 && !(t.t3 == child && out) }
  { s with tm := { s.tm with turns := mset {} s.tm.turns parent t } }

/-- The charges of dequeue commit along a path (R284, R285, R122). -/
def Dev.chargePath (s : Dev) (p len : Nat) (path : List Hop) : Dev :=
  let s := path.foldl (fun s h =>
    let s := s.chargePeak h.node len
    let s := if h.weighted then s.chargeCommitted h.node len else s
    if h.pass == 1 then s else s.setDeficit h.pass h.node (s.deficit h.pass h.node - len)) s
  let s := ((nodeKey 0 p :: path.map Hop.node).zip (path.map Hop.node)).foldl (fun s e => s.leavePass e.1 e.2) s
  (s.chargePeak (nodeKey 0 p) len).chargeCap p len

/-- Every bucket on the path of queue `e` to port `p` is above 0 (R311). -/
def Dev.pathOpen (s : Dev) (p e : Nat) : Bool :=
  match s.pathOf e with
  | none => false
  | some (q, n2, n3) => q == p && decide (0 < s.capTokens p) &&
      [nodeKey 0 p, nodeKey 1 n2, nodeKey 2 n3, nodeKey 3 e].all fun n => decide (0 < s.nodePeak n)

/-- Keep the tokens of a bucket across a change of rate or size: settled now and clipped to the new size (R286). -/
def settleBucket (b : Option Bucket) (r0 : Option Nat) (size0 : Nat) (r1 : Option Nat) (size1 now : Nat) : Option Bucket :=
  let t := min (Bucket.now b r0 size0 now) ((size1 : Int) * tokByte)
  if r1.isNone || t == (size1 : Int) * tokByte then none else some { tok := t, at_ := now }

end Sys2Proof.Machine
end

