-- ==== Sys2Proof/Machine/Lines.lean ====
section
/-! DEFINITION. Line ports and Rate Follow (chapter 05): port configuration at a firing, steps, requests through the Lead, and the commands on ports and lanes. -/
namespace Sys2Proof.Machine

/-! ### Rate Follow (R121–R129). -/

/-- The present transmit slot count k, and the receive count. -/
def Dev.rfK (s : Dev) (p : Nat) : Nat := s.pRf Reg.LNP_RF_STATUS p 4 9
def Dev.rfRx (s : Dev) (p : Nat) : Nat := s.pRf Reg.LNP_RF_STATUS p 16 9
def Dev.rfSetK (s : Dev) (p k : Nat) : Dev := s.pWf Reg.LNP_RF_STATUS p 4 9 k
def Dev.rfState (s : Dev) (p st : Nat) : Dev := s.pWf Reg.LNP_RF_STATUS p 0 3 st
/-- A Rate Follow failure: FAIL and event 4. -/
def Dev.rfFail (s : Dev) (p code : Nat) : Dev := (s.pWf Reg.LNP_RF_STATUS p 25 4 code).event bLNP 4

def Dev.setStep (s : Dev) (p : Nat) (r : Option RfStep) : Dev := s.setPort p { s.port p with step := r }
/-- Set the cap of a port; its bucket keeps its tokens at the new rate (R122). -/
def Dev.setCap (s : Dev) (p k : Nat) : Dev :=
  let t := s.setPort p { s.port p with cap := k }
  { t with tm := { t.tm with capB := mset none t.tm.capB p (settleBucket (mget none s.tm.capB p) (s.capRate p) capSize (t.capRate p) capSize s.cue.localNs) } }

/-- The slot count a FlexO port starts with (R121). -/
def Dev.rfInit (s : Dev) (p : Nat) : Nat :=
  let n := 20 * cfgOtuN (s.portCfg p)
  let i := s.pRf Reg.LNP_RF_SETUP p 22 9
  if !s.portRf p || i == 0 then n else max 10 (min n i)

/-- The tributary slots still present on the line, which bound the cap of the port in force. -/
def Dev.rfStart (s : Dev) (p : Nat) : Dev :=
  let s := s.setPort p { s.port p with told := none, added := none, bdiWatch := false }
  if s.portMode p == 6 then ((s.rfSetK p (s.rfInit p)).setCap p (s.rfInit p)) else s

/-- A configuration firing cancels a step (R129). -/
def Dev.rfCancel (s : Dev) (p : Nat) : Dev :=
  if (s.port p).step.isNone then s else ((s.setStep p none).rfState p 0).rfFail p 3

/-- A step record is refused (R125). -/
def Dev.rfRefused (s : Dev) (w0 w1 : W32) : Bool :=
  let p := fld w0 0 8
  let slots := fld w0 8 9
  let up := decide (s.rfK p < slots)
  !s.portRf p || slots < 10 || decide (20 * cfgOtuN (s.portCfg p) < slots) || slots == s.rfK p
    || decide (fld w1 0 16 < (if up then 100 else 2)) || (s.port p).step.isSome
    || fld w0 26 6 != 0 || fld w0 17 7 != 0 || fld w1 25 7 != 0

/-- Begin the step of record `r` at this tick (R124–R127); answers whether the record was accepted. -/
def Dev.rfBegin (s : Dev) (r : Nat) : Dev × Bool :=
  let ws := s.obj bLNP 0x10 r
  let w0 := word ws 0
  let w1 := word ws 1
  if s.rfRefused w0 w1 then (s, false)
  else
    let p := fld w0 0 8
    let slots := fld w0 8 9
    let up := decide (s.rfK p < slots)
    let now := s.cue.localNs
    let gap := fld w1 0 16 * (if up then 10000 else 1000)
    let st : RfStep := { slots := slots, old := s.rfK p, up := up, revert := up && bit w0 24, expectRx := bit w0 25,
                         expectSlots := fld w1 16 9, gapAt := now + gap, start := now, phase := 0 }
    let s := (s.setPort p { s.port p with step := some st, bdiWatch := false }).pWf Reg.LNP_RF_STATUS p 25 4 0
    let s := s.rfState p 2
    (if up then s else s.setCap p slots, true)

/-- A step that has changed its slots ends; after a decrease, BDI from the far receiver is still its failure, until the next step (R126; log entry 123). -/
def Dev.rfEnd (s : Dev) (p : Nat) (r : RfStep) : Dev :=
  (s.setPort p { s.port p with step := none, bdiWatch := !r.up && r.watch }).rfState p 0

/-- A step's transmit changes are done: complete, or watching for the far end (R126, R128). -/
def Dev.rfDone (s : Dev) (p : Nat) (r : RfStep) : Dev :=
  if r.expectRx && s.rfRx p != r.expectSlots then (s.setStep p (some { r with phase := 3 })).rfState p 4
  else (s.rfEnd p r).event bLNP 3

/-- Far-end BDI seen by the watch of a step, or after a decrease (R126, R127). -/
def Dev.rfBdi (s : Dev) (p : Nat) : Dev :=
  let x := s.port p
  match x.step with
  | none => if x.bdiWatch then (s.setPort p { x with bdiWatch := false }).rfFail p 2 else s
  | some r =>
    if !r.watch then s
    else if r.up && r.phase == 2 then
      if r.revert then s.setStep p (some { r with phase := 4, watch := false })
      else (s.setStep p (some { r with watch := false })).rfFail p 2
    else if !r.up && r.phase == 3 then (s.setStep p (some { r with watch := false })).rfFail p 2
    else s

/-- BDI is declared, which the watch takes as far-end BDI (R137). -/
def Dev.farBdi (s : Dev) (p : Nat) : Bool := fld (s.pRg Reg.OTF_DEFECT p) 12 2 != 0

/-- The transmit direction passes a PSI multiframe boundary (R123, R126, R127): the watch of an increase begins at B2, and BDI that is received then is BDI received during it. -/
def Dev.rfTxBoundary (s : Dev) (p : Nat) : Dev :=
  let x := s.port p
  match x.step with
  | none => s
  | some r =>
    let now := s.cue.localNs
    if r.phase == 0 then s.setPort p { x with step := some { r with phase := 1, b1 := now }, told := none, added := none }
    else if r.phase == 1 then
      if r.up then
        let s := (s.setStep p (some { r with phase := 2, b2 := now })).rfState p 3
        if s.farBdi p then s.rfBdi p else s
      else if r.gapAt ≤ now then (((s.rfSetK p r.slots).rfState p 3).rfDone p { r with phase := 2, b2 := now })
      else s
    else if r.phase == 4 then s.setStep p (some { r with phase := 5, b1 := now })
    else if r.phase == 5 then ((s.setStep p none).rfState p 0).rfFail p 4
    else s

/-- The slot count that the sent MSI announces (R123, R126–R128). -/
def Dev.slotsTold (s : Dev) (p : Nat) : Nat :=
  let x := s.port p
  let held := x.told.getD (s.rfK p)
  match x.step with
  | some r => if r.phase == 0 then held else if r.phase == 5 then r.old else if r.phase == 3 then s.rfK p else r.slots
  | none => held

/-- The slots on the line: those of an increase from B2 on, until a reversal removes them (R126–R128). -/
def Dev.slotsOn (s : Dev) (p : Nat) : Nat :=
  let x := s.port p
  let held := x.added.getD (s.rfK p)
  match x.step with
  | some r => if r.up && (r.phase == 2 || r.phase == 4 || r.phase == 5) then r.slots else if r.phase == 3 then s.rfK p else held
  | none => held

/-- The receive slot count changes (R123), which may end an EXPECT_RX check (R128). -/
def Dev.rfRxSlots (s : Dev) (p k : Nat) : Dev :=
  if s.rfRx p == k then s
  else
    let s := (s.pWf Reg.LNP_RF_STATUS p 16 9 k).event bLNP 5
    match (s.port p).step with
    | some r => if r.phase == 3 && r.expectSlots == k then s.rfDone p r else s
    | none => s

/-- The cap of an increase rises (R127). -/
def Dev.rfCapRise (s : Dev) (p : Nat) : Dev :=
  match (s.port p).step with
  | some r =>
    if r.up && r.phase == 2 && decide (max r.gapAt r.b2 ≤ s.cue.localNs) then
      ((s.setCap p r.slots).rfSetK p r.slots).rfDone p r
    else s
  | none => s

/-- RX_SLOTS has not reached EXPECT_SLOTS in time: the step ends, and what it has announced and added stays (R128). A reversal under way runs on to its own end (R127; log entry 123). -/
def Dev.rfTimeout (s : Dev) (p : Nat) : Dev :=
  match (s.port p).step with
  | some r =>
    if r.expectRx && s.rfRx p != r.expectSlots && r.phase < 4
        && decide (r.start + max 1 (s.rf Reg.LNP_RF_CTRL 0 0 0 8) * 1000000 ≤ s.cue.localNs) then
      let s := if r.phase == 1 || r.phase == 2 then s.setPort p { s.port p with told := some (s.slotsTold p), added := some (s.slotsOn p) } else s
      (if r.phase == 3 then s.rfEnd p r else (s.setStep p none).rfState p 0).rfFail p 1
    else s
  | none => s

/-- The Lead serves a request for `slots` on port `p` (R130): a record of its own range and a cue, or a drop, or a wait. -/
def Dev.rfRequest (s : Dev) (p slots : Nat) : Dev :=
  let x := s.port p
  if !s.leadRuns || x.step.isSome then s.setPort p { x with waiting := some slots }
  else
    let c := s.rg Reg.LNP_RF_CTRL 0 0
    let up := decide (s.rfK p < slots)
    let gap := if up then max 1 (fld c 16 8) * 100 else max 2 (fld c 8 8)
    let w0 := at_ 0 8 p ||| at_ 8 9 slots ||| atB 24 (up && bit c 24)
    let w1 := at_ 0 16 gap
    if 512 ≤ slots || s.rfRefused w0 w1 then (s.setPort p { x with waiting := none }).rfFail p 5
    else
      let (s', ok) := (s.setObj bLNP 0x10 (3840 + p) [w0, w1]).leadCue 100000 6 (w32 (3840 + p))
      if ok then s'.setPort p { s'.port p with waiting := none } else s.setPort p { x with waiting := some slots }

/-- Requests that waited for a step to end (R130). -/
def Dev.rfWaiting (s : Dev) : Dev :=
  s.ports.foldl (fun s e => match e.2.waiting with
    | some k => if (s.port e.1).step.isNone then s.rfRequest e.1 k else s
    | none => s) s

/-! ### Port configuration at a firing (R111, R112). -/

/-- A configuration names lanes; the ports of the cluster with a lower number, as they stand after the firing, overlap it. -/
def portClash (cfgs : List W32) (i : Nat) : Bool :=
  (List.range i).any fun j => let w := cfgs.getD j 0
    bit w 0 && decide (i < j + cfgWidth w) && cfgWidth w != 0

/-- A new configuration of port `i` of a cluster is refused, enabled or not (R111). -/
def portRefused (v : Variant) (cfgs : List W32) (i : Nat) (w : W32) : Bool :=
  cfgWidth w != 0 &&
    (i % cfgWidth w != 0 || (fld w 1 3 == 6 && (cfgOtuN w < 2 || !v.hasOtn)) || portClash cfgs i)

/-- The configurations of a cluster after a firing, lowest port first, and the ports refused. -/
def portApply (v : Variant) (old new : List W32) : Nat → List W32 × List Nat
  | 0 => ([], [])
  | n + 1 =>
    let (acc, bad) := portApply v old new n
    let w := new.getD n 0
    if portRefused v acc n w then (acc ++ [old.getD n 0], bad ++ [n]) else (acc ++ [w], bad)

/-- What a change of a port's configuration brings (R112, R121, R129, R193). -/
def Dev.portChanged (s : Dev) (p : Nat) (o n : W32) : Dev :=
  let form (w : W32) := (fld w 1 3, fld w 4 2, bit w 6)
  let reform := form o != form n
  let s := if reform then { s with ing := { s.ing with pred := s.ing.pred.filter fun e => e.2.port != p || e.1 / 1024 != p / 16 } } else s
  let s := s.eventIf reform bIPP 3
  let off := bit o 0 && !bit n 0
  let on := !bit o 0 && bit n 0
  let s := if reform || bit o 7 != bit n 7 || off then s.rfCancel p else s
  if off then
    let s := s.portDown p 8
    let s := if s.portState p == 3 then s.holdExpire p else s
    (s.pWf Reg.LNP_PORT_STATUS p 0 3 0).signalFault p
  else if on then
    let x := s.port p
    let s := s.setPort p { x with causes := setBit (setBit x.causes 8 false) 10 false }
    ((s.pWf Reg.LNP_PORT_STATUS p 0 3 1).rfStart p).signalFault p
  else if bit n 0 && (reform || bit o 7 != bit n 7) then
    let s := if reform then s.portDown p 10 else s
    let x := s.port p
    (s.setPort p { x with causes := setBit x.causes 10 false }).rfStart p
  else s

/-- A PRBS code of LNP_LANE_CTRL that names a pattern: 1 to 9, the others act as 0 (R116). -/
def prbsOn (code : Nat) : Bool := decide (1 ≤ code) && decide (code ≤ 9)

/-- Test modes and maintenance signals hold a port down with CAUSE 10 (R116, R143). -/
def Dev.testMode (s : Dev) (p : Nat) : Bool :=
  (List.range (cfgWidth (s.portCfg p))).any (fun i => prbsOn (s.pRf Reg.LNP_LANE_CTRL (p + i) 2 4) || prbsOn (s.pRf Reg.LNP_LANE_CTRL (p + i) 6 4))
    || (s.portMode p == 6 && s.pRf Reg.OTF_OH_CFG p 24 2 != 0)

/-- Re-judge the test modes of a cluster's ports after a firing. -/
def Dev.testModes (s : Dev) (c : Nat) : Dev :=
  (List.range 16).foldl (fun s i =>
    let p := 16 * c + i
    if !s.portOn p then s
    else if s.testMode p then (if bit (s.port p).causes 10 then s else s.portDown p 10)
    else
      let x := s.port p
      s.setPort p { x with causes := setBit x.causes 10 false }) s

/-- Apply LNP_PORT_CFG of a cluster at a firing: `old` the former values in force, `new` the wings. -/
def Dev.portFiring (s : Dev) (c : Nat) (old new : List W32) : Dev :=
  let (cfgs, bad) := portApply s.variant old new 16
  let s := (List.range 16).foldl (fun s i => s.wg Reg.LNP_PORT_CFG c i (cfgs.getD i 0)) s
  let s := s.eventIf (!bad.isEmpty) bLNP 9
  (List.range 16).foldl (fun s i =>
    if old.getD i 0 == cfgs.getD i 0 then s else s.portChanged (16 * c + i) (old.getD i 0) (cfgs.getD i 0)) s

/-! ### Up and down (R117, R118, R218, R290). -/

/-- A cage serves lane `l` (R385). -/
def Dev.cageServes (s : Dev) (c l : Nat) : Bool :=
  let w := s.rg Reg.CAG_CAGE_CFG 0 c
  decide (fld w 0 8 ≤ l) && decide (l < fld w 0 8 + min 8 (fld w 8 4))

/-- The lanes of a port and of a cage meet. -/
def Dev.cagePort (s : Dev) (c p : Nat) : Bool := (List.range (cfgWidth (s.portCfg p))).any fun i => s.cageServes c (p + i)

/-- A cage that serves a lane of the port is not in PSTATE 3 (R385). -/
def Dev.cageHolds (s : Dev) (p : Nat) : Bool :=
  (List.range 64).any fun c => s.rf Reg.CAG_CAGE_STATUS 0 c 1 3 != 3 && s.cagePort c p

/-- Every port that a cage now holds goes down with CAUSE 7 (R385). -/
def Dev.cageSweep (s : Dev) : Dev :=
  (List.range 256).foldl (fun s p => if s.portUp p && s.cageHolds p then s.portDown p 7 else s) s

/-- A port is declared up: its watch goes live after REVERT_MS unless latched, its node and generator start again. -/
def Dev.portUpDecl (s : Dev) (p : Nat) : Dev :=
  let st := s.portState p
  let x := s.port p
  -- device-internal causes keep a port down; the others have ended with the up conditions
  let keep := x.causes &&& 0x700#32
  if !(st == 1 || st == 3 || st == 4) || keep != 0 || s.cageHolds p || s.clusterIso (p / 16) || (s.portMode p == 6 && bit x.causes 6) then s
  else
    let s := (s.setPort p { x with causes := 0 }).signalFault p
    let s := (s.pWf Reg.LNP_PORT_STATUS p 0 3 2).event bLNP 1
    let s := s.setGen p { s.gen p with running := true }
    let now := s.cue.localNs
    let rev := fld (s.rg Reg.FIB_WATCH_CFG 0 p) 8 8 * 1000000
    let s := { s with tbl := { s.tbl with upAt := minsert s.tbl.upAt p now } }
    if s.tbl.latched.contains p then s
    else if rev == 0 then ({ s with tbl := { s.tbl with live := addKey s.tbl.live p } }).eventIf (!s.tbl.live.contains p) bFIB 1
    else { s with tbl := { s.tbl with revertAt := minsert s.tbl.revertAt p (now + rev) } }

/-! ### Commands. -/

/-- PORT_DOWN (R117, R118): a cause of the CAUSE list is met. -/
def execPortDown (p : Fin 256) (cause : Fin 11) (s : State) : Host.Outcome State Fault Refusal :=
  s.on fun d => if cause.val == 0 then d else d.portDown p cause

/-- PORT_UP (R117): the up conditions have held for 1 ms. -/
def execPortUp (p : Fin 256) (s : State) : Host.Outcome State Fault Refusal := s.on fun d => d.portUpDecl p

/-- HOLD_EXPIRY (R118, R291). -/
def execHoldExpiry (p : Fin 256) (s : State) : Host.Outcome State Fault Refusal :=
  s.on fun d => if d.portState p == 3 then d.holdExpire p else d

/-- LINK_TRAINING_END (R115): training of a lane completes, with its trained coefficients, or fails and restarts. -/
def execLinkTrainingEnd (l : Fin 256) (ok : Bool) (c0 c1 : W32) (s : State) : Host.Outcome State Fault Refusal :=
  s.on fun d =>
    let tr := d.pRf Reg.LNP_LANE_CTRL l 0 2
    if tr == 0 || tr == 3 then d
    else if ok then (d.pWf Reg.LNP_LANE_STATUS l 1 3 2).setObj bLNP 0x21 l [c0, c1]
    else (d.pWf Reg.LNP_LANE_STATUS l 1 3 3).event bLNP 7 |>.pWf Reg.LNP_LANE_STATUS l 1 3 1

/-- LANE_LOCK (R117, R137): a lane has signal and receive clock lock; the causes 1 and 2 of its port end. -/
def execLaneLock (l : Fin 256) (s : State) : Host.Outcome State Fault Refusal :=
  s.on fun d =>
    let d := d.pWf Reg.LNP_LANE_STATUS l 0 1 1
    (List.range 16).foldl (fun d i =>
      let p := l.val / 16 * 16 + i
      let w := cfgWidth (d.portCfg p)
      if d.portOn p && p ≤ l.val && l.val < p + w && (List.range w).all (fun j => d.pRf Reg.LNP_LANE_STATUS (p + j) 0 1 == 1) then
        (d.setPort p { d.port p with causes := setBit (setBit (d.port p).causes 1 false) 2 false }).signalFault p
      else d) d

/-- PRBS_CHECKER_LOCK (R116): the checker gains or loses lock; `errors` bit errors since the last report. -/
def execPrbsCheckerLock (l : Fin 256) (lock : Bool) (errors : W32) (s : State) : Host.Outcome State Fault Refusal :=
  s.on fun d =>
    let rx := d.pRf Reg.LNP_LANE_CTRL l 6 4
    if rx == 0 || 9 ≤ rx then d
    else
      let was := d.pRf Reg.LNP_LANE_STATUS l 4 1 == 1
      let d := d.pWf Reg.LNP_LANE_STATUS l 4 1 lock.toNat
      let d := d.pWg Reg.LNP_LANE_PRBS_ERR l (w32 (sat32 ((d.pRg Reg.LNP_LANE_PRBS_ERR l).toNat + errors.toNat)))
      d.eventIf (was && !lock) bLNP 6

/-- RF_CAP_RISE (R127). -/
def execRfCapRise (p : Fin 256) (s : State) : Host.Outcome State Fault Refusal := s.on fun d => d.rfCapRise p

/-- RF_EXPECT_TIMEOUT (R128). -/
def execRfExpectTimeout (p : Fin 256) (s : State) : Host.Outcome State Fault Refusal := s.on fun d => d.rfTimeout p

/-- RATE_FOLLOW_REQUEST (R130): a write of LNP_RF_REQ. -/
def execRateFollowRequest (q : Req) (p : Fin 256) (slots : BitVec 9) (go : Bool) (s : State) : Host.Outcome State Fault Refusal :=
  s.on fun d => d.gateWrite q Reg.LNP_RF_REQ 0 0 fun d _ => if go then d.rfRequest p slots.toNat else d

end Sys2Proof.Machine
end

