-- ==== Sys2Proof/Machine/Rings.lean ====
section
/-! DEFINITION. Receive descriptors, write-backs, I2C transfers and table-work completions, as several chapters use them (R223, R369, R379, R383, R389). -/
namespace Sys2Proof.Machine

/-- The kind and number of a ring as R456 names requesters. -/
def ringReq (r : Nat) : Nat × Nat := (Reg.ringKind r + 1, Reg.ringNum r)

/-- Write host memory on behalf of ring `r` and count the request (R369, R455). -/
def Dev.dmaWrite (s : Dev) (r addr : Nat) (data : List Byte) (ro ido : Bool) : Dev :=
  let a : EvAttr := { req := some (ringReq r) }
  ((s.emit (.hostWrite addr data ro ido)).count bDMA 0x11 0 1 a).count bDMA 0x12 0 ((data.length + 63) / 64) a

/-- Ask for the descriptors of receive ring `r`: up to 64 ahead (R379). -/
def Dev.rxFetch (s : Dev) (r : Nat) : Dev :=
  let x := s.ring r
  let have_ := x.desc.length + x.reading
  let want := min 64 (s.outstanding r) - have_
  if s.ringState r != 1 || want == 0 || !s.mastering then s
  else
    let a := s.slotAddr r (s.devIdx r + have_) 32
    ((s.setRing r { x with reading := x.reading + want }).emit (.hostRead a (32 * want))).count bDMA 0x10 0 1 { req := some (ringReq r) }

/-- The least number of leading descriptors that hold `n` bytes; none when fewer are available or more than `most` are needed. -/
def descsFor : List (Nat × Nat) → Nat → Nat → Option Nat
  | _, 0, _ => none
  | [], _, _ => none
  | d :: ds, most + 1, n => if n ≤ d.2 then some 1 else (descsFor ds most (n - d.2)).map (· + 1)

/-- Cut data to the lengths of descriptors. -/
def cutData : List (Nat × Nat) → List Byte → List (Nat × List Byte)
  | [], _ => []
  | d :: ds, bs => (d.1, bs.take d.2) :: cutData ds (bs.drop d.2)

/-- Deliver `data` to receive ring `r` in `n` descriptors: data, write-backs, index (R379). `sop` holds words 1–7 of the first write-back. -/
def Dev.rxDeliver (s : Dev) (r n kind reason : Nat) (sop : List W32) (data : List Byte) : Dev :=
  let x := s.ring r
  let parts := cutData (x.desc.take n) data
  let ro := s.pci.relaxedEn && bit (s.ringRg Reg.DMA_CFG r) 27
  let dev0 := s.devIdx r
  let s := parts.foldl (fun s e => s.dmaWrite r e.1 e.2 ro s.pci.idoEn) s
  let s := (List.range n).foldl (fun s i =>
    let bytes := (parts.getD i (0, [])).2.length
    let w0 := at_ 0 16 bytes ||| atB 16 (i == 0) ||| atB 17 (i + 1 == n) ||| at_ 18 2 kind ||| at_ 24 8 reason
    s.dmaWrite r (s.slotAddr r (dev0 + i) 32) (wordsBytes (w0 :: (if i == 0 then sop else List.replicate 7 0))) false false) s
  let s := s.setRing r { s.ring r with desc := x.desc.drop n }
  (s.ringAdvance r n).rxFetch r

/-- Drop a packet or record of receive ring `r` (R38, R379). -/
def Dev.rxDrop (s : Dev) (r : Nat) : Dev :=
  (s.ringWg Reg.DMA_DROP r (w32 (sat32 ((s.ringRg Reg.DMA_DROP r).toNat + 1)))).event bDMA 3

/-- Deliver a packet to receive ring `r`, or drop it when fewer than the descriptors it needs, at most 8, are available (R379); delivered packets and bytes are counted (R384). -/
def Dev.rxPacket (s : Dev) (r : Nat) (k : Ticket) (srcDev : Nat) (frame : List Byte) : Dev :=
  if s.ringState r != 1 || !s.mastering then s.rxDrop r
  else match descsFor (s.ring r).desc 8 frame.length with
    | none => s.rxDrop r
    | some n =>
      let sop : List W32 :=
        [at_ 28 3 k.tc.toNat ||| at_ 24 4 k.epoch.toNat ||| at_ 0 22 (srcDev * 256 + k.srcPort.toNat), k.flowHash, k.tsNs, k.tsSec,
         at_ 2 2 k.colour.toNat ||| at_ 0 2 k.prot.toNat, BitVec.ofNat 32 (ofBe (slice k.res 0 4)), BitVec.ofNat 32 (ofBe (slice k.res 4 4))]
      ((s.rxDeliver r n 0 k.reason.toNat sop frame).bump bDMA 1 r 0 1).bump bDMA 1 r 1 frame.length

/-- Put the bytes of an I2C transfer on a master: the switch segment first, when one is enabled (R389). -/
def Dev.i2cSend (s : Dev) (m cage addr : Nat) (bytes : List Byte) (rlen : Nat) : Dev :=
  let cfg := s.rg Reg.CAG_I2C_CFG 0 m
  let seg := s.rf Reg.CAG_CAGE_CFG 0 cage 16 2
  let s := if bit cfg 2 then s.emit (.i2c m (fld cfg 3 7) [BitVec.ofNat 8 (2 ^ seg)] 0) else s
  s.emit (.i2c m addr bytes rlen)

/-- MODEM_POLL (R130): the Lead reads the modem's slot count, `count`, over the cage's I2C master. -/
def execModemPoll (p : Fin 256) (count : BitVec 16) (s : State) : Host.Outcome State Fault Refusal :=
  s.on fun d =>
    let w := d.pRg Reg.LNP_RF_SETUP p
    let cage := fld w 1 6
    -- a transaction of the host is not interleaved with the Lead's (R389)
    if !bit w 0 || !d.leadRuns || (mget ({} : I2cSt) d.i2c (fld (d.rg Reg.CAG_CAGE_CFG 0 cage) 12 4)).busy then d
    else
      let d := d.i2cSend (fld (d.rg Reg.CAG_CAGE_CFG 0 cage) 12 4) cage (fld w 7 7) [BitVec.ofNat 8 (fld w 14 8)] 2
      let old := (d.port p).modem
      let d := d.setPort p { d.port p with modem := some count.toNat }
      if old.isSome && old != some count.toNat then d.rfRequest p count.toNat else d

/-! ### Completions of table-work rings, and the end of a rehash (R223, R383). -/

/-- The ring index of table-work ring `t`. -/
def twRing (t : Nat) : Nat := 1088 + t

/-- Write the completions that are ready at the head of a ring, in ring order, and advance DEV_IDX past each (R383). -/
def Dev.twFlush (s : Dev) (r : Nat) : Nat → Dev
  | 0 => s
  | fuel + 1 =>
    match (s.ring r).held with
    | (0, ws) :: rest =>
      let s := s.setRing r { s.ring r with held := rest }
      let s := s.dmaWrite r (s.slotAddr r (s.devIdx r) 64) (wordsBytes ws) false false
      (s.ringAdvance r 1).twFlush r fuel
    | _ => s

def Dev.setRehash (s : Dev) (t : Nat) (x : Option Rehash) : Dev :=
  { s with tbl := { s.tbl with rehash := match x with | some r => minsert s.tbl.rehash t r | none => merase s.tbl.rehash t } }

/-- The rehash of a table is over: it leaves dual-seed mode, REHASH, STUCK and REQ clear, event 1 is set and the command that started it completes (R223). -/
def Dev.rehashOver (s : Dev) (t : Nat) : Dev :=
  match s.rehash? t with
  | none => s
  | some r =>
    let s := ((s.setRehash t none).wf Reg.EXM_TBL_STATUS 0 t 24 2 0).event bEXM 1
    let g := twRing r.ring
    let x := s.ring g
    let s := s.setRing g { x with held := x.held.map fun (h : Nat × List W32) => if h.1 == t + 1 then (0, h.2) else h }
    s.twFlush g (s.ring g).held.length

/-- Every rehash is over: the exact-match store is formatted or loses its contents, so no entry stands under an old seed. -/
def Dev.rehashesOver (s : Dev) : Dev := s.tbl.rehash.foldl (fun s e => s.rehashOver e.1) s

end Sys2Proof.Machine
end

