-- ==== Sys2Proof/Machine/TableWork.lean ====
section
/-! DEFINITION. Table-work commands: the frame they share, and those of the FIB, next hops, ECMP and watches (R208–R219, R383, R393). -/
namespace Sys2Proof.Machine

/-! ### The shared frame (R208, R210, R383, R393). -/

def TwCmd.table (c : TwCmd) : Nat := fld c.hi 0 7
def TwCmd.region (c : TwCmd) : Nat := fld c.hi 8 2
/-- Operand word `i` of the command (2–15). -/
def TwCmd.word (c : TwCmd) (i : Nat) : W32 := Sys2Proof.word c.w (i - 2)
def TwCmd.fld (c : TwCmd) (i lo len : Nat) : Nat := Sys2Proof.fld (c.word i) lo len
/-- Words `i` … 15 are 0, as are the bits of word `i` outside a mask. -/
def TwCmd.zeroFrom (c : TwCmd) (i : Nat) : Bool := (c.w.drop (i - 2)).all fun w => w == 0
def TwCmd.only (c : TwCmd) (i : Nat) (m : W32) : Bool := c.word i &&& ~~~m == 0
/-- The 128-bit value of words `i` to `i + 3`. -/
def TwCmd.n128 (c : TwCmd) (i : Nat) : Nat := Sys2Proof.Machine.n128 (c.word i) (c.word (i + 1)) (c.word (i + 2)) (c.word (i + 3))

/-- The sixteen words of a completion: STATUS, OP, TAG, fourteen returned words. -/
def completion (op st : Nat) (tag : W32) (ret : List W32) : List W32 :=
  [at_ 0 8 st ||| at_ 8 8 op, tag] ++ (List.range 14).map fun i => word ret i

/-- A command of ring `t` is done, or waits for the rehash of table `wait − 1`. -/
def Dev.twDone (s : Dev) (t wait : Nat) (ws : List W32) : Dev :=
  let r := twRing t
  let s := s.setRing r { s.ring r with held := (s.ring r).held ++ [(wait, ws)] }
  s.twFlush r (s.ring r).held.length

/-- The engine takes the next command of ring `t`: the ring runs, holds one, the Lead feeds it, requests may be issued (R39, R370, R393). -/
def Dev.twTakes (s : Dev) (t : Nat) : Bool :=
  let r := twRing t
  s.ringState r == 1 && s.leadRuns && s.mastering && decide ((s.ring r).held.length < s.outstanding r)

/-- What a command's own part answers: the state, the STATUS, the returned words. -/
abbrev TwOut := Dev × Nat × List W32

/-- Run a table-work command that completes at once. -/
def Dev.tableWork (s : Dev) (c : TwCmd) (op : Nat) (body : Dev → TwOut) : Dev :=
  if !s.twTakes c.ring then s
  else
    let (s, st, ret) := body s
    s.twDone c.ring 0 (completion op st c.tag ret)

/-- Word 0 is malformed (R208, R210 item 1). -/
def TwCmd.badWord0 (c : TwCmd) : Bool := bit c.hi 7 || Sys2Proof.fld c.hi 10 14 != 0 || c.region == 3

/-- REGION is refused, or names an isolated region (R108, R210 item 3, R211). -/
def Dev.twRegion (s : Dev) (c : TwCmd) (write : Bool) : Option Nat :=
  let named := c.region != 0
  let split := s.splitNames c.table
  if (if write then named != split else split && !named) then some 7
  else if named && s.fIso (c.region - 1) then some 11
  else none

/-- The region whose replica a read is served from, and whose shape judges a write (R31, R211). -/
def Dev.twRead (s : Dev) (c : TwCmd) : Nat := if c.region == 0 then s.primary else c.region - 1

/-- A command on a table of kind `tkind`: word 0, kind, region, then operands and outcome by `body` on the table's shape (R210). -/
def Dev.twTable (s : Dev) (c : TwCmd) (tkind : Nat) (write : Bool) (body : Dev → TShape → TwOut) : TwOut :=
  if c.badWord0 then (s, 1, [])
  else match s.shape? c.table (s.twRead c) with
    | none => (s, 2, [])
    | some t =>
      if t.tkind != tkind then (s, 2, [])
      else match s.twRegion c write with
        | some st => (s, st, [])
        | none => body s t

/-! ### The FIB (R205–R209). -/

/-- Bits of an address beyond `len` are 0. -/
def tailZero (len addr : Nat) : Bool := addr % 2 ^ (128 - len) == 0

/-- The operands of a FIB command: key source, LEN, PREFIX, ADDR, and the key source's width and allocation, or the status that refuses them. `hasLen` is false for FIB_MATCH. -/
def fibOperands (c : TwCmd) (t : TShape) (hasLen : Bool) (lastW : Nat) : Except Nat (Nat × Nat × Nat × Nat × Bool × Nat) :=
  let ks := c.fld 2 0 3
  let len := if hasLen then c.fld 2 8 8 else 128
  let rec? := t.ksRec? ks
  let wide := match rec? with | some r => bit (word r 0) 8 | none => true
  let maxLen := if wide then 128 else 32
  let bad := ks == 0 || !c.only 2 (if hasLen then 0xFF07#32 else 7#32) || !c.zeroFrom lastW
    || (hasLen && maxLen < len) || !tailZero (min len maxLen) (c.n128 4)
  if bad then .error 1
  else match rec? with
    | none => .error 3
    | some r => .ok (ks, len, wordN c.w 1, c.n128 4, wide, wfld r 1 0 25)

/-- The words of a route in FIB_SET's layout. -/
def routeWords (k : Nat) (v : Nat × Nat) : List W32 :=
  [at_ 0 3 (rkKs k) ||| at_ 8 8 (rkLen k), w32 (rkPfx k)] ++ w128 (rkAddr k) ++ [at_ 0 20 v.1 ||| at_ 20 12 v.2]

/-- FIB_SET: event 2 when the key source passes 95 % of its allocation (R205, R219). -/
def Dev.fibSet (s : Dev) (c : TwCmd) : TwOut :=
  s.twTable c 3 true fun s t =>
    match fibOperands c t true 9 with
    | .error st => (s, st, [])
    | .ok (ks, len, pfx, addr, wide, alloc) =>
      let k := routeKey ks pfx len addr
      let r := s.rep (s.twRead c)
      let used := r.fibUnits ks wide
      let isNew := !(r.routes.any fun e => e.1 == k)
      let after := if isNew then used + routeCost wide len else used
      if isNew && alloc < after then (s, 4, [])
      else
        let v := (c.fld 8 0 20, c.fld 8 20 12)
        let s := s.writeReps c.region fun r => ({ r with routes := minsert r.routes k v } : Rep).unmark 0 k
        (s.eventIf (decide (used * 100 ≤ alloc * 95) && decide (alloc * 95 < after * 100)) bFIB 2, 0, [])

/-- FIB_DEL. -/
def Dev.fibDel (s : Dev) (c : TwCmd) : TwOut :=
  s.twTable c 3 true fun s t =>
    match fibOperands c t true 8 with
    | .error st => (s, st, [])
    | .ok (ks, len, pfx, addr, _, _) =>
      let k := routeKey ks pfx len addr
      if (s.rep (s.twRead c)).routes.any fun e => e.1 == k then
        (s.writeReps c.region fun r => ({ r with routes := merase r.routes k } : Rep).unmark 0 k, 0, [])
      else (s, 6, [])

/-- A route as a read returns it: status 8 when it is unreadable. -/
def Dev.fibReturn (s : Dev) (r : Rep) (e : Option (Nat × (Nat × Nat))) : TwOut :=
  match e with
  | none => (s, 6, [])
  | some e => if r.isBad 0 e.1 then (s, 8, []) else (s, 0, routeWords e.1 e.2)

/-- FIB_GET and FIB_MATCH. -/
def Dev.fibGet (s : Dev) (c : TwCmd) : TwOut :=
  s.twTable c 3 false fun s t =>
    match fibOperands c t true 8 with
    | .error st => (s, st, [])
    | .ok (ks, len, pfx, addr, _, _) =>
      let r := s.rep (s.twRead c)
      s.fibReturn r (r.routes.find? fun e => e.1 == routeKey ks pfx len addr)
def Dev.fibMatch (s : Dev) (c : TwCmd) : TwOut :=
  s.twTable c 3 false fun s t =>
    match fibOperands c t false 8 with
    | .error st => (s, st, [])
    | .ok (ks, _, pfx, addr, _, _) =>
      let r := s.rep (s.twRead c)
      s.fibReturn r (r.fibBest ks pfx addr)

/-! ### Next hops and ECMP (R213, R215). -/

/-- The content of a next-hop entry is refused (R213). -/
def nhBad (ws : List W32) : Bool :=
  let kind := wfld ws 0 28 3
  let watch := wfld ws 2 17 15
  let dest := word ws 1
  let keep : W32 := if kind == 1 then 0x3FFFFF#32 else if kind == 2 then 0xFFFF#32 else if kind == 3 then 0xFFFFF#32 else if kind == 4 then 0xFF0001FF#32 else 0
  decide (4 < kind) || wfld ws 0 20 6 != 0 || (decide (16896 ≤ watch) && watch != 0x7FFF) || dest &&& ~~~keep != 0

def Dev.nhSet (s : Dev) (c : TwCmd) : TwOut :=
  s.twTable c 8 true fun s t =>
    let i := c.fld 2 0 20
    let ws := [c.word 3, c.word 4, c.word 5, c.word 6]
    if !c.only 2 0xFFFFF#32 || !c.zeroFrom 7 then (s, 1, [])
    else if t.alloc ≤ i then (s, 3, [])
    else if nhBad ws then (s, 12, [])
    else (s.writeReps c.region fun r => ({ r with nh := mset [0, 0, 0, 0] r.nh i ws } : Rep).unmark 1 i, 0, [])

def Dev.nhGet (s : Dev) (c : TwCmd) : TwOut :=
  s.twTable c 8 false fun s t =>
    let i := c.fld 2 0 20
    let r := s.rep (s.twRead c)
    if !c.only 2 0xFFFFF#32 || !c.zeroFrom 3 then (s, 1, [])
    else if t.alloc ≤ i then (s, 3, [])
    else if r.isBad 1 i then (s, 8, [])
    else (s, 0, w32 i :: r.nhAt i)

def Dev.ecmpSet (s : Dev) (c : TwCmd) : TwOut :=
  s.twTable c 8 true fun s t =>
    let g := c.fld 2 0 16
    let valid := bit (c.word 3) 31
    let count := c.fld 4 0 10
    if !c.only 2 0xFFFF#32 || !c.zeroFrom 5 then (s, 1, [])
    else if t.alloc2 ≤ g then (s, 3, [])
    else if !c.only 3 0x801FFFFF#32 || !c.only 4 0x3FF#32
        || (valid && (count == 0 || decide (512 < count) || decide ((t.w 0 0).toNat < c.fld 3 0 21 + count))) then (s, 12, [])
    else (s.writeReps c.region fun r => ({ r with ecmp := mset [0, 0] r.ecmp g [c.word 3, c.word 4] } : Rep).unmark 2 g, 0, [])

def Dev.ecmpGet (s : Dev) (c : TwCmd) : TwOut :=
  s.twTable c 8 false fun s t =>
    let g := c.fld 2 0 16
    let r := s.rep (s.twRead c)
    if !c.only 2 0xFFFF#32 || !c.zeroFrom 3 then (s, 1, [])
    else if t.alloc2 ≤ g then (s, 3, [])
    else if r.isBad 2 g then (s, 8, [])
    else (s, 0, w32 g :: mget [0, 0] r.ecmp g)

/-- FIRST and N of a member command, malformed or beyond the pool (R209). -/
def memberBad (c : TwCmd) (t : TShape) (used : Nat → Nat) : Option Nat :=
  let n := c.fld 2 24 4
  if !c.only 2 0x0F1FFFFF#32 || n == 0 || decide (12 < n) || !c.zeroFrom (used n) then some 1
  else if (t.w 0 0).toNat < c.fld 2 0 21 + n then some 3
  else none

def Dev.membersSet (s : Dev) (c : TwCmd) : TwOut :=
  s.twTable c 8 true fun s t =>
    let first := c.fld 2 0 21
    let ws := (List.range (c.fld 2 24 4)).map fun i => c.word (3 + i)
    match memberBad c t fun n => 3 + n with
    | some st => (s, st, [])
    | none =>
      if ws.any fun w => decide (t.alloc ≤ fld w 0 20) then (s, 3, [])
      else if ws.any fun w => fld w 20 12 != 0 then (s, 12, [])
      else (s.writeReps c.region fun r =>
        (List.range ws.length).foldl (fun (r : Rep) i => ({ r with members := mset 0 r.members (first + i) (word ws i) } : Rep).unmark 3 (first + i)) r, 0, [])

def Dev.membersGet (s : Dev) (c : TwCmd) : TwOut :=
  s.twTable c 8 false fun s t =>
    match memberBad c t fun _ => 3 with
    | some st => (s, st, [])
    | none =>
      let first := c.fld 2 0 21
      let r := s.rep (s.twRead c)
      let is := List.range (c.fld 2 24 4)
      if is.any fun i => r.isBad 3 (first + i) then (s, 8, [])
      else (s, 0, c.word 2 :: is.map fun i => mget 0 r.members (first + i))

/-! ### Watches (R217, R218). -/

/-- A local watch goes live when nothing holds it dead (R217, R218). -/
def Dev.watchUp (s : Dev) (p : Nat) : Dev :=
  if s.tbl.latched.contains p || !s.portUp p || s.tbl.live.contains p then s
  else ({ s with tbl := { s.tbl with live := addKey s.tbl.live p, revertAt := merase s.tbl.revertAt p } }).event bFIB 1

/-- REVERT_MS after the up declaration, or after a re-arm, the watch goes live (R218). -/
def Dev.watchRevert (s : Dev) (p : Nat) : Dev :=
  match s.tbl.revertAt.find? fun e => e.1 == p with
  | none => s
  | some e => if e.2 ≤ s.cue.localNs then s.watchUp p else s

/-- A host watch takes a state (R217). -/
def Dev.hostWatch (s : Dev) (w : Nat) (live : Bool) : Dev :=
  if w < 16640 || 16896 ≤ w then s
  else
    let k := w - 16640
    let dead := s.tbl.hostDead.contains k
    if dead == !live then s
    else ({ s with tbl := { s.tbl with hostDead := if live then delKey s.tbl.hostDead k else addKey s.tbl.hostDead k } }).event bFIB (if live then 1 else 0)

/-- Re-arm a latched local watch while its port is up (R218). -/
def Dev.rearm (s : Dev) (w : Nat) : Dev :=
  if !s.tbl.latched.contains w || !s.portUp w then s
  else
    let due := (mget 0 s.tbl.upAt w) + s.rf Reg.FIB_WATCH_CFG 0 w 8 8 * 1000000
    let s := { s with tbl := { s.tbl with latched := delKey s.tbl.latched w } }
    if due ≤ s.cue.localNs then s.watchUp w else { s with tbl := { s.tbl with revertAt := minsert s.tbl.revertAt w due } }

/-! ### Commands. -/

/-- FIB_SET, OP 0x01 (R209). -/
def execFibSet (c : TwCmd) (s : State) : Host.Outcome State Fault Refusal := s.on fun d => d.tableWork c 0x01 fun d => d.fibSet c
/-- FIB_DEL, OP 0x02 (R209). -/
def execFibDel (c : TwCmd) (s : State) : Host.Outcome State Fault Refusal := s.on fun d => d.tableWork c 0x02 fun d => d.fibDel c
/-- FIB_GET, OP 0x03 (R209). -/
def execFibGet (c : TwCmd) (s : State) : Host.Outcome State Fault Refusal := s.on fun d => d.tableWork c 0x03 fun d => d.fibGet c
/-- FIB_MATCH, OP 0x04 (R209). -/
def execFibMatch (c : TwCmd) (s : State) : Host.Outcome State Fault Refusal := s.on fun d => d.tableWork c 0x04 fun d => d.fibMatch c
/-- NH_SET, OP 0x10 (R213). -/
def execNhSet (c : TwCmd) (s : State) : Host.Outcome State Fault Refusal := s.on fun d => d.tableWork c 0x10 fun d => d.nhSet c
/-- NH_GET, OP 0x11 (R209). -/
def execNhGet (c : TwCmd) (s : State) : Host.Outcome State Fault Refusal := s.on fun d => d.tableWork c 0x11 fun d => d.nhGet c
/-- ECMP_SET, OP 0x18 (R215). -/
def execEcmpSet (c : TwCmd) (s : State) : Host.Outcome State Fault Refusal := s.on fun d => d.tableWork c 0x18 fun d => d.ecmpSet c
/-- ECMP_GET, OP 0x19 (R209). -/
def execEcmpGet (c : TwCmd) (s : State) : Host.Outcome State Fault Refusal := s.on fun d => d.tableWork c 0x19 fun d => d.ecmpGet c
/-- MEMBERS_SET, OP 0x1A (R215). -/
def execMembersSet (c : TwCmd) (s : State) : Host.Outcome State Fault Refusal := s.on fun d => d.tableWork c 0x1A fun d => d.membersSet c
/-- MEMBERS_GET, OP 0x1B (R209). -/
def execMembersGet (c : TwCmd) (s : State) : Host.Outcome State Fault Refusal := s.on fun d => d.tableWork c 0x1B fun d => d.membersGet c
/-- NOP, OP 0x3F (R209): status 0 whatever its other fields hold. Any other OP byte names no operation: status 1 (R210 item 1). -/
def execNop (x : OtherTwCmd) (s : State) : Host.Outcome State Fault Refusal :=
  s.on fun d => d.tableWork x.c x.op.toNat fun d => (d, if x.op == 0x3F#8 then 0 else 1, [])

/-- WATCH_REVERT (R218). -/
def execWatchRevert (p : Fin 256) (s : State) : Host.Outcome State Fault Refusal := s.on fun d => d.watchRevert p
/-- HOST_WATCH_LIVE (R217): FIB_WATCH_CMD OP 1. -/
def execHostWatchLive (q : Req) (w : BitVec 15) (s : State) : Host.Outcome State Fault Refusal :=
  s.on fun d => d.gateWrite q Reg.FIB_WATCH_CMD 0 0 fun d _ => d.hostWatch w.toNat true
/-- HOST_WATCH_DEAD (R217): FIB_WATCH_CMD OP 2. -/
def execHostWatchDead (q : Req) (w : BitVec 15) (s : State) : Host.Outcome State Fault Refusal :=
  s.on fun d => d.gateWrite q Reg.FIB_WATCH_CMD 0 0 fun d _ => d.hostWatch w.toNat false
/-- REARM (R218): FIB_WATCH_CMD OP 3. -/
def execRearm (q : Req) (w : BitVec 15) (s : State) : Host.Outcome State Fault Refusal :=
  s.on fun d => d.gateWrite q Reg.FIB_WATCH_CMD 0 0 fun d _ => d.rearm w.toNat

end Sys2Proof.Machine
end

