-- ==== Sys2Proof/Machine/Acs.lean ====
section
/-! DEFINITION. Associative search: entries written through the assembly buffer, the step search, the throttle (R237–R245). -/
namespace Sys2Proof.Machine

/-! ### Entries (R237, R238). -/

/-- The assembly buffer of ring `t`, unit `u`: VALUE and CARE, when staged. -/
def Dev.asmUnit (s : Dev) (t u : Nat) : Option (Nat × Nat) := (s.tbl.asm.find? fun e => e.1 == 4 * t + u).map Prod.snd

/-- Five words, most significant first, as a unit, and back. -/
def unitOf (ws : List W32) : Nat := ws.foldl (fun n w => n * 2 ^ 32 + w.toNat) 0
def unitWords (n : Nat) : List W32 := (List.range 5).map fun i => w32 (n / 2 ^ (32 * (4 - i)))

/-- ACS_UNIT: TABLE and REGION are ignored. -/
def Dev.acsUnit (s : Dev) (c : TwCmd) : TwOut :=
  if bit c.hi 7 || fld c.hi 10 14 != 0 || !c.only 2 3#32 || !c.zeroFrom 13 then (s, 1, [])
  else
    let v := unitOf ((List.range 5).map fun i => c.word (3 + i))
    let m := unitOf ((List.range 5).map fun i => c.word (8 + i))
    ({ s with tbl := { s.tbl with asm := minsert s.tbl.asm (4 * c.ring + c.fld 2 0 2) (v, m) } }, 0, [])

/-- BANK and INDEX lie within a table (R237). -/
def TShape.acsIn (t : TShape) (bank idx : Nat) : Bool := t.banks.contains bank && decide (idx < 4096 / max 1 t.acsWidth)

/-- The position of an entry. -/
def acsPos (c : TwCmd) : Nat := c.fld 2 16 6 * 4096 + c.fld 2 0 12

def Rep.acsAt (r : Rep) (p : Nat) : AcsEnt := mget {} r.acs p

/-- ACS_SET's part before the buffer is emptied. -/
def Dev.acsPut (s : Dev) (c : TwCmd) : TwOut :=
  s.twTable c 1 true fun s t =>
    let w := t.acsWidth
    let us := (List.range w).map fun u => s.asmUnit c.ring u
    let kw := selWidth t.acsSel
    let badUnit (u : Nat) (x : Option (Nat × Nat)) : Bool := match x with
      | none => true
      | some (v, m) => v &&& m != v || m % 2 ^ (8 * (20 - min 20 (kw - 20 * u))) != 0
    if !c.only 2 0x3F0FFF#32 || !c.only 3 0x8000FFFF#32 || !c.zeroFrom 7
        || ((List.range w).any fun u => badUnit u (us.getD u none)) then (s, 1, [])
    else if !t.acsIn (c.fld 2 16 6) (c.fld 2 0 12) then (s, 3, [])
    else
      let p := acsPos c
      let e : AcsEnt := { value := us.map fun x => (x.getD (0, 0)).1, care := us.map fun x => (x.getD (0, 0)).2, valid := bit (c.word 3) 31,
                          mask := c.fld 3 0 16, prog := c.fld 4 16 16, data := c.fld 4 0 16 * 2 ^ 64 + wordN c.w 3 * 2 ^ 32 + wordN c.w 4 }
      (s.writeReps c.region fun r => ({ r with acs := mset {} r.acs p e } : Rep).unmark 5 p, 0, [])

/-- ACS_SET: the ring's buffer is emptied whatever the status. -/
def Dev.acsSet (s : Dev) (c : TwCmd) : TwOut :=
  let (s, st, ret) := s.acsPut c
  ({ s with tbl := { s.tbl with asm := s.tbl.asm.filter fun e => e.1 / 4 != c.ring } }, st, ret)

def Dev.acsDel (s : Dev) (c : TwCmd) : TwOut :=
  s.twTable c 1 true fun s t =>
    if !c.only 2 0x3F0FFF#32 || !c.zeroFrom 3 then (s, 1, [])
    else if !t.acsIn (c.fld 2 16 6) (c.fld 2 0 12) then (s, 3, [])
    else (s.writeReps c.region fun r => ({ r with acs := mset {} r.acs (acsPos c) { r.acsAt (acsPos c) with valid := false } } : Rep).unmark 5 (acsPos c), 0, [])

def Dev.acsGet (s : Dev) (c : TwCmd) : TwOut :=
  s.twTable c 1 false fun s t =>
    let part := c.fld 2 24 3
    let r := s.rep (s.twRead c)
    if !c.only 2 0x073F0FFF#32 || !c.zeroFrom 3 || 5 ≤ part then (s, 1, [])
    else if !t.acsIn (c.fld 2 16 6) (c.fld 2 0 12) || (part != 4 && t.acsWidth ≤ part) then (s, 3, [])
    else if r.isBad 5 (acsPos c) then (s, 8, [])
    else
      let e := r.acsAt (acsPos c)
      if part == 4 then
        (s, 0, [c.word 2, at_ 0 16 e.mask ||| atB 31 e.valid, at_ 16 16 e.prog ||| at_ 0 16 (e.data / 2 ^ 64), w32 (e.data / 2 ^ 32), w32 e.data])
      else (s, 0, c.word 2 :: (unitWords (e.value.getD part 0) ++ unitWords (e.care.getD part 0)))

/-! ### The step search (R240). -/

/-- The region that REGION of ACS_STEP_CTRL names, or none when it is refused. -/
def Dev.stepRegion (s : Dev) (region table : Nat) : Option Nat :=
  if region == 0 || region == 3 then
    if s.splitNames table then none else some s.primary
  else if s.fIso (region - 1) then none else some (region - 1)

/-- One step: the least match after the position last returned. Found and the match go to the status. -/
def Dev.stepFind (s : Dev) (after : Option (Nat × Nat × Nat)) : Dev :=
  let x := s.tbl
  match s.stepRegion x.stepRegion x.stepTable with
  | none => s.wg Reg.ACS_STEP_STATUS 0 0 9#32
  | some r =>
    match s.shape? x.stepTable r with
    | none => s.wg Reg.ACS_STEP_STATUS 0 0 9#32
    | some t =>
      if t.tkind != 1 then s.wg Reg.ACS_STEP_STATUS 0 0 9#32
      else
        let m := ((s.rep r).acsMatches t (x.stepKey.take (selWidth t.acsSel)) x.stepEpoch).filter fun p => match after with | some a => posLt a p | none => true
        match minPos m with
        | none => { s with tbl := { s.tbl with stepOn := true } }.wg Reg.ACS_STEP_STATUS 0 0 1#32
        | some p => { s with tbl := { s.tbl with stepOn := true, stepLast := some p } }.wg Reg.ACS_STEP_STATUS 0 0 (3#32 ||| at_ 4 12 p.2.2 ||| at_ 16 6 p.2.1)

/-- START captures the key, TABLE, REGION and EPOCH. -/
def Dev.stepStart (s : Dev) (table region epoch : Nat) : Dev :=
  let key := wordsBytes ((List.range 3).flatMap fun i => s.obj bACS 1 i)
  { s with tbl := { s.tbl with stepKey := key, stepTable := table, stepRegion := region, stepEpoch := epoch, stepLast := none, stepOn := false } }.stepFind none

/-- NEXT without START is an error. -/
def Dev.stepNext (s : Dev) : Dev := if s.tbl.stepOn then s.stepFind s.tbl.stepLast else s.wg Reg.ACS_STEP_STATUS 0 0 9#32

/-! ### The throttle (R241, R242). -/

def Dev.throttleStep (s : Dev) : Nat := s.rf Reg.ACS_STATUS 0 0 0 2

/-- The highest step whose threshold a temperature meets. -/
def stepOf (w : W32) (t : Nat) : Nat := if fld w 16 8 ≤ t then 3 else if fld w 8 8 ≤ t then 2 else if fld w 0 8 ≤ t then 1 else 0

/-- The threshold of step `n` (R242); 0 for step 0. -/
def stepThresh (w : W32) (n : Nat) : Nat := if n == 0 then 0 else fld w (8 * (n - 1)) 8

/-- The ns spent at step `n` since reset: what earlier stays left in counter object 0x04, and the present stay (R244). -/
def Dev.stepNs (s : Dev) (n : Nat) : Nat :=
  s.counter bACS 4 0 n + (if n == s.throttleStep then s.cue.localNs - s.tbl.stepAt else 0)

/-- Set the step, with event 0 or 1; a stay at the old step ends. -/
def Dev.setThrottle (s : Dev) (n : Nat) : Dev :=
  let old := s.throttleStep
  if n == old then s
  else
    let s := s.bump bACS 4 0 old (s.cue.localNs - s.tbl.stepAt)
    { s with tbl := { s.tbl with cools := [], stepAt := s.cue.localNs } }.wf Reg.ACS_STATUS 0 0 0 2 n |>.event bACS (if old < n then 0 else 1)

/-- The samples of 1 ms all lie below T_s − HYST of step `step` (R242). -/
def coolEnough (w : W32) (step : Nat) (temps : List Nat) : Bool :=
  10 ≤ temps.length && temps.all fun t => decide (t + max 1 (fld w 24 4) < stepThresh w step)

/-- A sample of the array sensors: none when it is invalid. One sample comes every 100 µs, so ten of them span 1 ms. -/
def Dev.throttleSample (s : Dev) (t : Option Nat) : Dev :=
  let step := s.throttleStep
  match t with
  | none => (({ s with tbl := { s.tbl with cools := [] } }.wf Reg.ACS_STATUS 0 0 2 1 0).event bACS 2).setThrottle (max step 1)
  | some t =>
    let w := s.rg Reg.ACS_THROTTLE 0 0
    let temps := (t :: s.tbl.cools).take 10
    let s := (s.wf Reg.ACS_STATUS 0 0 2 1 1).wf Reg.ACS_STATUS 0 0 8 8 t
    if step < stepOf w t then s.setThrottle (stepOf w t)
    else if fld w 28 2 < step && coolEnough w step temps then s.setThrottle (step - 1)
    else { s with tbl := { s.tbl with cools := temps } }

/-- A write of ACS_THROTTLE (R242). -/
def Dev.throttleWrite (s : Dev) (v : W32) : Dev :=
  if !(fld v 0 8 < fld v 8 8 && fld v 8 8 < fld v 16 8) then s.event bACS 3
  else
    let s := s.storeRw Reg.ACS_THROTTLE 0 0 v
    s.setThrottle (max s.throttleStep (fld v 28 2))

/-! ### Commands. -/

/-- ACS_UNIT, OP 0x30 (R237). -/
def execAcsUnit (c : TwCmd) (s : State) : Host.Outcome State Fault Refusal := s.on fun d => d.tableWork c 0x30 fun d => d.acsUnit c
/-- ACS_SET, OP 0x31 (R237, R238). -/
def execAcsSet (c : TwCmd) (s : State) : Host.Outcome State Fault Refusal := s.on fun d => d.tableWork c 0x31 fun d => d.acsSet c
/-- ACS_DEL, OP 0x32 (R237). -/
def execAcsDel (c : TwCmd) (s : State) : Host.Outcome State Fault Refusal := s.on fun d => d.tableWork c 0x32 fun d => d.acsDel c
/-- ACS_GET, OP 0x33 (R237). -/
def execAcsGet (c : TwCmd) (s : State) : Host.Outcome State Fault Refusal := s.on fun d => d.tableWork c 0x33 fun d => d.acsGet c
/-- START (R240): a write of ACS_STEP_CTRL with OP 1. -/
def execStart (q : Req) (table : Fin 128) (region : Fin 4) (epoch : Fin 16) (s : State) : Host.Outcome State Fault Refusal :=
  s.on fun d => d.gateWrite q Reg.ACS_STEP_CTRL 0 0 fun d _ => d.stepStart table region epoch
/-- NEXT (R240): a write of ACS_STEP_CTRL with OP 2. -/
def execNext (q : Req) (s : State) : Host.Outcome State Fault Refusal :=
  s.on fun d => d.gateWrite q Reg.ACS_STEP_CTRL 0 0 fun d _ => d.stepNext
/-- THROTTLE_SAMPLE (R242): the hottest array sensor in °C, none for an invalid sample. -/
def execThrottleSample (t : Option Byte) (s : State) : Host.Outcome State Fault Refusal := s.on fun d => d.throttleSample (t.map BitVec.toNat)
/-- THROTTLE_WRITE (R242): a write of ACS_THROTTLE. -/
def execThrottleWrite (q : Req) (v : W32) (s : State) : Host.Outcome State Fault Refusal :=
  s.on fun d => d.gateWrite q Reg.ACS_THROTTLE 0 0 fun d _ => d.throttleWrite v

end Sys2Proof.Machine
end

