-- ==== Sys2Proof/Machine/Admission.lean ====
section
/-! DEFINITION. Admission on the T-die: decision, placement and commit of arriving packets, egress admission, the Dovetail's choice of crossings, frees, audit, pre-pull (chapters 01, 11). -/
namespace Sys2Proof.Machine

/-! ### Refusals and counts (R259, R266, R446). -/

/-- A statistics source counts a packet at a queue: 3 for a VOQ, 4 for an egress queue (R446). -/
def Dev.statRefused (s : Dev) (q : Nat) (k : Ticket) (len : Nat) : Dev :=
  s.statRange k.epoch.toNat (if q < nQ then 3 else 4) (q % nQ) len

/-- A packet is dropped by admission at queue `q` (R259, R250). -/
def Dev.refuseAt (s : Dev) (q : Nat) (k : Ticket) (len : Nat) (r : Refuse) : Dev :=
  ((s.countRefuse r).count bQAD 0x11 0 1 k.attr).statRefused q k len

/-- A packet for an isolated queue is discarded and counted as an HBM drop (R441). -/
def Dev.refuseIso (s : Dev) (q : Nat) (k : Ticket) (len : Nat) : Dev := (s.bump bHBM 0x40 0 0 1).statRefused q k len

/-- A port-down discard of an egress queue (R282, R291, R292). -/
def Dev.portDownDiscard (s : Dev) (q : Nat) (k : Ticket) (len : Nat) : Dev :=
  ((s.bump bSCH 0x10 (q - nQ) 3 1).event bSCH 2).statRefused q k len

/-- Packets for the port are discarded at egress admission: it is down and its hold time has ended (R291). -/
def Dev.portDiscards (s : Dev) (p : Nat) : Bool := s.portState p != 2 && s.portState p != 3

/-- The egress queue of a packet for a port (R282). -/
def Dev.eqOf (s : Dev) (eq : Option Nat) (port tc : Nat) : Nat := match eq with | some e => e | none => s.defaultEq port tc
def Ticket.eq? (k : Ticket) : Option Nat := if k.eqValid then some k.eq.toNat else none

/-- The egress queue is attached to the port's subtree (R282). -/
def Dev.attached (s : Dev) (e p : Nat) : Bool := (s.pathOf e).map Prod.fst == some p

/-- Release everything an arriving packet holds, and its house count. -/
def Dev.dropArriving (s : Dev) (a : Arriving) : Dev :=
  let n := s.pktBufs a.pkt
  let s := if a.noBuffer && n == 0 then s else (s.releaseQ a.queue n (isOnDie a.pkt.head)).freeOwner a.pkt.head 0 0
  s.houseOut a.pkt.ticket.epoch.toNat 1

/-! ### Decision (R257–R261). -/

/-- The head of a packet that has no chain: no pointer has this number (R247). -/
abbrev noHead : Nat := 2 ^ 30

/-- Decide a packet with `bytes` stored bytes known so far for queue `q`: judged, marked, placed, its buffers taken and charged. None when it is dropped. Staged values are those of tick `t`, at which its section began (R34, R82). -/
def Dev.decideNew (s : Dev) (t q : Nat) (k : Ticket) (frame : List Byte) (bytes : Nat) (good fromFab : Bool) (key : Option Nat) (fin : Nat) : Dev × Option Arriving :=
  let len := lenOf k frame
  let out (s : Dev) : Dev × Option Arriving := (s.houseOut k.epoch.toNat 1, none)
  if s.stopped then out s
  else if (s.queue q).isolated then out (s.refuseIso q k len)
  else match s.judge q k.colour.toNat t with
    | some r => out (s.refuseAt q k len r)
    | none =>
      match s.place q k.tc.toNat fromFab t with
      | .error r => out (s.refuseAt q k len r)
      | .ok (mem, tight) =>
        let marked := s.ecnMarks q t k
        let k := if marked then s.setCe t k else k
        let s := if tight then s.bump bBPM 1 0 3 1 else s
        let (h, s) := s.allocFor q k.tc.toNat bytes mem
        let a : Arriving := { pkt := { head := h.getD noHead, owner := 0, ticket := k, frame := frame, fromFab := fromFab, whole := false },
                              queue := q, good := good, marked := marked, noBuffer := h.isNone, key := key, fin := fin, since := t }
        ({ s with tm := { s.tm with arriving := s.tm.arriving ++ [a] } }.refreshShared, some a)

/-- Replace, or remove, an arriving packet named by its head pointer and context. -/
def Dev.setArriving (s : Dev) (a : Arriving) (b : Option Arriving) : Dev :=
  { s with tm := { s.tm with arriving := s.tm.arriving.flatMap fun x => if x == a then b.toList else [x] } }

/-- What names the tail of a packet that is cut through: its reassembly context, or its head pointer beyond every context's number. -/
def Arriving.tailKey (a : Arriving) : Nat := match a.key with | some k => k | none => 2 ^ 40 + a.pkt.head

/-- The packets of the lanes changed one by one. -/
def Dev.mapLanes (s : Dev) (f : LanePkt → LanePkt) : Dev :=
  { s with tm := { s.tm with laneQ := s.tm.laneQ.map fun (e : Nat × List LanePkt) => (e.1, e.2.map f) } }

/-- Set the length, and the frame, of a packet that was linked at its decision, wherever it now lies (R257, R311). -/
def Dev.fillIn (s : Dev) (head len : Nat) (frame : List Byte) (key : Nat) : Dev :=
  let k (t : Ticket) : Ticket := { t with frameLen := BitVec.ofNat 14 len }
  let qs := s.tm.queues.map fun e => (e.1, { e.2 with pkts := e.2.pkts.map fun (p : Pkt) =>
    if p.head == head && !p.whole then { p with ticket := k p.ticket, frame := frame, whole := true, pend := none } else p })
  let eg := s.tm.toEgress.map fun (e : EgPkt) =>
    if e.pend == some key then { e with ticket := k e.ticket, frame := frame, pend := none } else e
  { s with tm := { s.tm with queues := qs, toEgress := eg } }.mapLanes fun x =>
    if x.head == head && x.tail.isNone then { x with tail := some false } else x

/-- The queue and place of a packet that was linked at its decision, while it waits there. -/
def Dev.earlyAt (s : Dev) (head : Nat) : Option (Nat × Nat) :=
  s.tm.queues.findSome? fun e => (e.2.pkts.findIdx? fun k => k.head == head && !k.whole).map fun i => (e.1, i)

/-- An arriving packet ends without a packet: what admission holds for it is released. One already cut through is ended on the line, or by a cell with END 1 and BAD 1 (R298, R311). -/
def Dev.endArriving (s : Dev) (a : Arriving) : Dev :=
  let s := s.setArriving a none
  if !a.linked then s.dropArriving a
  else match s.tm.toEgress.find? fun e => e.pend == some a.tailKey with
    | some e =>
      let s := { s with tm := { s.tm with toEgress := s.tm.toEgress.filter fun x => x.pend != some a.tailKey } }
      ((s.emit (.frameAborted e.port e.frame)).bump bFAB 5 0 1 1).houseOut a.pkt.ticket.epoch.toNat 1
    | none => match s.earlyAt a.pkt.head with
      | some (q, i) =>
        let (s, _, bad) := s.unlink q i
        (if bad then s.badLink q else s).freeCopy a.pkt 0
      | none => s.mapLanes fun x => if x.head == a.pkt.head && x.tail.isNone then { x with tail := some true } else x

/-- Admission commit (R165, R257). A frame of an unprotected port that is not good has failed its FCS (R113, R311; log entry 126). -/
def Dev.commitArriving (s : Dev) (a : Arriving) : Dev :=
  let k := a.pkt.ticket
  if !a.good then
    let s := s.endArriving a
    if k.prot == 0 then s else (s.bump bQAD 0x31 0 0 1).event bQAD 3
  else if a.noBuffer then (s.endArriving a).bump bQAD 0x31 0 1 1
  else
    let s := s.setArriving a none
    let len := a.pkt.frame.length + 4
    let k := { k with frameLen := BitVec.ofNat 14 len }
    let p : Pkt := { a.pkt with ticket := k, whole := true, pend := none }
    let s := if a.marked then (s.bump bQAD 0x31 0 2 1).count bQAD 0x12 0 1 k.attr else s
    let s := s.count bQAD 0x10 0 1 k.attr
    if a.linked then s.fillIn p.head len p.frame a.tailKey
    else match s.ptrBad p.head true with
      | some c => ((s.badPtr p.head c 1).bump bQAD 0x31 0 3 1).houseOut k.epoch.toNat 1
      | none => s.link a.queue p

/-! ### Cut-through (R311). -/

/-- The port transmits nothing. -/
def Dev.portIdle (s : Dev) (p : Nat) : Bool :=
  !(s.tm.toEgress.any fun e => e.port == p) && !(s.tm.toLine.any fun e => e.port == p)

/-- Local switching may cut the packet through. -/
def Dev.cutLocal (s : Dev) (q : Nat) (k : Ticket) : Bool :=
  let p := k.dstPort
  let e := s.eqOf k.eq? p k.tc.toNat
  k.prot != 1 && k.dkind == 0 && k.dstDev == s.devId && (s.queue q).pkts.isEmpty && (s.queue (nQ + e)).pkts.isEmpty
    && s.portIdle p && s.pathOpen p e
    && decide (cfgGbps (s.portCfg p) ≤ cfgGbps (s.portCfg k.srcPort.toNat))

/-- Fabric send may cut the packet through: its VOQ empty with balance (of an uncredited VOQ: tokens) above 0, no other packet in the lane's stream. -/
def Dev.cutSend (s : Dev) (q : Nat) (k : Ticket) : Bool :=
  k.prot != 1 && k.dkind == 0 && k.dstDev != s.devId && (s.queue q).pkts.isEmpty
    && ((s.meshFor k.dstDev).any fun m => (mget [] s.tm.laneQ (s.laneFor k.pinOf m * 4 + streamOf 0 k.tc.toNat)).isEmpty)
    && (match s.voqDest q with | some _ => decide (0 < mget 0 s.tm.credit q) | none => decide (0 < s.voqTokens q))

/-- Link an arriving packet at its decision (R257). -/
def Dev.linkEarly (s : Dev) (a : Arriving) : Dev :=
  let b := { a with linked := true, pkt := { a.pkt with pend := some a.tailKey } }
  (s.setArriving a (some b)).link a.queue b.pkt

/-! ### The Dovetail, F→T (R14). -/

/-- The first non-empty queue of a cluster after `rr`, cyclically. -/
def nextCluster (qs : List (Nat × List Crossing)) (rr : Nat) : Option (Nat × Crossing × List Crossing) :=
  (List.range 16).findSome? fun i =>
    let c := (rr + 1 + i) % 16
    match mget [] qs c with
    | x :: rest => some (c, x, rest)
    | [] => none

/-- Take the next crossing: urgent queues first, clusters in round robin (R14). -/
def Dev.takeCrossing (s : Dev) : Option (Crossing × Dev) :=
  match nextCluster s.tm.urgent s.tm.rrU with
  | some (c, x, rest) => some (x, { s with tm := { s.tm with urgent := mset [] s.tm.urgent c rest, rrU := c } })
  | none => match nextCluster s.tm.general s.tm.rrG with
    | some (c, x, rest) => some (x, { s with tm := { s.tm with general := mset [] s.tm.general c rest, rrG := c } })
    | none => none

/-- The oldest crossing whose head the delivered flits hold, and where it ends (R12, R15). -/
def Dev.headHere (s : Dev) : Option (Crossing × Nat) :=
  match s.tm.packed with
  | [] => none
  | (x, fin) :: _ => if fin - x.frame.length ≤ s.dvtFT.delivered then some (x, fin) else none

/-- A crossing head arrives: the packet is decided and placed (R257–R261), under the staged values of its ingress section (R34). -/
def Dev.crossingArrives (s : Dev) : Dev :=
  match s.headHere with
  | none => s
  | some (x, fin) =>
    let s := { s with tm := { s.tm with packed := s.tm.packed.tail } }
    let q := x.ticket.voq.toNat
    let (s, a) := s.decideNew x.since q x.ticket x.frame (s.stored x.frame) x.good false none fin
    match a with
    | none => s.refreshShared
    | some a => if !a.noBuffer && (x.good || x.ticket.prot == 0) && (s.cutLocal q a.pkt.ticket || s.cutSend q a.pkt.ticket) then s.linkEarly a else s

/-- The oldest crossing that has wholly arrived ends: admission commit. -/
def Dev.admissionCommit (s : Dev) : Dev :=
  match s.tm.arriving.find? fun a => a.key.isNone && decide (a.fin ≤ s.dvtFT.delivered) with
  | none => s
  | some a => (s.commitArriving a).refreshShared

/-! ### Egress admission (R250 rule 1, R259, R282, R291). -/

/-- Admit a copy that keeps its chain to an egress queue of `port`; answers whether it was linked. -/
def Dev.admitEgress (s : Dev) (k : Pkt) (port e : Nat) : Dev × Bool :=
  let q := nQ + e
  let t := s.cue.tickNo
  if !s.attached e port || s.portDiscards port then (s.portDownDiscard q k.ticket k.len, false)
  else if (s.queue q).isolated then (s.refuseIso q k.ticket k.len, false)
  else match s.judge q k.ticket.colour.toNat t with
    | some r => (s.refuseAt q k.ticket k.len r, false)
    | none =>
      let marked := s.ecnMarks q t k.ticket
      let k := if marked then { k with ticket := s.setCe t k.ticket } else k
      let s := if marked then (s.bump bQAD 0x31 0 2 1).count bQAD 0x12 0 1 k.attr else s
      let s := s.chargeQ q (s.pktBufs k) (isOnDie k.head)
      let s := s.count bQAD 0x10 0 1 k.attr
      ((s.link q k).refreshShared, true)

/-! ### Frees, audit and pre-pull (R252–R256, R264, R265). -/

/-- The read limiter, and the charge of a read of packet data (R252). -/
def Dev.readTokens (s : Dev) : Int := Bucket.now s.tm.readB (some s.spillRate) spillSize s.cue.localNs
def Dev.chargeRead (s : Dev) (bytes : Nat) : Dev :=
  { s with tm := { s.tm with readB := Bucket.charge s.tm.readB (some s.spillRate) spillSize s.cue.localNs (((bytes + 31) / 32 * 32 : Nat) : Int) } }

/-- Bytes in the staging memory. -/
def Dev.stagedBytes (s : Dev) : Nat := s.tm.staged.foldl (fun n z => n + z.bytes) 0

/-- The staged copy whose predicted dequeue lies furthest ahead, when that is later than `due` (R255). -/
def Dev.furthest (s : Dev) (due : Nat) : Option Staged :=
  (s.tm.staged.filter fun z => decide (due < z.due)).foldl (fun b z => match b with
    | none => some z
    | some x => if x.due < z.due then some z else b) none

/-- Make room in staging for `bytes` of a packet predicted for `due`: later predictions go, furthest first (R255). -/
def Dev.makeRoom (s : Dev) (bytes due : Nat) : Nat → Dev
  | 0 => s
  | fuel + 1 =>
    if s.stagedBytes + bytes ≤ 2 ^ 22 then s
    else match s.furthest due with
      | none => s
      | some z => (s.unstage fun x => x == z).makeRoom bytes due fuel

/-- The first packet of a queue that no staged copy holds, while the queue's next packets lie in HBM (R253). -/
def Dev.nextUnstaged (s : Dev) (q : Nat) : Option Pkt :=
  ((s.queue q).pkts.takeWhile fun k => !isOnDie k.head).find? fun k => !(s.tm.staged.any fun z => z.queue == q && z.head == k.head)

/-- Pre-pull reads the next packet of queue `q`, whose dequeue the scheduler predicts in `ahead` ns; `err` when its read meets an uncorrectable error (R252, R253, R255, R256). -/
def Dev.prePull (s : Dev) (q ahead : Nat) (err : Bool) : Dev :=
  let cfg := s.rg Reg.BPM_PREPULL_CFG 0 0
  let depth := max 1 (fld cfg 16 8) * 1024
  let have_ := (s.tm.staged.filter fun z => z.queue == q).foldl (fun n z => n + z.bytes) 0
  match s.nextUnstaged q with
  | none => s
  | some k =>
    let bytes := s.stored k.frame
    let due := s.cue.localNs + ahead
    if !bit cfg 0 || k.ticket.tc == 0 || s.stopped || max 1 (fld cfg 8 8) * 100 < ahead || depth < have_ + bytes || 2 ^ 22 < bytes
        || decide (s.readTokens ≤ 0) then s
    else match s.ptrBad k.head true with
      | some c => s.badPtr k.head c 5
      | none =>
        let s := (s.markChain k.head).makeRoom bytes due s.tm.staged.length
        if 2 ^ 22 < s.stagedBytes + bytes then s
        else
          let bad := err || !s.stackServes (k.head / 2 ^ 26 % 8)
          let s := ((s.chargeRead bytes).hbmRead (ptrAddr k.head) bytes true none (s.chainBlocks k.head)).bump bBPM 1 1 0 1 |>.count bBPM 0x12 0 1
          let s := { s with tm := { s.tm with staged := s.tm.staged ++ [{ queue := q, head := k.head, bytes := bytes, poisoned := bad, due := due }] } }
          if bad then (s.bump bBPM 1 1 3 1).event bBPM 4 else s

/-- A free presented by an agent (R264); a refused pointer is a class 10 detection. -/
def Dev.bufferFree (s : Dev) (p owner agent : Nat) : Dev :=
  match s.ptrBad p true with
  | some c => (s.markChain p).badPtr p c agent owner
  | none => (s.freeOwner p owner agent).refreshShared

/-- Heads that some list, arriving packet, replication job or staged copy names. -/
def Dev.reached (s : Dev) (h : Nat) : Bool :=
  (s.tm.queues.any fun e => e.2.pkts.any fun k => k.head == h) || (s.tm.arriving.any fun a => a.pkt.head == h)
    || (s.tm.repl.any fun j => j.pkt.head == h) || (s.tm.staged.any fun z => z.head == h)

/-- A leak-audit pass begins: every chain in use is old and unmarked (R265). -/
def Dev.auditStart (s : Dev) : Dev :=
  if s.tm.auditing then s
  else
    let s := s.wf Reg.BPM_AUDIT_STATUS 0 0 0 1 1
    { s with tm := { s.tm with auditing := true, auditAt := s.cue.localNs,
                               chains := s.tm.chains.map fun (c : Nat × Chain) => (c.1, { c.2 with mark := false, old := true }) } }

/-- Seconds between pass starts. -/
def Dev.auditPeriod (s : Dev) : Nat := max 10 (s.rf Reg.BPM_AUDIT_CTRL 0 0 8 8)

/-- A periodic pass is due: EN is 1, and PERIOD_S has passed since the last pass began or, before the first, since SPILL_EN was first set (R265). -/
def Dev.auditDue (s : Dev) : Bool :=
  bit (s.rg Reg.BPM_AUDIT_CTRL 0 0) 0 && s.tm.spilled && decide (s.tm.auditAt + s.auditPeriod * 1000000000 ≤ s.cue.localNs)

/-- The linkage checksum a queue's list gives (R439). -/
def Queue.relink (x : Queue) : W32 := x.pkts.foldl (fun w k => w ^^^ linkTerm k.head) 0

/-- A leak-audit pass ends: lists whose checksum differs are emptied, unreached chains reclaimed (R265, R439). `skip` names head buffers whose location could not be read (R355 REQ 9). -/
def Dev.auditEnd (s : Dev) (skip : List Nat) : Dev :=
  if !s.tm.auditing then s
  else
    let wrong := (s.tm.queues.filter fun e => e.2.relink != e.2.link).map Prod.fst
    let s := wrong.foldl (fun s q => (s.badLink q).leakQ q) s
    let lost := (s.tm.chains.filter fun c => c.2.old && !c.2.mark && !s.reached c.1 && !skip.contains c.1).map Prod.fst
    let s := lost.foldl (fun s h => (((s.dropChain h).bump bBPM 1 0 2 1).ptrLogAdd h 7 8 0).event bBPM 2) s
    let v := s.rg Reg.BPM_AUDIT_STATUS 0 0
    let s := s.wg Reg.BPM_AUDIT_STATUS 0 0 (at_ 16 16 (fld v 16 16 + 1))
    { s with tm := { s.tm with auditing := false, chains := s.tm.chains.map fun (c : Nat × Chain) => (c.1, { c.2 with old := false }) } }.refreshShared

/-- SPILL_EN goes from 0 to 1 (R249, R343, R472): HBM_FREE counts the free buffers of the clipped regions of the stacks that serve. -/
def Dev.spillOn (s : Dev) : Dev :=
  let clip := (List.range 8).any fun k => s.variant.hasStack k && decide (60 < s.rf Reg.BPM_HBM_REGION 0 k 8 7)
  let s := { s with tm := { s.tm with spilled := true, auditAt := if s.tm.spilled then s.tm.auditAt else s.cue.localNs } }
  (s.recountHbm.eventIf clip bHBM 9).refreshShared

/-! ### Commands. -/

/-- CROSSING_HEAD_ARRIVAL (R14, R257): the crossing that the Dovetail takes next. -/
def execCrossingHeadArrival (s : State) : Host.Outcome State Fault Refusal := s.on fun d => d.crossingArrives

/-- ADMISSION_COMMIT (R257): the end of the crossing that arrived first. -/
def execAdmissionCommit (s : State) : Host.Outcome State Fault Refusal := s.on fun d => d.admissionCommit

/-- SPILL_ENABLE (R249, R343): a write of BPM_CTRL. -/
def execSpillEnable (q : Req) (v : W32) (s : State) : Host.Outcome State Fault Refusal :=
  s.on fun d => d.gateWrite q Reg.BPM_CTRL 0 0 fun d _ =>
    let was := d.spillEn
    let d := d.storeRw Reg.BPM_CTRL 0 0 v
    (if !was && d.spillEn then d.spillOn else d).refreshShared

/-- HBM_REGION_WRITE (R249): discarded with event 3 while SPILL_EN is 1; an absent stack's register stays 0. -/
def execHbmRegionWrite (q : Req) (k : Fin 8) (v : W32) (s : State) : Host.Outcome State Fault Refusal :=
  s.on fun d => d.gateWrite q Reg.BPM_HBM_REGION 0 k fun d _ =>
    if d.spillEn then d.event bBPM 3
    else if !d.variant.hasStack k then d
    else d.storeRw Reg.BPM_HBM_REGION 0 k v

/-- PRE_PULL_READ (R253, R256): queue `q`, VOQs before egress queues; its next packet's dequeue is predicted in `r.ahead` ns. -/
def execPrePullRead (q : Fin 262144) (r : PrePull) (s : State) : Host.Outcome State Fault Refusal :=
  s.on fun d => d.prePull q r.ahead.toNat r.err

/-- BUFFER_FREE (R264): an agent of R267 frees a head pointer for an owner. -/
def execBufferFree (p : BitVec 30) (owner : BitVec 10) (agent : Fin 9) (s : State) : Host.Outcome State Fault Refusal :=
  s.on fun d => d.bufferFree p.toNat owner.toNat agent

/-- AUDIT_PASS_START (R265) by period. A write of BPM_AUDIT_CTRL.START begins a pass as that register's write (Dev.writeHook). -/
def execAuditPassStart (s : State) : Host.Outcome State Fault Refusal := s.on fun d => if d.auditDue then d.auditStart else d

/-- AUDIT_PASS_END (R265, R439); `skip` lists head buffers whose location met an uncorrectable error (R355). -/
def execAuditPassEnd (skip : List (BitVec 30)) (s : State) : Host.Outcome State Fault Refusal :=
  s.on fun d => d.auditEnd (skip.map BitVec.toNat)

end Sys2Proof.Machine
end

