-- ==== Sys2Proof/Machine/Voqs.lean ====
section
/-! DEFINITION. VOQ service: fabric send, local transfer, replication, mirror copies, host delivery; credit; the dequeue of egress queues (chapters 12, 13, 14). -/
namespace Sys2Proof.Machine

/-! ### Reading a packet at commit (R254, R256, R355). -/

/-- A staged copy of a packet. -/
def Dev.stagedOf (s : Dev) (q head : Nat) : Option Staged := s.tm.staged.find? fun z => z.queue == q && z.head == head

/-- The packet's data can be had now: on-die, staged, or with budget for a read. -/
def Dev.readable (s : Dev) (q : Nat) (k : Pkt) : Bool :=
  isOnDie k.head || (s.stagedOf q k.head).isSome || decide (0 < s.readTokens)

/-- An error of an HBM access: its log entry, with its counter and event (R358–R360). -/
def Dev.hbmErr (s : Dev) (cause req addr : Nat) (synd : W32 := 0) : Dev :=
  let k := addr / 2 ^ 34 % 8
  let ws := s.hbmEntry cause req addr synd
  let s := s.hbmLog cause req addr synd
  if cause == 0 then (s.bump bHBM 1 k 0 1).event bHBM 3
  else if cause == 1 then ((s.bump bHBM 1 k 1 1).event bHBM 4).detect 12 (stackUnit k) (word ws 1) (word ws 2)
  else s

/-- The link-memory address of an HBM buffer (R342). -/
def linkAddr (p : Nat) : Nat := p / 2 ^ 26 % 8 * 2 ^ 34 + 0x3C0000000 + p % 2 ^ 26 * 4

/-- Read a packet that leaves queue `q`, before it is unlinked; `err` says that the read of its data is uncorrectable. Answers whether its data are good (R254–R256, R355). -/
def Dev.readPacket (s : Dev) (q : Nat) (k : Pkt) (err : Bool) : Dev × Bool :=
  if isOnDie k.head then (s, true)
  else match s.stagedOf q k.head with
    | some z =>
      let s := { s with tm := { s.tm with staged := s.tm.staged.filter fun x => x != z } }
      let s := s.bump bBPM 1 1 1 1
      if z.poisoned then (s.bump bHBM 0x40 0 0 1, false) else (s, true)
    | none =>
      let bytes := s.stored k.frame
      let s := s.chargeRead bytes
      if !s.stackServes (k.head / 2 ^ 26 % 8) then ((s.hbmErr 2 0 (ptrAddr k.head)).bump bHBM 0x40 0 0 1, false)
      else
        let s := s.hbmRead (ptrAddr k.head) bytes true none (s.chainBlocks k.head)
        if err then ((s.hbmErr 1 0 (ptrAddr k.head)).bump bHBM 0x40 0 0 1, false) else (s, true)

/-- Unlink the head of a queue at dequeue commit, with the linkage check (R439). -/
def Dev.takeHead (s : Dev) (q : Nat) : Dev :=
  match s.unlink q 0 with
  | (s, _, bad) => if bad then s.badLink q else s

/-- A misplaced packet (R439): class 11, dropped and counted. -/
def Dev.misplaced (s : Dev) (q : Nat) (k : Pkt) : Dev := ((s.badLink q).bump bBPM 0x40 0 0 1).freeCopy k 2

/-! ### Fabric send (R296–R306). -/

/-- A copy is committed to a fabric lane: it joins the packets of its stream there, and its entry's in-flight count rises (R297, R305, R306). -/
def Dev.sendFabric (s : Dev) (lane kind dst fmc : Nat) (k : Pkt) (owner cut : Nat) : Dev :=
  let h := k.ticket.pinOf
  let s := s.setPin h { s.pin h with inflight := (s.pin h).inflight + 1 }
  let x : LanePkt := { dst := dst, fmc := fmc, tc := k.ticket.tc.toNat, ct := cut, bytes := s.crossing k.ticket k.frame, entry := h,
                       epoch := k.ticket.epoch.toNat, head := k.head, owner := owner, openEnd := k.ticket.frameLen == 0,
                       tail := if k.whole then some false else none }
  let key := lane * 4 + streamOf kind k.ticket.tc.toNat
  { s with tm := { s.tm with laneQ := mset [] s.tm.laneQ key (mget [] s.tm.laneQ key ++ [x]) } }

/-- What a cell carries (R296): its destination and class as its packets have them, the cut-through code of the first packet that starts in it. -/
structure CellOut where
  dst : Nat
  fmc : Nat
  tc : Nat
  ct : Nat := 0
  start : Option Nat := none
  bytes : List Byte := []
  endc : Bool := false
  bad : Bool := false
  deriving DecidableEq, Repr

/-- Fill a cell that has room for `room` more bytes from the packets of a stream (R297): the cell, the packets that it ends, those that remain. The next packet joins when it has the same destination and class; a packet whose tail is still to come keeps back its last bytes. -/
def fillCell (room : Nat) (c : CellOut) : List LanePkt → CellOut × List LanePkt × List LanePkt
  | [] => (c, [], [])
  | x :: l =>
    let first := !x.started && c.start.isNone
    let b := { c with start := if first then some (256 - room) else c.start, ct := if first then x.ct else c.ct }
    if room < x.bytes.length then
      ({ b with bytes := c.bytes ++ x.bytes.take room }, [], { x with bytes := x.bytes.drop room, started := true } :: l)
    else match x.tail with
      | none => (c, [], x :: l)
      | some bad =>
        let b := { b with bytes := c.bytes ++ x.bytes }
        if x.openEnd || bad then ({ b with endc := true, bad := bad }, [x], l)
        else if x.bytes.length < room && l.head?.any (fun y => y.dst == x.dst && y.fmc == x.fmc && y.tc == x.tc) then
          let r := fillCell (room - x.bytes.length) b l
          (r.1, x :: r.2.1, r.2.2)
        else (b, [x], l)

/-- The cell that stream `st` of a lane gives at a slot: none when LFC stops the stream, or it has nothing to send (R297, R301). -/
def Dev.cellFor (s : Dev) (lane st : Nat) : Option (CellOut × List LanePkt × List LanePkt) :=
  match mget [] s.tm.laneQ (lane * 4 + st) with
  | [] => none
  | x :: l =>
    let r := fillCell 256 { dst := x.dst, fmc := x.fmc, tc := x.tc } (x :: l)
    if mget 0 s.tm.lfc lane / 2 ^ st % 2 == 1 || r.1.bytes.isEmpty then none else some r

/-- The header words of a cell, its CRC-32C last, over header bytes 0–11 and the valid payload bytes (R296). -/
def Dev.cellHdr (s : Dev) (lane st seq : Nat) (c : CellOut) : List W32 :=
  let hdr : List W32 :=
    [at_ 30 2 1 ||| at_ 28 2 (st / 2) ||| at_ 25 3 c.tc ||| atB 24 c.start.isSome ||| at_ 16 8 (c.start.getD 0) ||| at_ 0 14 c.dst,
     at_ 18 14 s.devId ||| at_ 9 9 lane ||| at_ 0 9 c.bytes.length,
     at_ 24 8 seq ||| at_ 21 3 ((s.xsize - 32) / 8) ||| at_ 18 3 c.ct ||| atB 17 c.bad ||| atB 16 c.endc ||| at_ 0 16 c.fmc]
  hdr ++ [crc32c ((hdr.flatMap fun w => beBytes 4 w.toNat) ++ c.bytes)]

/-- The last cell of a copy has left its lane: its owner is freed and its fabric hold begins (R86, R306, R326). -/
def Dev.copySent (s : Dev) (lane : Nat) (x : LanePkt) : Dev :=
  let hold : FabHold := { entry := x.entry, lane := lane, epoch := x.epoch }
  ({ s with tm := { s.tm with holds := s.tm.holds ++ [hold] } }.houseFabIn x.epoch 1).freeOwner x.head x.owner 2

/-- One cell slot of a lane: stream 1 takes precedence, then 0, 2 and 3 (R297, log entry 127). -/
def Dev.sendCell (s : Dev) (lane : Nat) : Dev :=
  match [1, 0, 2, 3].findSome? fun st => (s.cellFor lane st).map fun r => (st, r) with
  | none => s
  | some (st, c, done, rest) =>
    let key := lane * 4 + st
    let seq := mget 0 s.tm.sendSeq key
    let s := s.emit (.cell lane (s.cellHdr lane st seq c) (slice c.bytes 0 256))
    let s := { s with tm := { s.tm with laneQ := mset [] s.tm.laneQ key rest, sendSeq := mset 0 s.tm.sendSeq key ((seq + 1) % 256) } }
    done.foldl (fun s x => s.copySent lane x) ((s.bump bFAB 2 lane 0 1).count bFAB 0x10 0 1 { tc := some c.tc })

/-- The slots of the lanes that began in `elapsed` ns (R295): slots of 10.88 ns, of which the first of every 25 is a control slot. Each lane that holds packets sends its cells. -/
def Dev.laneSlots (s : Dev) (elapsed : Nat) : Dev :=
  let acc := s.tm.slotAcc + 100 * elapsed
  let n := acc / 1088
  let cells := ((List.range n).filter fun i => (s.tm.slotNo + i) % 25 != 0).length
  let s := { s with tm := { s.tm with slotAcc := acc % 1088, slotNo := (s.tm.slotNo + n) % 25 } }
  if s.stopped then s
  else ((s.tm.laneQ.map fun e => e.1 / 4).eraseDups).foldl (fun (s : Dev) l => (List.range cells).foldl (fun (s : Dev) _ => s.sendCell l) s) s

/-! ### Credit (R276, R279–R281, R302). -/

/-- A grant reaches a VOQ of this device (R276): discarded when it is empty or uncredited. -/
def Dev.takeGrant (s : Dev) (v : Nat) : Dev :=
  if (s.queue v).pkts.isEmpty || (s.voqDest v).isNone then s
  else
    let c := mget 0 s.tm.credit v
    ({ s with tm := { s.tm with credit := mset 0 s.tm.credit v (c + s.quantum) } }).bump bSCH 0x11 v 2 s.quantum

/-- The requesters of a port's generator in a class: (device, VOQ), local ones by their non-empty VOQs (R276, R280). -/
def Dev.requesters (s : Dev) (p c : Nat) : List (Nat × Nat) :=
  let loc := (s.tm.queues.filter fun e => decide (e.1 < nQ) && !e.2.pkts.isEmpty && s.voqDest e.1 == some (s.devId, p, c)).map fun e => (s.devId, e.1)
  let rem := ((s.gen p).remote.filter fun r => r.tc == c).map fun r => (r.dev, r.voq)
  loc ++ rem

/-- A requester as one number, for round robin. -/
def reqKey (e : Nat × Nat) : Nat := e.1 * 2 ^ 17 + e.2

/-- The requester after the last one served, in cyclic order of device and VOQ. -/
def nextReq (l : List (Nat × Nat)) (last : Option Nat) : Option (Nat × Nat) :=
  let least (m : List (Nat × Nat)) : Option (Nat × Nat) := m.foldl (fun b e => match b with
    | none => some e
    | some x => if reqKey e < reqKey x then some e else b) none
  match last with
  | none => least l
  | some k => match least (l.filter fun e => decide (k < reqKey e)) with
    | some e => some e
    | none => least l

/-- Buffers held by class-`c` packets in the egress queues of port `p` (R280). -/
def Dev.classBufs (s : Dev) (p c : Nat) : Nat :=
  (s.portQueues p).foldl (fun n q => (s.queue q).pkts.foldl (fun n k => if k.ticket.tc.toNat == c then n + s.pktBufs k else n) n) 0

/-- Deficit-weighted choice among classes 1–7 (R280): each takes CLASS_WEIGHT × QUANTUM bytes a round, one grant at a time; `fuel` bounds the turns. -/
def Dev.classTurn (s : Dev) (p : Nat) (open_ : List Nat) : Nat → Option (Nat × Dev)
  | 0 => none
  | fuel + 1 =>
    let g := s.gen p
    let c := g.turn
    let d := mget 0 g.deficits c
    let next := if 7 ≤ c then 1 else c + 1
    if open_.contains c && decide ((s.quantum : Int) ≤ d) then
      some (c, s.setGen p { g with deficits := mset 0 g.deficits c (d - s.quantum) })
    else
      -- the next class's turn begins: it takes its share of the round
      let w := max 1 (wfld (s.obj bSCH 5 p) 2 (4 * next) 4)
      let d' := if open_.contains next then mget 0 g.deficits next + w * s.quantum else 0
      (s.setGen p { g with turn := next, deficits := mset 0 g.deficits next d' }).classTurn p open_ fuel

/-- The rate at which the generator of port `p` grants, in bit/s: its DRAIN_RATE after hold expiry, else CR_p of R279: the least of the nominal rate, the port node's PIR and the Rate Follow cap, with OVERSHOOT. -/
def Dev.grantRate (s : Dev) (p : Nat) (drain : Bool) : Option Nat :=
  if drain then rateOf (word (s.obj bSCH 5 p) 1)
  else
    let n := [peakRate (s.nodeW (nodeKey 0 p) 0) (s.nodeW (nodeKey 0 p) 2), s.capRate p].foldl (fun n r => match r with
      | some x => min n x
      | none => n) (cfgGbps (s.portCfg p) * 1000000000)
    some (n * (64 + s.rf Reg.SCH_CREDIT_CFG 0 0 4 6) / 64)

/-- What the pacing bucket holds: a grant, and what the rate gives in two ticks, as grants of one tick are counted together (log entry 118). -/
def Dev.paceSize (s : Dev) (r : Option Nat) : Nat := s.quantum + (r.getD 0) * 256 / 8000000000

/-- The generator's rate lets it issue a grant now (R279, R291). -/
def Dev.grantDue (s : Dev) (p : Nat) (drain : Bool) : Bool :=
  let r := s.grantRate p drain
  r != some 0 && decide (0 < Bucket.now (s.gen p).pace r (s.paceSize r) s.cue.localNs)

/-- A grant charges its bytes to the pace. -/
def Dev.payGrant (s : Dev) (p : Nat) (drain : Bool) : Dev :=
  let r := s.grantRate p drain
  s.setGen p { s.gen p with pace := Bucket.charge (s.gen p).pace r (s.paceSize r) s.cue.localNs s.quantum }

/-- The hold time of port `p` has expired, or was taken as 0 when the port was disabled, and the port has not been declared up since (R291). -/
def Dev.draining (s : Dev) (p : Nat) : Bool := (s.gen p).running && s.portState p != 2 && s.portState p != 3

/-- The generator of port `p` issues one grant (R279–R281, R291). -/
def Dev.creditGrant (s : Dev) (p : Nat) : Dev :=
  let drain := s.draining p
  if !(s.gen p).running || s.stopped || !(drain || s.portUp p) || !s.grantDue p drain then s
  else
    let cstop := wfld (s.obj bSCH 5 p) 0 0 20
    let cls := (List.range 8).filter fun c => !(s.requesters p c).isEmpty && (drain || decide (s.classBufs p c < cstop))
    let pick : Option (Nat × Dev) := if cls.contains 0 then some (0, s) else if cls.isEmpty then none else s.classTurn p cls 16
    match pick with
    | none => s
    | some (c, s) =>
      let g := s.gen p
      match nextReq (s.requesters p c) ((g.last.find? fun e => e.1 == c).map Prod.snd) with
      | none => s
      | some e =>
        let s := (s.setGen p { g with last := minsert g.last c (reqKey e), issued := if g.issued.contains e then g.issued else g.issued ++ [e] }).payGrant p drain
        let s := s.count bSCH 0x11 0 1 { tc := some c, port := some p }
        let s := if drain then s.bump bSCH 0x20 0 1 1 else s
        if e.1 == s.devId then s.takeGrant e.2 else s.emit (.fabMsg e.1 (.grant e.2 p))

/-! ### Replication (R323–R328). -/

/-- A group entry in use (R318, R319): none when it is invalid. -/
def Dev.groupOf? (s : Dev) (g : Nat) : Option (List W32) :=
  let e := mget [0, 0] s.tbl.groups g
  if g < 131072 && bit (word e 0) 31 then some e else none

/-- A multicast packet is dropped or discarded at replication: counter `k` of EPP object 0x10 (R336). -/
def Dev.replCount (s : Dev) (k : Nat) : Dev := (s.bump bEPP 0x10 0 k 1).event bEPP 3

/-- Put a packet into the replication queue (R325). -/
def Dev.replEnqueue (s : Dev) (k : Pkt) (e : List W32) : Dev × Bool :=
  if 8192 ≤ s.tm.repl.length then (s.replCount 2, false)
  else ({ s with tm := { s.tm with repl := s.tm.repl ++ [{ pkt := k, base := wfld e 1 0 20, count := wfld e 1 20 11 }] } }, true)

/-- A mirror copy of an original whose owner set already holds 1,018 (R328). -/
def Dev.mirrorCopy (s : Dev) (k : Pkt) (e : List W32) : Dev :=
  let dst : W32 := at_ 10 22 (fld (word e 0) 0 22)
  let tc := wfld e 0 28 3
  let t := s.cue.tickNo
  let s := s.houseIn k.ticket.epoch.toNat 1
  let refuse (s : Dev) : Dev := (s.bump bEPP 0x10 0 5 1).freeCopy { k with owner := 1018 } 4
  match s.voqFor t 0 dst tc with
  | none => refuse ((s.bump bSCH 0x20 0 0 1).event bSCH 1)
  | some v =>
    let tk := { k.ticket with dkind := 0, dst := dst, tc := BitVec.ofNat 3 tc, mirror := 0, voq := BitVec.ofNat 17 v,
                              eqValid := bit (word e 1) 17, eq := BitVec.ofNat 17 (wfld e 1 0 17) }
    if (s.queue v).isolated then refuse (s.refuseIso v tk k.len)
    else match s.judge v tk.colour.toNat t with
      | some r => refuse (s.refuseAt v tk k.len r)
      | none =>
        let marked := s.ecnMarks v t tk
        let tk := if marked then s.setCe t tk else tk
        let s := if marked then (s.bump bQAD 0x31 0 2 1).count bQAD 0x12 0 1 tk.attr else s
        let s := (s.chargeQ v (s.pktBufs k) (isOnDie k.head)).count bQAD 0x10 0 1 tk.attr
        (s.link v { k with owner := 1018, ticket := tk, mirrored := true, replica := false, port := none }).bump bEPP 0x10 0 4 1

/-- The enabled mirror session that a packet names (R328). -/
def Dev.session? (s : Dev) (m : Nat) : Option (List W32) :=
  let e := mget [0, 0] s.tbl.mirrors m
  if m != 0 && bit (word e 0) 31 then some e else none

/-- The next replica of a job (R325): entry `i` of its range. -/
def Dev.makeReplica (s : Dev) (j : ReplJob) (i : Nat) : Dev :=
  let e := mget [0, 0] s.tbl.pool (j.base + i)
  let ep := j.pkt.ticket.epoch.toNat
  if !bit (word e 0) 31 then s.freeOwner j.pkt.head i 4
  else
    let port := wfld e 0 17 8
    let len := wfld e 1 24 2
    let res := patch j.pkt.ticket.res (wfld e 1 26 5) (beBytes len (wfld e 1 0 24))
    let eq := if bit (word e 0) 30 then some (wfld e 0 0 17) else none
    let tk := { j.pkt.ticket with res := res }
    let k : Pkt := { j.pkt with owner := i, ticket := tk, replica := true, mirrored := false, port := some port, pend := none }
    let s := s.houseIn ep 1
    let (s, ok) := s.admitEgress k port (s.eqOf eq port tk.tc.toNat)
    if ok then s else (s.bump bEPP 0x10 0 3 1).freeCopy k 4

/-- The replication engine takes a waiting packet, class 0 first, and makes its local replicas (R325). -/
def Dev.localReplication (s : Dev) : Dev :=
  match (match s.tm.repl.find? fun j => j.pkt.ticket.tc == 0 with | some j => some j | none => s.tm.repl.head?) with
  | none => s
  | some j =>
    let s := { s with tm := { s.tm with repl := s.tm.repl.erase j } }
    match s.ptrBad j.pkt.head true with
    | some c => (s.badPtr j.pkt.head c 4).houseOut j.pkt.ticket.epoch.toNat 1
    | none =>
      let s := (List.range j.count).foldl (fun s i => s.makeReplica j i) s
      s.houseOut j.pkt.ticket.epoch.toNat 1

/-- The lanes and devices that a multicast packet's fabric copies take: owner, lane, FMC_ID (R323). -/
def Dev.mcSends (s : Dev) (k : Pkt) (e : List W32) : List (Nat × Nat) :=
  let h := k.ticket.pinOf
  if !bit (word e 0) 29 then []
  else if s.fabMode == 1 then [(1023, s.laneFor h none)]
  else if s.fabMode == 2 then
    ((List.range 5).filter fun j => bit (word e 0) (16 + j) && j != s.meshSelf).map fun j => (1019 + j, s.laneFor h (some j))
  else []

/-- A multicast packet at its dequeue commit (R323, R326); it has left its VOQ. -/
def Dev.multicast (s : Dev) (k : Pkt) : Dev :=
  match s.groupOf? k.ticket.group with
  | none => (s.replCount 0).freeCopy k 2
  | some e =>
    let sends := s.mcSends k e
    let n := if bit (word e 0) 30 then wfld e 1 20 11 else 0
    let mir := s.session? k.ticket.mirror.toNat
    let owners := List.range n ++ (if mir.isSome then [1018] else []) ++ sends.map Prod.fst
    let ep := k.ticket.epoch.toNat
    if owners.isEmpty then s.freeCopy k 2
    else
      let s := s.setOwners k.head owners true
      let s := match mir with | some m => s.mirrorCopy k m | none => s
      -- each fabric copy counts separately; the packet's own count goes to the replication engine, or ends
      let s := sends.foldl (fun s x => (s.houseIn ep 1).sendFabric x.2 1 0 (wfld e 0 0 16) { k with owner := x.1 } x.1 0) s
      if n == 0 then s.houseOut ep 1
      else
        let (s, ok) := s.replEnqueue k e
        if ok then s else (List.range n).foldl (fun s i => s.freeOwner k.head i 4) (s.houseOut ep 1)

/-! ### VOQ service (R276–R278, R305). -/

/-- The device that a VOQ's head packet goes to on the fabric, with its lane; none for packets that use no lane. -/
def Dev.sendLane (s : Dev) (k : Pkt) : Option (List Nat) :=
  if k.ticket.dkind == 0 && k.ticket.dstDev != s.devId then
    match s.meshFor k.ticket.dstDev with
    | some m => some [s.laneFor k.ticket.pinOf m]
    | none => some [320]
  else if k.ticket.dkind == 1 then
    (s.groupOf? k.ticket.group).map fun e => (s.mcSends k e).map Prod.snd
  else none

/-- The packet's data are read when its VOQ is served: it leaves for the fabric or for a ring. A local transfer, and local replicas, keep the chain where it lies (R22, R250 rule 1, R254). -/
def Dev.takesData (s : Dev) (v : Nat) (k : Pkt) : Bool :=
  k.ticket.dkind == 2 || v / 8 == s.rf Reg.SCH_HOST_VOQ_BASE 0 0 3 14 || (s.sendLane k).any fun l => !l.isEmpty

/-- A VOQ can be served now (R276, R277, R305). -/
def Dev.voqReady (s : Dev) (v : Nat) : Bool :=
  match (s.queue v).pkts.head? with
  | none => false
  | some k =>
    !(s.queue v).isolated && (!s.takesData v k || s.readable v k)
      && (match s.voqDest v with | some _ => decide (0 < mget 0 s.tm.credit v) | none => decide (0 < s.voqTokens v))
      && (match s.sendLane k with
          | some ls => ls.all fun l => s.laneTakes k.ticket.pinOf l (streamOf k.ticket.dkind.toNat k.ticket.tc.toNat)
          | none => true)

/-- The VOQ served next (R278): class 0 first, each in round robin by number. -/
def Dev.nextVoq (s : Dev) : Option (Nat × Bool) :=
  let ready := (s.tm.queues.map Prod.fst).filter fun q => decide (q < nQ) && s.voqReady q
  let class0 := ready.filter fun q => ((s.queue q).pkts.head?.map fun k => k.ticket.tc == 0) == some true
  let after (l : List Nat) (rr : Nat) : Option Nat := match l.find? fun q => decide (rr < q) with | some q => some q | none => l.head?
  match after class0 s.tm.rr0 with
  | some q => some (q, true)
  | none => (after ready s.tm.rr).map fun q => (q, false)

/-- Deliver a host packet to its receive ring (R38, R277, R379). -/
def Dev.toRing (s : Dev) (k : Pkt) : Dev := (s.rxPacket k.ticket.rxRing k.ticket s.devId k.frame).freeCopy k 6

/-- Where a packet that has left its VOQ goes. -/
def Dev.voqSend (s : Dev) (v : Nat) (k : Pkt) : Dev :=
  let hostBase := fld (s.rg Reg.SCH_HOST_VOQ_BASE 0 0) 3 14 * 8
  let mcBase := fld (s.rg Reg.SCH_MC_VOQ_BASE 0 0) 3 14 * 8
  let host := k.ticket.dkind == 2 || (decide (hostBase ≤ v) && decide (v < hostBase + 8))
  if !host && (k.ticket.dkind == 1 || (decide (mcBase ≤ v) && decide (v < mcBase + 8))) then s.multicast k
  else
    -- an original of one destination registers {0, 1,018} before its mirror copy is issued (R328)
    let s := match s.session? k.ticket.mirror.toNat with
      | some m => (s.setOwners k.head [0, 1018] false).mirrorCopy k m
      | none => s
    if host then s.toRing k
    else if k.ticket.dstDev == s.devId then
      let (s, ok) := s.admitEgress { k with fromFab := false } k.ticket.dstPort (s.eqOf k.ticket.eq? k.ticket.dstPort k.ticket.tc.toNat)
      if ok then s else s.freeCopy k 2
    else
      let cut := if k.whole then 0 else if cfgGbps (s.portCfg k.ticket.srcPort.toNat) == 100 then 1 else 2
      match s.meshFor k.ticket.dstDev with
      | some m => s.sendFabric (s.laneFor k.ticket.pinOf m) 0 k.ticket.dstDev 0 k k.owner cut
      | none => s.freeCopy k 2

/-- Serve a VOQ: dequeue commit, checks, counts and the way onward (R89, R254, R278, R439). `err`: 1 the packet's HBM data, 2 its link memory cannot be read. -/
def Dev.serveVoq (s : Dev) (v err : Nat) : Dev :=
  match (s.queue v).pkts.head? with
  | none => s
  | some k =>
    match s.ptrBad k.head true with
    | some c => s.badPtr k.head c 2
    | none =>
      if !isOnDie k.head && err == 2 then (s.hbmErr 1 2 (linkAddr k.head)).leakQ v
      else
        let cred := (s.voqDest v).isSome
        let (s, ok) := if s.quarantined k.ticket.epoch.toNat || !s.takesData v k then (s, true) else s.readPacket v k (err == 1)
        let s := if cred then { s with tm := { s.tm with credit := mset 0 s.tm.credit v (mget 0 s.tm.credit v - k.len) } } else s.chargeVoq v k.len
        let s := ((s.bump bSCH 0x11 v 0 1).bump bSCH 0x11 v 1 k.len).count bSCH 0x10 0 1 k.attr
        let s := s.statRange k.ticket.epoch.toNat 1 v k.len
        let s := (s.takeHead v).refreshShared
        if k.ticket.voq.toNat != v then s.misplaced v k
        else if s.quarantined k.ticket.epoch.toNat then (s.freeCopy k 2).countStale false
        else if !ok then s.freeCopy k 2
        else s.voqSend v k

/-- One VOQ service (R278). -/
def Dev.voqService (s : Dev) (err : Nat) : Dev :=
  if s.stopped then s
  else match s.nextVoq with
    | none => s
    | some (v, c0) => ({ s with tm := if c0 then { s.tm with rr0 := v } else { s.tm with rr := v } }).serveVoq v err

/-! ### Dequeue commit of egress queues (R254, R283–R285, R439). -/

/-- The egress scheduler selects a packet for port `p`. `err` as for VOQ service. -/
def Dev.dequeue (s : Dev) (p err : Nat) : Dev :=
  match s.choose p with
  | none => s
  | some y =>
    let q := nQ + y.queue
    match (y.dev.queue q).pkts.head? with
    | none => s
    | some k =>
      if !s.readable q k then s
      else match s.ptrBad k.head true with
        | some c => s.badPtr k.head c 2
        | none =>
          if !isOnDie k.head && err == 2 then (s.hbmErr 1 2 (linkAddr k.head)).leakQ q
          else
            let stale := s.quarantined k.ticket.epoch.toNat
            let (s, ok) := if stale then (y.dev, true) else y.dev.readPacket q k (err == 1)
            let s := (s.chargePath p k.len y.path).count bSCH 0x10 0 1 { tc := some k.ticket.tc.toNat, port := some p }
            let s := (s.takeHead q).refreshShared
            if k.eport != p then s.misplaced q k
            else if stale then (s.freeCopy k 2).countStale false
            else if !ok then s.freeCopy k 2
            else
              let s := s.freeOwner k.head k.owner 2
              { s with tm := { s.tm with toEgress := s.tm.toEgress ++
                  [{ port := p, queue := y.queue, ticket := k.ticket, frame := k.frame, since := s.cue.tickNo,
                     replica := k.replica, mirrored := k.mirrored, cut := k.cut != 0 || !k.whole, pend := k.pend }] } }

/-! ### Commands. -/

/-- DEQUEUE_COMMIT (R254): `err` 0 none, 1 the packet's HBM data, 2 its link memory cannot be read. -/
def execDequeueCommit (p : Fin 256) (err : Fin 3) (s : State) : Host.Outcome State Fault Refusal := s.on fun d => d.dequeue p err

/-- VOQ_SERVICE (R278). -/
def execVoqService (err : Fin 3) (s : State) : Host.Outcome State Fault Refusal := s.on fun d => d.voqService err

/-- CREDIT_GRANT (R279, R280). -/
def execCreditGrant (p : Fin 256) (s : State) : Host.Outcome State Fault Refusal := s.on fun d => d.creditGrant p

/-- LOCAL_REPLICATION (R325). -/
def execLocalReplication (s : State) : Host.Outcome State Fault Refusal := s.on fun d => d.localReplication

end Sys2Proof.Machine
end

