-- ==== Sys2Proof/Machine/Fabric.lean ====
section
/-! DEFINITION. The fabric interface: cells received and reassembled, control slots and messages, lanes, the pin table, device ID and FAB_CFG (chapter 13). -/
namespace Sys2Proof.Machine

/-! ### Reassembly (R298). -/

def Dev.ctxR (s : Dev) (key : Nat) : Option Reasm := (s.tm.reasm.find? fun e => e.1 == key).map Prod.snd
def Dev.setR (s : Dev) (key : Nat) (x : Reasm) : Dev := { s with tm := { s.tm with reasm := minsert s.tm.reasm key x } }

/-- Count a reassembly discard: 0 CRC or sequence, 1 timeout, 2 no context, 3 format mismatch (R316). -/
def Dev.reasmCount (s : Dev) (k : Nat) : Dev := (s.bump bFAB 3 0 k 1).event bFAB 6

/-- The partial packet of a context ends without a packet (R298): admission's part is released, and its place in the house count, which a decision passes on to admission. -/
def Dev.abandon (s : Dev) (key : Nat) : Dev :=
  match s.tm.arriving.find? fun a => a.key == some key with
  | some a => s.endArriving a
  | none => match (s.ctxR key).bind Reasm.counted with
    | some e => s.houseOut e 1
    | none => s

/-- Discard the partial packet of a context for cause `k`, if it holds one, and wait for the next start (R298). -/
def Dev.reasmDiscard (s : Dev) (key k : Nat) : Dev :=
  match s.ctxR key with
  | none => s
  | some x =>
    let s := (s.abandon key).setR key { seq := x.seq, skip := true }
    if x.active then s.reasmCount k else s

/-- A packet received from the fabric is dropped before any decision: a straggler, or foreign (R89). -/
def Dev.fabStale (s : Dev) (e : Nat) : Option Bool :=
  if s.quarantined e then some false
  else if e != s.epochNow && s.retiring != some e then some true
  else none

/-- Fabric receive may cut the packet through (R311). -/
def Dev.cutReceive (s : Dev) (ct port e : Nat) : Bool :=
  let r := cfgGbps (s.portCfg port)
  ct != 0 && (s.queue (nQ + e)).pkts.isEmpty && s.portIdle port && decide (r ≤ (if ct == 1 then 100 else 192))

/-- Decide a unicast packet at its first cell (R257): answers whether it goes on. -/
def Dev.fabUnicast (s : Dev) (key : Nat) (x : Reasm) (k : Ticket) : Dev × Bool :=
  let port := k.dstPort
  let e := s.eqOf k.eq? port k.tc.toNat
  let frame := x.bytes.drop s.xsize
  let len := lenOf k frame
  if !s.attached e port || s.portDiscards port then ((s.portDownDiscard (nQ + e) k len).houseOut k.epoch.toNat 1, false)
  else
    let bytes := if k.frameLen == 0 then x.bytes.length else s.xsize + k.frameLen.toNat - 4
    match s.decideNew s.cue.tickNo (nQ + e) k frame bytes true true (some key) 0 with
    | (s, none) => (s, false)
    | (s, some a) =>
      if !a.noBuffer && s.cutReceive x.ct port e then
        let a' := { a with pkt := { a.pkt with pend := some key, cut := x.ct } }
        ((s.setArriving a (some a')).linkEarly a', true)
      else (s, true)

/-- Decide a multicast packet: its chain is taken on-die and charged to MC_POOL (R250, R257, R263). -/
def Dev.fabMulticast (s : Dev) (key : Nat) (x : Reasm) (k : Ticket) : Dev × Bool :=
  let free := s.onDieFree
  if !(if k.tc == 0 then decide (0 < free) else decide (s.urgentRsv < free)) then
    (((s.countRefuse .onDieFull).count bQAD 0x11 0 1 k.attr).houseOut k.epoch.toNat 1, false)
  else
    let bytes := if k.frameLen == 0 then x.bytes.length else s.xsize + k.frameLen.toNat - 4
    match s.takeFor k.tc.toNat (bufsFor bytes) none with
    | none => ((s.bump bQAD 0x31 0 1 1).houseOut k.epoch.toNat 1, false)
    | some (bufs, s) =>
      let s := ((s.addChain bufs [0]).count bBPM 0x10 0 1 { tc := some k.tc.toNat }).chargeShared (bufs.headD noHead)
      let a : Arriving := { pkt := { head := bufs.headD noHead, owner := 0, ticket := k, frame := [], fromFab := true, whole := false },
                            queue := 2 * nQ, good := true, marked := false, noBuffer := false, key := some key }
      ({ s with tm := { s.tm with arriving := s.tm.arriving ++ [a] } }, true)

/-- The source device of a reassembly context. -/
def ctxSrc (key : Nat) : Nat := key / 2048

/-- A multicast packet is whole (R324–R326): its own, or one of a group that is invalid or not local here, is discarded; else its owners are registered and it waits for replication. -/
def Dev.fabReplicate (s : Dev) (a : Arriving) : Dev :=
  if (a.key.map ctxSrc) == some s.devId then (s.replCount 1).freeCopy a.pkt 0
  else match (s.groupOf? a.pkt.ticket.group).filter fun e => bit (word e 0) 30 with
    | none => (s.replCount 0).freeCopy a.pkt 0
    | some e =>
      let n := wfld e 1 20 11
      let s := s.setOwners a.pkt.head (List.range n) true
      let (s, ok) := s.replEnqueue { a.pkt with whole := true } e
      if ok then s else (List.range n).foldl (fun s i => s.freeOwner a.pkt.head i 4) (s.houseOut a.pkt.ticket.epoch.toNat 1)

/-- A packet of a context is complete: `bs` are its crossing bytes, `bad` its END cell's BAD bit (R298). -/
def Dev.reasmFinish (s : Dev) (key : Nat) (bs : List Byte) (bad : Bool) : Dev :=
  if bad then ((s.abandon key).bump bFAB 5 0 2 1).event bFAB 6
  else match s.tm.arriving.find? fun a => a.key == some key with
    | none => s
    | some a =>
      let frame := bs.drop s.xsize
      let len := frame.length + 4
      if a.queue == 2 * nQ then
        match s.takeFor a.pkt.ticket.tc.toNat (bufsFor bs.length - s.pktBufs a.pkt) none, s.chain? a.pkt.head with
        | some (bufs, s), some c =>
          let s := (s.setArriving a none).addBufs a.pkt.head c bufs
          s.fabReplicate { a with pkt := { a.pkt with frame := frame, ticket := { a.pkt.ticket with frameLen := BitVec.ofNat 14 len } } }
        | _, _ => (s.endArriving a).bump bQAD 0x31 0 1 1
      else
        -- a packet cut through that has left its egress queue needs no more buffers
        let gone := a.linked && (s.earlyAt a.pkt.head).isNone
        let (s, ok) := if gone then (s, true) else if a.noBuffer then (s, false) else s.extendChain a.queue a.pkt.ticket.tc.toNat a.pkt.head bs.length
        let b := { a with noBuffer := !ok, pkt := { a.pkt with frame := frame } }
        ((s.setArriving a (some b)).commitArriving b).refreshShared

/-- What the header of a cell says (R296). -/
structure CellHdr where
  kind : Nat
  start : Option Nat
  src : Nat
  ct : Nat
  xs : Nat
  endc : Bool
  bad : Bool
  deriving DecidableEq, Repr

/-- The partial packet's first byte has its epoch: the copy counts from its first cell (R86). -/
def Dev.countFirst (s : Dev) (key : Nat) (x : Reasm) : Dev × Reasm :=
  match x.counted, x.bytes with
  | none, b :: _ =>
    let e := b.toNat / 16
    let x := { x with counted := some e }
    ((s.houseIn e 1).setR key x, x)
  | _, _ => (s, x)

/-- Decide the packet of a context once its ticket is there (R89, R257): the context, whether admission refused it. -/
def Dev.decideCell (s : Dev) (key kind : Nat) (x : Reasm) (k : Ticket) : Dev × Reasm :=
  if x.decided then (s, x)
  else
    let (s, ok) := match s.fabStale k.epoch.toNat with
      | some foreign => ((s.countStale foreign).houseOut k.epoch.toNat 1, false)
      | none => if kind == 0 then s.fabUnicast key x k else s.fabMulticast key x k
    (s, { x with decided := true, refused := !ok, counted := none })

/-- Work off the bytes of a context: count, decide, complete, begin the next packet (R297, R298); `ct` is the cell's code while no packet has started in the cell, and `fuel` bounds the packets of one cell. -/
def Dev.reasmWork (s : Dev) (key : Nat) (h : CellHdr) (ct : Nat) : Nat → Dev
  | 0 => s
  | fuel + 1 =>
    match s.ctxR key with
    | none => s
    | some x =>
      let (s, x) := s.countFirst key x
      if x.bytes.isEmpty then s.setR key { seq := x.seq }
      else if x.xs != (s.xsize - 32) / 8 then (((s.abandon key).setR key { seq := x.seq, skip := true })).reasmCount 3
      else if x.bytes.length < s.xsize then if h.endc then s.reasmDiscard key 0 else s
      else
        let k := ticketOf s.carried x.bytes
        let (s, x) := s.decideCell key h.kind x k
        let s := s.setR key x
        let total := s.xsize + k.frameLen.toNat - 4
        if k.frameLen == 0 then
          if h.endc then
            let s := if x.refused then s else s.reasmFinish key x.bytes h.bad
            s.setR key { seq := x.seq }
          else if s.xsize + 9596 < x.bytes.length then s.reasmDiscard key 0
          else s
        else if x.bytes.length < total then if h.endc then s.reasmDiscard key 0 else s
        else if h.endc && x.bytes.length == total then s.reasmDiscard key 0
        else
          let s := if x.refused then s else s.reasmFinish key (x.bytes.take total) false
          let rest := x.bytes.drop total
          let s := s.setR key { seq := x.seq, active := !rest.isEmpty, bytes := rest, xs := h.xs, ct := ct }
          s.reasmWork key h 0 fuel

/-- The lane's receive buffer after a cell: how many cells it holds is not stated, so the count is a free value of at most 64. LFC is set at 32 and cleared below 16, and the lane's control slots then say so (R301, log entry 128). -/
def Dev.rxBuffer (s : Dev) (lane : Nat) : Dev :=
  let (v, s) := s.fresh
  let n := v.toNat % 65
  let was := s.tm.lfcSet.contains lane
  let on := decide (32 ≤ n) || (was && decide (16 ≤ n))
  let s := { s with tm := { s.tm with rxHeld := mset 0 s.tm.rxHeld lane n,
                                      lfcSet := if on then addKey s.tm.lfcSet lane else delKey s.tm.lfcSet lane } }
  if on == was then s else s.emit (.ctrlSlot lane (s.ctrlHdr lane))

/-- The header of a cell (R296). -/
def cellHdrOf (w0 w1 w2 : W32) : CellHdr :=
  { kind := fld w0 28 2, start := if bit w0 24 then some (fld w0 16 8) else none, src := fld w1 18 14, ct := fld w2 18 3,
    xs := fld w2 21 3, endc := bit w2 16, bad := bit w2 17 }

/-- The reassembly context of a cell: source device, source lane and stream (R298). -/
def cellKey (w0 w1 : W32) : Nat := (fld w1 18 14 * 512 + fld w1 9 9) * 4 + streamOf (fld w0 28 2) (fld w0 25 3)

/-- A cell whose CRC holds meets its context (R297, R298). -/
def Dev.cellTaken (s : Dev) (key seq : Nat) (h : CellHdr) (data : List Byte) : Dev :=
  -- a gap in SEQ ends a partial packet, and the stream waits for a start
  let s := match s.ctxR key with
    | some x => if (x.seq + 1) % 256 == seq then s else s.reasmDiscard key 0
    | none => s
  let x := { (s.ctxR key).getD { seq := seq, skip := true } with seq := seq }
  if x.skip || !x.active then
    match h.start with
    | none => s.setR key { x with skip := true }
    | some o =>
      -- a packet begins in this cell
      if 65536 ≤ (s.tm.reasm.filter fun e => e.2.active).length then (s.setR key { seq := seq, skip := true }).reasmCount 2
      else (s.setR key { seq := seq, active := true, bytes := data.drop o, ct := h.ct, xs := h.xs }).reasmWork key h 0 300
  else (s.setR key { x with bytes := x.bytes ++ data }).reasmWork key h h.ct 300

/-- A cell arrives on a lane: its header words and its payload bytes (R296, R298, R301). -/
def Dev.cellReceive (s : Dev) (lane : Nat) (w0 w1 w2 crc : W32) (payload : List Byte) : Dev :=
  if !s.variant.hasFab || s.stopped then s
  else
    let s := (s.bump bFAB 2 lane 1 1).rxBuffer lane
    let data := slice payload 0 (fld w1 0 9)
    if fld w0 30 2 == 0 then s
    else if fld w0 30 2 != 1 || 2 ≤ fld w0 28 2 then s.reasmCount 3
    else if crc32c (([w0, w1, w2].flatMap fun w => beBytes 4 w.toNat) ++ data) != crc then
      (s.bump bFAB 2 lane 2 1).reasmDiscard (cellKey w0 w1) 0
    else s.cellTaken (cellKey w0 w1) (fld w2 24 8) (cellHdrOf w0 w1 w2) data

/-! ### Control slots and messages (R300–R304, R310). -/

/-- A lane may enter service (R303): a fabric mode is set, its region, domain and unit are in service. -/
def Dev.mayServe (s : Dev) (l : Nat) : Bool :=
  s.fabMode != 0 && !s.tIso (l / 160) && !s.stopped && s.pdOn (28 + l / 160) && !s.int.units.contains (laneUnit l).code.toNat

/-- The lane that a held entry of a failed lane takes at quiet (R310): ALT, or the first in service above it, in mesh mode within the group of the failed lane, whose one destination that group is (log entry 129). -/
def Dev.altLane (s : Dev) (e : PinEnt) : Option Nat :=
  if s.laneUp e.alt && e.alt < 320 then some e.alt
  else if s.fabMode == 2 then
    ((List.range 64).map fun i => e.lane / 64 * 64 + (e.alt + 1 + i) % 64).find? fun l => s.laneUp l
  else ((List.range 320).map fun i => (e.alt + 1 + i) % 320).find? fun l => s.laneUp l

/-- A held entry is quiet: it takes its new lane, or its ALT lane (R307, R310). -/
def Dev.pinQuiet (s : Dev) (h : Nat) : Dev :=
  let e := s.pin h
  if !e.held || e.inflight != 0 then s
  else match e.target with
    | some l => (s.setPin h { e with lane := l, held := false, target := none }).event bFAB 1
    | none => match s.altLane e with
      | some l => s.setPin h { e with lane := l, held := false }
      | none => s

/-- The words of a message of type `mtype` (R302). -/
def msgWords (mtype dst src w2 w3 : Nat) (chunk : Nat := 0) : List W32 :=
  [at_ 28 4 mtype ||| at_ 0 14 dst, at_ 18 14 src ||| at_ 0 8 chunk, w32 w2, w32 w3]

/-- The four words of a message that device `src` sends to device `dst` (R302). -/
def FabMsg.words (m : FabMsg) (dst src : Nat) : List W32 :=
  match m with
  | .request v on p tc => msgWords 1 dst src (at_ 0 17 v ||| at_ 17 8 p ||| at_ 25 3 tc ||| atB 31 on).toNat 0
  | .grant v p => msgWords 2 dst src (at_ 0 17 v ||| at_ 17 8 p).toNat 0
  | .revoke v p => msgWords 3 dst src (at_ 0 17 v ||| at_ 17 8 p).toNat 0

/-- The reachability message with which a mesh member names itself (R302, R314). -/
def Dev.selfMap (s : Dev) : List W32 :=
  let m := 2 ^ (s.devId % 64)
  msgWords 4 0 s.devId (m / 2 ^ 32) m (s.devId / 64)

/-- A lane comes into service: its control slots are READY, and in a mesh its first reachability message names this device. -/
def Dev.laneInService (s : Dev) (l : Nat) : Dev :=
  if s.laneUp l || !s.mayServe l then s
  else
    let s := s.wg Reg.FAB_LANE_INSVC 0 (l / 32) (setBit (s.rg Reg.FAB_LANE_INSVC 0 (l / 32)) (l % 32) true)
    let s := { s with tm := { s.tm with badSlots := merase s.tm.badSlots l } }.emit (.ctrlSlot l (s.ctrlHdr l))
    let s := if s.fabMode == 2 then s.emit (.reachMsg l s.selfMap) else s
    let waiting := (s.tm.pins.filter fun e => e.2.held && e.2.target.isNone && e.2.inflight == 0).map Prod.fst
    (waiting.foldl (fun s h => s.pinQuiet h) s).refreshReach

/-- A request message for port `p` (R302). -/
def Dev.requestMsg (s : Dev) (p dev voq tc : Nat) (on : Bool) : Dev :=
  let g := s.gen p
  let rest := g.remote.filter fun r => !(r.dev == dev && r.voq == voq)
  if on then s.setGen p { g with remote := rest ++ [{ dev := dev, voq := voq, tc := tc, seen := s.cue.localNs }] }
  else s.setGen p { g with remote := rest, issued := g.issued.filter fun e => e != (dev, voq) }

/-- A reachability message on a lane (R303). -/
def Dev.reachMsg (s : Dev) (l c : Nat) (map : W64) : Dev :=
  if !s.variant.hasFab then s
  else ({ s with tm := { s.tm with maps := mset 0#64 s.tm.maps (l * 256 + c) map } }).refreshReach

/-- The effect of a message on this device (R302). A message for another device is none of its business; types 5 to 15 are discarded and counted with the discarded control slots (log entry 129). -/
def Dev.message (s : Dev) (l : Nat) (m : List W32) : Dev :=
  let ty := wfld m 0 28 4
  let src := wfld m 1 18 14
  let voq := wfld m 2 0 17
  if ty == 0 then s
  else if 5 ≤ ty then s.bump bFAB 2 l 3 1
  else if ty == 4 then s.reachMsg l (wfld m 1 0 8) (word m 2 ++ word m 3)
  else if wfld m 0 0 14 != s.devId then s
  else if ty == 1 then s.requestMsg (wfld m 2 17 8) src voq (wfld m 2 25 3) (bit (word m 2) 31)
  else if ty == 2 then s.takeGrant voq
  else s.revokeVoq voq

/-- The control slot's CRC-32C holds, over header bytes 0–11 and the 256 message bytes, and its TYPE is 0xC (R300). -/
def slotOk (w0 w1 w2 crc : W32) (msgs : List W32) : Bool :=
  crc32c (([w0, w1, w2] ++ msgs).flatMap fun w => beBytes 4 w.toNat) == crc && fld w0 28 4 == 0xC

/-- A control slot is missing or fails its CRC: the third in a row takes the lane out of service (R310). -/
def Dev.slotLost (s : Dev) (l : Nat) : Dev :=
  let n := mget 0 s.tm.badSlots l + 1
  let s := { s with tm := { s.tm with badSlots := mset 0 s.tm.badSlots l n } }
  if 3 ≤ n then s.laneFail l else s

/-- A control slot: its header words, and its sixteen messages of four words (R300–R302, R310). -/
def Dev.controlSlot (s : Dev) (l : Nat) (w0 w1 w2 crc : W32) (msgs : List W32) : Dev :=
  if !s.variant.hasFab then s
  else if !slotOk w0 w1 w2 crc msgs then
    (s.bump bFAB 2 l 3 1).slotLost l
  else
    let s := { s with tm := { s.tm with badSlots := merase s.tm.badSlots l, lfc := mset 0 s.tm.lfc l (fld w0 0 4) } }
    let s := if bit w1 0 then s else s.laneFail l
    (List.range 16).foldl (fun s i => s.message l ((msgs.drop (4 * i)).take 4)) s

/-! ### Pin moves (R305–R309). -/

/-- Apply pin-move record `r` (R307, R308): answers whether it was accepted. -/
def Dev.pinMove (s : Dev) (r : Nat) : Dev × Bool :=
  let w := word (s.obj bFAB 0x10 r) 0
  let h := fld w 0 12
  let l := fld w 16 9
  let e := s.pin h
  if fld w 25 7 != 0 || fld w 12 4 != 0 || 320 ≤ l || !s.laneUp l || l == e.lane || e.held then (s.event bFAB 3, false)
  else (s.setPin h { e with held := true, target := some l }, true)

/-! ### Commands. -/

/-- CELL_RECEIVE (R296–R298): the four header words and the payload bytes. -/
def execCellReceive (l : Fin 320) (w0 w1 w2 w3 : W32) (payload : List Byte) (s : State) : Host.Outcome State Fault Refusal :=
  s.on fun d => d.cellReceive l w0 w1 w2 w3 payload

/-- REASSEMBLY_TIMEOUT (R298): no cell of the context for REASM_US. -/
def execReassemblyTimeout (src : BitVec 14) (lane : BitVec 9) (stream : Fin 4) (s : State) : Host.Outcome State Fault Refusal :=
  s.on fun d =>
    let key := (src.toNat * 512 + lane.toNat) * 4 + stream
    match d.ctxR key with
    | some x => if x.active then d.reasmDiscard key 1 else d
    | none => d

/-- CONTROL_SLOT_RECEIVE (R300–R302, R310): the header, its CRC word and the 64 words of its messages. -/
def execControlSlotReceive (l : Fin 320) (h : SlotHdr) (crc : W32) (msgs : List W32) (s : State) : Host.Outcome State Fault Refusal :=
  s.on fun d => d.controlSlot l h.w0 h.w1 h.w2 crc msgs

/-- REQUEST (R302). -/
def execRequest (p : Fin 256) (dev : BitVec 14) (voq : BitVec 17) (tc : Fin 8) (on : Bool) (s : State) : Host.Outcome State Fault Refusal :=
  s.on fun d => d.requestMsg p dev.toNat voq.toNat tc on

/-- GRANT (R302): one QUANTUM for a VOQ. -/
def execGrant (voq : BitVec 17) (s : State) : Host.Outcome State Fault Refusal := s.on fun d => d.takeGrant voq.toNat

/-- REVOKE (R281, R302). -/
def execRevoke (voq : BitVec 17) (s : State) : Host.Outcome State Fault Refusal := s.on fun d => d.revokeVoq voq.toNat

/-- REACHABILITY (R303). -/
def execReachability (l : Fin 320) (chunk : Byte) (map : W64) (s : State) : Host.Outcome State Fault Refusal :=
  s.on fun d => d.reachMsg l chunk.toNat map

/-- REQUEST_REFRESH (R302): a non-empty VOQ sends ON 1 again. -/
def execRequestRefresh (voq : BitVec 17) (s : State) : Host.Outcome State Fault Refusal :=
  s.on fun d => if (d.queue voq.toNat).pkts.isEmpty then d else d.sendRequest voq.toNat true

/-- REQUESTER_TIMEOUT (R302). -/
def execRequesterTimeout (p : Fin 256) (dev : BitVec 14) (voq : BitVec 17) (s : State) : Host.Outcome State Fault Refusal :=
  s.on fun d => d.setGen p { d.gen p with remote := (d.gen p).remote.filter fun r => !(r.dev == dev.toNat && r.voq == voq.toNat) }

/-- REACHABILITY_MAP_EXPIRY (R303). -/
def execReachabilityMapExpiry (l : Fin 320) (chunk : Byte) (s : State) : Host.Outcome State Fault Refusal :=
  s.on fun d => ({ d with tm := { d.tm with maps := merase d.tm.maps (l * 256 + chunk.toNat) } }).refreshReach

/-- FABRIC_LANE_FAILURE (R310): the causes that the lane's own receiver finds; a control slot that arrives, and a domain that switches off, are commands of their own. -/
def execFabricLaneFailure (l : Fin 320) (why : LaneLoss) (s : State) : Host.Outcome State Fault Refusal :=
  s.on fun d => match why with
    | .lock | .highSer => d.laneFail l
    | .missedSlot => if d.variant.hasFab then d.slotLost l else d

/-- FABRIC_LANE_IN_SERVICE (R303). -/
def execFabricLaneInService (l : Fin 320) (s : State) : Host.Outcome State Fault Refusal := s.on fun d => d.laneInService l

/-- PIN_HOLD_EXPIRY (R86, R306): HOLD_US after the last cell of the oldest packet of an entry. -/
def execPinHoldExpiry (h : Fin 4096) (s : State) : Host.Outcome State Fault Refusal :=
  s.on fun d =>
    match d.tm.holds.find? fun x => x.entry == h.val with
    | none => d
    | some x =>
      let d := { d with tm := { d.tm with holds := d.tm.holds.erase x } }
      let d := d.setPin h { d.pin h with inflight := (d.pin h).inflight - 1 }
      (d.houseFabOut x.epoch 1).houseOut x.epoch 1

/-- PIN_ENTRY_QUIET (R307, R310). -/
def execPinEntryQuiet (h : Fin 4096) (s : State) : Host.Outcome State Fault Refusal := s.on fun d => d.pinQuiet h

/-- PIN_MOVE_TIMEOUT (R307): the move is abandoned. -/
def execPinMoveTimeout (h : Fin 4096) (s : State) : Host.Outcome State Fault Refusal :=
  s.on fun d =>
    let e := d.pin h
    if e.held && e.target.isSome && e.inflight != 0 then (d.setPin h { e with held := false, target := none }).event bFAB 2 else d

/-- FAB_PIN_MOVE (R308): the record applies at the next tick. -/
def execFabPinMove (q : Req) (record : BitVec 12) (go : Bool) (s : State) : Host.Outcome State Fault Refusal :=
  s.on fun d => d.gateWrite q Reg.FAB_PIN_MOVE 0 0 fun d _ =>
    if go then { d with tm := { d.tm with moveReq := d.tm.moveReq ++ [record.toNat] } } else d

/-- FAB_PIN_FORCE (R309): LANE at once; a lane above 319 does not exist and is not taken. -/
def execFabPinForce (q : Req) (entry : BitVec 12) (lane : BitVec 9) (go : Bool) (s : State) : Host.Outcome State Fault Refusal :=
  s.on fun d => d.gateKw q Reg.FAB_PIN_FORCE 0 0 fun d =>
    let d := d.wg Reg.FAB_PIN_FORCE 0 0 (at_ 0 12 entry.toNat ||| at_ 16 9 lane.toNat ||| atB 31 go)
    if go && lane.toNat < 320 then d.setPin entry.toNat { d.pin entry.toNat with lane := lane.toNat } else d

/-- DEVICE_ID_WRITE (R312): no effect but event 4 while FAB_CFG.MODE is nonzero. -/
def execDeviceIdWrite (q : Req) (id : BitVec 14) (s : State) : Host.Outcome State Fault Refusal :=
  s.on fun d => d.gateKw q Reg.TOP_DEVICE_ID 0 0 fun d =>
    if d.rf Reg.FAB_CFG 0 0 0 2 == 1 || d.rf Reg.FAB_CFG 0 0 0 2 == 2 then d.event bFAB 4 else d.wg Reg.TOP_DEVICE_ID 0 0 (at_ 0 14 id.toNat)

/-- FAB_CFG_WRITE (R312): discarded with event 4 while a lane is in service. -/
def execFabCfgWrite (q : Req) (v : W32) (s : State) : Host.Outcome State Fault Refusal :=
  s.on fun d => d.gateWrite q Reg.FAB_CFG 0 0 fun d _ =>
    if d.anyLane then d.event bFAB 4 else d.storeRw Reg.FAB_CFG 0 0 v

end Sys2Proof.Machine
end

