-- ==== Sys2Proof/Machine/Otn.lean ====
section
/-! DEFINITION. The OTN line framer (chapter 06): alignment, defects, trail traces, payload type and structure, BIP-8, and the channel records. -/
namespace Sys2Proof.Machine

/-- Detected and declared defects of a port. -/
def Dev.raw (s : Dev) (p : Nat) : W32 := s.pRg Reg.OTF_DEFECT_RAW p
def Dev.setRaw (s : Dev) (p i : Nat) (b : Bool) : Dev := s.pWg Reg.OTF_DEFECT_RAW p (setBit (s.raw p) i b)

/-- N and M of a layer: 0 lanes and FlexO, 1 FAS, 2 MFAS; 0 acts as 1 (R133). -/
def Dev.alignN (s : Dev) (p k : Nat) : Nat := max 1 (s.pRf Reg.OTF_ALIGN_CFG p (8 * k) 3)
def Dev.alignM (s : Dev) (p k : Nat) : Nat := max 1 (s.pRf Reg.OTF_ALIGN_CFG p (8 * k + 4) 4)

/-- The rank of defect bit `i` (R137). -/
def defRank (i : Nat) : Nat := if i < 6 then i + 1 else if i < 9 then 7 else if i == 9 then 8 else if i < 12 then 9 else 10

/-- A defect of rank at most `r` is detected (R138). -/
def Dev.rankUpTo (s : Dev) (p r : Nat) : Bool := (List.range 14).any fun i => decide (defRank i ≤ r) && bit (s.raw p) i

/-- The declared defects: detected, with none of higher rank detected (R136). -/
def declaredOf (raw : W32) : W32 :=
  (List.range 14).foldl (fun w i =>
    if bit raw i && !((List.range 14).any fun j => decide (defRank j < defRank i) && bit raw j) then setBit w i true else w) 0

/-- The consequent actions in force: port-down, SM BDI, PM BDI (R137). -/
def Dev.otnDown (s : Dev) (p : Nat) : Bool :=
  let d := s.pRg Reg.OTF_DEFECT p
  fld d 0 10 != 0 || (fld d 10 2 != 0 && bit (s.pRg Reg.OTF_OH_CFG p) 4)
def Dev.otnBdiSm (s : Dev) (p : Nat) : Bool :=
  let d := s.pRg Reg.OTF_DEFECT p
  fld d 0 6 != 0 || (bit d 10 && bit (s.pRg Reg.OTF_OH_CFG p) 4)

/-- Declare and clear defects after a change of what is detected (R136, R137). -/
def Dev.declare (s : Dev) (p : Nat) : Dev :=
  let old := s.pRg Reg.OTF_DEFECT p
  let new := declaredOf (s.raw p)
  let s := s.pWg Reg.OTF_DEFECT p new
  let s := s.eventIf ((new &&& ~~~old) != 0) bOTF 0
  -- one that a higher defect only suppresses has not cleared
  let s := s.eventIf ((old &&& ~~~new &&& ~~~s.raw p) != 0) bOTF 1
  -- a port-down action, and far-end BDI for the Rate Follow watch
  let s := if s.otnDown p then (if bit (s.port p).causes 6 then s else s.portDown p 6)
    else (s.setPort p { s.port p with causes := setBit (s.port p).causes 6 false }).signalFault p
  if fld (new &&& ~~~old) 12 2 != 0 then s.rfBdi p else s

/-! ### Hunts (R134, R135). -/

/-- Walk one frame period in stream order over the candidate phases and the matches: the candidates, the phases rejected, the phase confirmed.
A rejected phase comes again only after every other phase of the period has passed, and is then a phase like any other. -/
def huntWalk (n : Nat) (cands : List Cand) (matches_ : List Nat) : List Nat → List Cand × List Nat × Option Nat
  | [] => ([], [], none)
  | φ :: rest =>
    let here := matches_.contains φ
    match cands.find? fun c => c.phase == φ with
    | some c =>
      if here then
        if n ≤ c.hits + 1 then ([], [], some φ)
        else
          let (cs, ex, a) := huntWalk n cands matches_ rest
          ({ c with hits := c.hits + 1 } :: cs, ex, a)
      else
        let (cs, ex, a) := huntWalk n (cands.filter fun x => x.phase != φ) matches_ rest
        (cs, φ :: ex, a)
    | none =>
      if here && cands.length < 8 then
        let (cs, ex, a) := huntWalk n ({ phase := φ, hits := 0 } :: cands) matches_ rest
        ({ phase := φ, hits := 0 } :: cs, ex, a)
      else huntWalk n cands matches_ rest

/-- Insert into a rising list without repeats. -/
def insRise (a : Nat) : List Nat → List Nat
  | [] => [a]
  | b :: l => if a < b then a :: b :: l else if a == b then b :: l else b :: insRise a l

/-- One frame period of a layer whose pattern stands at `phases`: it hunts, or an aligned one judges its frame and is lost after `m` errored ones in a row. Answers the frame errored while aligned. A candidate that has already met a new N is confirmed at once. -/
def Hunt.frame (h : Hunt) (n m : Nat) (phases : List Nat) : Hunt × Bool :=
  match h.phase with
  | some φ =>
    if phases.contains φ then ({ phase := some φ }, false)
    else if m ≤ h.err + 1 then ({}, true)
    else ({ phase := some φ, err := h.err + 1 }, true)
  | none =>
    match h.cands.find? fun c => decide (n ≤ c.hits) with
    | some c => ({ phase := some c.phase }, false)
    | none =>
      match huntWalk n h.cands phases ((h.cands.map Cand.phase ++ phases).foldl (fun l a => insRise a l) []) with
      | (_, ex, some φ) => ({ phase := some φ, excluded := ex }, false)
      | (cs, ex, none) => ({ cands := cs, excluded := ex }, false)

/-- Multiframe alignment is lost: what is accepted in it starts anew (R137, R139, R141). -/
def OtfSt.loseMf (x : OtfSt) : OtfSt :=
  { x with mfLocked := false, ttiSm := {}, ttiPm := {}, ptLast := 0, ptTimes := 0, msiOk := none }

/-- FAS and MFAS alignment are lost: the layers below restart their hunts (R134, R137). -/
def OtfSt.loseFas (x : OtfSt) : OtfSt := { x.loseMf with fas := {}, mfErr := 0, mfGood := 0, bips := [] }

/-- No PT has been accepted since alignment (OTF_RX_PSI). -/
def Dev.ptLost (s : Dev) (p : Nat) : Dev := s.pWf Reg.OTF_RX_PSI p 8 1 0

/-- The lane and FlexO layers (R133–R135, R137): each lane hunts its own marker. -/
def Dev.otnLanes (s : Dev) (p : Nat) (f : OtuFrame) : Dev :=
  let w := cfgWidth (s.portCfg p)
  let s := if f.lockLost then s.lanesDark p
    else if f.lockHeld then (List.range w).foldl (fun s i => s.pWf Reg.LNP_LANE_STATUS (p + i) 0 1 1) s else s
  let los := if f.lockLost then true else if f.lockHeld then false else bit (s.raw p) 0
  let s := s.setRaw p 0 los
  let x := s.otf1 p
  let lanes := (List.range w).map fun i => ((x.lanes.getD i {}).frame (s.alignN p 0) (s.alignM p 0) (f.markers.getD i [])).1
  let s := s.bump bOTF 2 p 3 (lanes.foldl (fun n h => n + h.excluded.length) 0)
  let lol := bit (s.raw p) 1
  let lol' := !(lanes.all fun h => h.phase.isSome) || !f.skewOk
  let x := { x with lanes := lanes }
  -- a FlexO hunt starts when the lanes are aligned
  let s := s.setRaw p 1 lol'
  let s := if lol && !lol' then s.setRaw p 2 true else s
  if los || lol' then s.setOtf p { x with foGood := 0, foErr := 0 }
  else
    let step := f.omfi.toNat == (x.omfi + 1) % 256
    let lof := bit (s.raw p) 2
    let good := if step then x.foGood + 1 else 0
    let err := if step then 0 else x.foErr + 1
    let lof' := if lof then decide (good < s.alignN p 0) else decide (s.alignM p 0 ≤ err)
    let s := (s.setOtf p { x with omfi := f.omfi.toNat, foGood := good, foErr := err, gid := f.gid.toNat, pid := f.pid.toNat }).setRaw p 2 lof'
    if lof' then s else s.bump bOTF 2 p 2 f.crcErrors

/-- The FAS and MFAS layers (R133–R135). -/
def Dev.otnFrame (s : Dev) (p : Nat) (f : OtuFrame) : Dev :=
  let x := s.otf1 p
  if fld (s.raw p) 0 3 != 0 then (s.setOtf p x.loseFas).ptLost p
  else
    let (h, errored) := x.fas.frame (s.alignN p 1) (s.alignM p 1) f.phases
    let s := (s.bump bOTF 2 p 3 h.excluded.length).bump bOTF 2 p 0 errored.toNat
    match x.fas.phase, h.phase with
    | none, none => (s.setOtf p { x with fas := h }).setRaw p 3 true
    | none, some _ => (((s.setOtf p { x.loseFas with fas := h, mfas := f.mfas.toNat }).ptLost p).setRaw p 3 false).setRaw p 4 true
    | some _, none => ((s.setOtf p x.loseFas).ptLost p).setRaw p 3 true
    | some _, some _ =>
      let step := f.mfas.toNat == (x.mfas + 1) % 256
      let lom := bit (s.raw p) 4
      let good := if step then x.mfGood + 1 else 0
      let merr := if step then 0 else x.mfErr + 1
      let s := s.bump bOTF 2 p 1 (!step).toNat
      let lom' := if lom then decide (good < s.alignN p 2) else decide (s.alignM p 2 ≤ merr)
      let x := { x with fas := h, mfas := f.mfas.toNat, mfGood := good, mfErr := merr }
      if lom' then ((s.setOtf p x.loseMf).ptLost p).setRaw p 4 true else (s.setOtf p { x with mfLocked := true }).setRaw p 4 false

/-! ### Overhead of an aligned frame (R137–R142). -/

/-- A count of consecutive frames, and the detector it drives. -/
def runOf (b : Bool) (n : Nat) : Nat := if b then n + 1 else 0

/-- A trail-trace receiver takes one byte (R139): answers whether the accepted trace changed. A multiframe that breaks off ends the run. -/
def TtiRx.take (x : TtiRx) (mfas : Nat) (b : Byte) : TtiRx × Bool :=
  let x := if mfas % 64 == 0 && !x.cur.isEmpty then { x with last := [], times := 0 } else x
  let cur := if mfas % 64 == 0 then [b] else x.cur ++ [b]
  if mfas % 64 == 63 && cur.length == 64 then
    let times := if cur == x.last then x.times + 1 else 1
    if 3 ≤ times then ({ cur := [], last := cur, times := times, accepted := some cur }, x.accepted != some cur)
    else ({ x with cur := [], last := cur, times := times }, false)
  else if mfas % 64 == 63 then ({ x with cur := [], last := [], times := 0 }, false)
  else ({ x with cur := cur.take 64 }, false)

/-- The expected trace of object 0x10 (SM) or 0x11 (PM). -/
def Dev.expTti (s : Dev) (obj p : Nat) : List Byte := wordsBytes (s.obj bOTF obj (4 * p) ++ s.obj bOTF obj (4 * p + 1))

/-- TIM in a mode: no trace accepted, or the compared fields differ (R137, R139). -/
def timOf (mode : Nat) (acc : Option (List Byte)) (exp : List Byte) : Bool :=
  mode != 0 && (match acc with
    | none => true
    | some a => (mode % 2 == 1 && a.take 16 != exp.take 16) || (2 ≤ mode && slice a 16 16 != slice exp 16 16))

/-- Differing bits of two bytes. -/
def diffBits (a b : Byte) : Nat := (List.range 8).foldl (fun n i => n + (bit (a ^^^ b) i).toNat) 0

/-- Violations of each slice between computed and received BIP-8. -/
def bipDiff (comp : List Nat) (recv : List Byte) : List Nat :=
  (List.range comp.length).map fun i => diffBits (BitVec.ofNat 8 (comp.getD i 0)) (recv.getD i 0)

/-- A PT and an MSI decide PLM (R137, R142). -/
def Dev.plmOf (s : Dev) (p : Nat) : Bool :=
  let psi := s.pRg Reg.OTF_RX_PSI p
  let ptOk := bit psi 8 && fld psi 0 8 == s.pRf Reg.OTF_OH_CFG p 8 8
  let x := s.otf1 p
  if bit (s.raw p) 9 then !(ptOk && x.msiOk == some true) else !ptOk || x.msiOk == some false

/-- TIM and PLM as they stand now, whether or not a higher defect suppresses them (R136). -/
def Dev.otnJudge (s : Dev) (p : Nat) : Dev :=
  let x := s.otf1 p
  let oh := s.pRg Reg.OTF_OH_CFG p
  let s := s.setRaw p 9 (s.plmOf p)
  let s := s.setRaw p 10 (timOf (fld oh 0 2) x.ttiSm.accepted (s.expTti 0x10 p))
  s.setRaw p 11 (timOf (fld oh 2 2) x.ttiPm.accepted (s.expTti 0x11 p))

/-- The overhead of a frame received in FAS alignment. -/
def Dev.otnOverhead (s : Dev) (p : Nat) (f : OtuFrame) : Dev :=
  let x := s.otf1 p
  if x.fas.phase.isNone then s
  else
    let aisRun := runOf f.allOnes x.aisRun
    let aisOff := runOf (!f.allOnes) x.aisOff
    let ais := if bit (s.raw p) 5 then decide (aisOff < 3) else decide (3 ≤ aisRun)
    let st := f.stat.toNat
    let stRun := if st == x.stat then x.statRun + 1 else 1
    let bits := [(6, 7), (7, 6), (8, 5)]
    let active := bits.find? fun b => bit (s.raw p) b.1
    let stOff : Nat := match active with
      | some b => runOf (st != b.2) x.statOff
      | none => 0
    let s := s.setRaw p 5 ais
    let s := bits.foldl (fun s b =>
      if bit (s.raw p) b.1 then (if 3 ≤ stOff then s.setRaw p b.1 (st == b.2 && decide (3 ≤ stRun)) else s)
      else s.setRaw p b.1 (st == b.2 && decide (3 ≤ stRun))) s
    let smOn := runOf f.smBdi x.bdiSmOn
    let smOff := runOf (!f.smBdi) x.bdiSmOff
    let pmOn := runOf f.pmBdi x.bdiPmOn
    let pmOff := runOf (!f.pmBdi) x.bdiPmOff
    let s := s.setRaw p 12 (if bit (s.raw p) 12 then decide (smOff < 5) else decide (5 ≤ smOn))
    let s := s.setRaw p 13 (if bit (s.raw p) 13 then decide (pmOff < 5) else decide (5 ≤ pmOn))
    let x := { x with aisRun := aisRun, aisOff := aisOff, stat := st, statRun := stRun, statOff := stOff,
                      bdiSmOn := smOn, bdiSmOff := smOff, bdiPmOn := pmOn, bdiPmOff := pmOff }
    -- trail traces and payload type, in multiframe alignment
    let mf := f.mfas.toNat
    let (sm, chS) := if x.mfLocked then x.ttiSm.take mf f.smTti else (x.ttiSm, false)
    let (pm, chP) := if x.mfLocked then x.ttiPm.take mf f.pmTti else (x.ttiPm, false)
    let ptTimes := if x.mfLocked && mf == 0 then (if f.psi.toNat == x.ptLast then x.ptTimes + 1 else 1) else x.ptTimes
    let ptNew := x.mfLocked && mf == 0 && ptTimes == 3
    let x := { x with ttiSm := sm, ttiPm := pm, ptTimes := ptTimes, ptLast := if x.mfLocked && mf == 0 then f.psi.toNat else x.ptLast }
    let s := (s.setOtf p x).eventIf (chS || chP) bOTF 2
    if ptNew then (s.pWg Reg.OTF_RX_PSI p (256#32 ||| at_ 0 8 f.psi.toNat)).event bOTF 3 else s

/-- BIP-8 of each slice over its OPUC area (R140). -/
def bipOf (opuc : List (List Byte)) : List Nat := opuc.map fun b => (b.foldl (fun a c => a ^^^ c) (0 : Byte)).toNat

/-- BIP-8 and BEI of a frame received in FAS alignment: the counts, and the violations of each slice of two frames ago (R138, R140). Without alignment there is nothing to compare. -/
def Dev.otnBip (s : Dev) (p : Nat) (f : OtuFrame) : Dev × List Nat × List Nat :=
  let x := s.otf1 p
  let zero := List.replicate (cfgOtuN (s.portCfg p)) 0
  let ready := x.fas.phase.isSome && decide (2 ≤ x.bips.length)
  let smStop := s.rankUpTo p 6
  let pmStop := s.rankUpTo p 7
  let old := x.bips.getD 0 []
  let sm := if ready then bipDiff old f.smBip else zero
  let pm := if ready then bipDiff old f.pmBip else zero
  let sum (l : List Nat) : Nat := l.foldl (· + ·) 0
  let bei (l : List Nat) : Nat := sum (l.map fun v => if v ≤ 8 then v else 0)
  let add (s : Dev) (stop : Bool) (k n : Nat) : Dev := if stop then s else s.bump bOTF 1 p k n
  let s := add (add s smStop 0 (sum sm)) pmStop 2 (sum pm)
  let s := add (add s (smStop || bit (s.raw p) 12) 1 (bei f.smBei)) (pmStop || bit (s.raw p) 13) 3 (bei f.pmBei)
  let bips := if x.fas.phase.isSome then (x.bips ++ [bipOf f.opuc]).drop (if ready then 1 else 0) else []
  -- the violations of frame i are sent in frame i + 4; 0 while their counter is stopped
  let q := x.bei ++ [(sm, pm)]
  let head := if 3 ≤ q.length then q.headD (zero, zero) else (zero, zero)
  (s.setOtf p { x with bips := bips, bei := if 3 ≤ q.length then q.drop 1 else q }, if smStop then zero else head.1, if pmStop then zero else head.2)

/-! ### The transmit direction (R132, R140, R143, R144, R147). -/

/-- FORCE of a port, the byte of its maintenance signal, and the PM STAT sent (R143). -/
def Dev.otnForce (s : Dev) (p : Nat) : Nat := s.pRf Reg.OTF_OH_CFG p 24 2
def forceByte (n : Nat) : Byte := if n == 1 then 0xFF else if n == 2 then 0x66 else 0x55
def forceStat (n : Nat) : BitVec 3 := if n == 0 then 1 else if n == 1 then 7 else if n == 2 then 6 else 5

/-- The 66 bits of a block: its sync header above 64 bits of payload (IEEE 802.3). -/
def Block.bits : Block → Nat
  | .start b => ofLe (0x78 :: b) + 2 ^ 65
  | .data b => ofLe b + 2 ^ 64
  | .term b => ofLe ([0x87, 0x99, 0xAA, 0xB4, 0xCC, 0xD2, 0xE1, 0xFF].getD b.length 0xFF :: b) + 2 ^ 65
  | .idle => 0x1E + 2 ^ 65
  | .remoteFault => 0x200004B + 2 ^ 65

/-- The client blocks of the next frame (R137, R144): remote fault while a port-down action is in force, else those waiting, with idle blocks inserted until the slots are full. -/
def Dev.clientBlocks (s : Dev) (p : Nat) : List Block :=
  let x := s.otf1 p
  let n := Config.gmpBlocks (s.slotsOn p) x.txFrames
  if s.otnDown p then List.replicate n .remoteFault else x.txBlocks.take n ++ List.replicate (n - x.txBlocks.length) .idle

/-- What the ODUCn of the next frame carries, and its BIP-8 per slice: a maintenance signal repeats one byte over an even count of them. -/
def Dev.oduBody (s : Dev) (p : Nat) : OduBody × List Nat :=
  let n := cfgOtuN (s.portCfg p)
  let k := s.slotsOn p
  if s.otnForce p != 0 then (.pattern (forceByte (s.otnForce p)), List.replicate n 0)
  else
    let bs := s.clientBlocks p
    (.client k (20 * n - k) bs, bipOf (Config.gmpOpuc n k (bs.map Block.bits)))

/-- The byte of a transmitted trail trace in a frame: object 0x12 (SM) or 0x13 (PM). -/
def Dev.txTti (s : Dev) (obj p mfas : Nat) : Byte := (wordsBytes (s.obj bOTF obj (2 * p) ++ s.obj bOTF obj (2 * p + 1))).getD (mfas % 64) 0

/-- The bytes of each channel in the next frame: two of each GCC and `fcc` of the FCC, IDLE where a channel has none; those of a replaced ODUCn are its signal's and leave the buffers as they are (R143, R147). Answers the buffers that remain. -/
def Dev.channelsOut (s : Dev) (p fcc : Nat) : List (List Byte) × List (List Byte) :=
  let x := s.otf1 p
  let idle := BitVec.ofNat 8 (s.pRf Reg.OTF_GCC_CFG p 8 8)
  let want (c : Nat) : Nat := if c < 3 then 2 else fcc
  let gone (c : Nat) : Bool := s.otnForce p != 0 && (c == 1 || c == 2)
  let q (c : Nat) : List Byte := x.gccTx.getD c []
  ((List.range 4).map fun c => if gone c then List.replicate 2 (forceByte (s.otnForce p)) else (q c).take (want c) ++ List.replicate (want c - (q c).length) idle,
   (List.range 4).map fun c => if gone c then q c else (q c).drop (want c))

/-- The next frame of the transmit direction, with the BEI given (R132): in a maintenance signal every PM field but BDI and STAT is the signal's. -/
def Dev.otuNext (s : Dev) (p fcc : Nat) (beiSm beiPm : List Nat) : OtuSent :=
  let x := s.otf1 p
  let n := cfgOtuN (s.portCfg p)
  let force := s.otnForce p
  let b := forceByte force
  let pm {α : Type} (normal : α) (signal : α) : α := if force == 0 then normal else signal
  let bip := if 2 ≤ x.txBips.length then x.txBips.headD [] else List.replicate n 0
  let id := s.obj bOTF 0x21 p
  { omfi := BitVec.ofNat 8 x.txOmfi, gid := BitVec.ofNat 20 (wordN id 0), pids := (List.range (cfgWidth (s.portCfg p))).map fun i => BitVec.ofNat 8 (wordN id 1 + i),
    mfas := BitVec.ofNat 8 x.txMfas, smTti := s.txTti 0x12 p x.txMfas, smBip := bip, smBei := beiSm, smBdi := s.otnBdiSm p,
    pmTti := pm (s.txTti 0x13 p x.txMfas) b, pmBip := pm bip (List.replicate n b.toNat), pmBei := pm beiPm (List.replicate n (b.toNat / 16)),
    pmBdi := s.otnDown p, pmStat := forceStat force,
    pt := if x.txMfas % 256 == 0 then some (pm (BitVec.ofNat 8 (s.pRf Reg.OTF_OH_CFG p 16 8)) b) else none,
    slots := s.slotsTold p, gcc := (s.channelsOut p fcc).1, body := (s.oduBody p).1 }

/-- A frame of the transmit direction is sent, whatever the receive direction does; a port in a loopback does not put it on the line (R116). -/
def Dev.otnSend (s : Dev) (p fcc : Nat) (beiSm beiPm : List Nat) : Dev :=
  let x := s.otf1 p
  let f := s.otuNext p fcc beiSm beiPm
  let used := match f.body with | .client _ _ bs => if s.otnDown p then 0 else bs.length | .pattern _ => 0
  let t := s.setOtf p { x with txMfas := (x.txMfas + 1) % 256, txOmfi := (x.txOmfi + 1) % 256, txFrames := x.txFrames + 1,
                               txBips := (x.txBips ++ [(s.oduBody p).2]).drop (x.txBips.length - 1), txBlocks := x.txBlocks.drop used, gccTx := (s.channelsOut p fcc).2 }
  if s.loopNear p || s.loopFar p then t else t.emit (.otuFrame p f)

/-! ### Channel records (R145–R147). -/

/-- A channel's collection runs (R146). -/
def Dev.gccRuns (s : Dev) (p c : Nat) : Bool :=
  bit (s.pRg Reg.OTF_GCC_CFG p) c && !s.rankUpTo p 4
    && !((c == 1 || c == 2) && (bit (s.raw p) 5 || bit (s.raw p) 6))

/-- Collect the channel bytes of a frame (R146). -/
def Dev.gccCollect (s : Dev) (p : Nat) (f : OtuFrame) : Dev :=
  let x := s.otf1 p
  let rx := (List.range 4).map fun c =>
    let r := x.gccRx.getD c {}
    if s.gccRuns p c then
      { r with bytes := r.bytes ++ f.gcc.getD c [], mfas := r.mfas ++ (f.gcc.getD c []).map fun _ => f.mfas.toNat }
    else r
  s.setOtf p { x with gccRx := rx }

/-- One OTUC frame period of a FlexO port: a frame is received, and one is sent (R132–R147; log entry 28). -/
def Dev.otucFrame (s : Dev) (p : Nat) (f : OtuFrame) : Dev :=
  if !(s.portOn p && s.portMode p == 6) then s
  else
    let s := s.otnLanes p f
    let s := s.otnFrame p f
    let s := s.otnOverhead p f
    let s := (s.otnJudge p).declare p
    let s := if (s.otf1 p).fas.phase.isSome then s.gccCollect p f else s
    let (s, beiSm, beiPm) := s.otnBip p f
    s.otnSend p (f.gcc.getD 3 []).length beiSm beiPm

/-- A FlexO port starts its framer: every layer hunts, and no PT or MSI is accepted. -/
def Dev.otnStart (s : Dev) (p : Nat) : Dev :=
  ((s.setOtf p {}).pWg Reg.OTF_RX_PSI p 0).pWg Reg.OTF_DEFECT_RAW p 0x21E#32 |>.declare p

/-- A received multiplex structure identifier, identical through one whole multiframe, is accepted (R123, R142): `msi` is j when it allocates slots 0 to j − 1 to the port's ODUflex and no others. -/
def Dev.msiAccept (s : Dev) (p : Nat) (msi : Option Nat) : Dev :=
  let n := 20 * cfgOtuN (s.portCfg p)
  let ok := match msi with
    | some j => if s.portRf p then decide (10 ≤ j) && decide (j ≤ n) else j == n
    | none => false
  let s := s.setOtf p { s.otf1 p with msiOk := some ok }
  let s := if ok then s.rfRxSlots p (msi.getD 0) else s
  (s.otnJudge p).declare p

/-- A receive channel record closes (R146). -/
def Dev.gccClose (s : Dev) (p c : Nat) : Dev :=
  let x := s.otf1 p
  let r := x.gccRx.getD c {}
  if r.bytes.isEmpty || (r.bytes.length < 256 && s.gccRuns p c) then s
  else
    let body := r.bytes.take 256
    let hdr : List W32 := [at_ 0 8 p ||| at_ 8 2 c ||| atB 10 r.discont ||| at_ 16 9 body.length, at_ 0 8 (r.mfas.headD 0)]
    let data := wordsBytes hdr ++ body
    let ring := s.pRf Reg.OTF_GCC_RING p 0 9
    let fits := if s.ringState ring == 1 && s.mastering then descsFor (s.ring ring).desc 2 data.length else none
    let put (d : Bool) : OtfSt := { x with gccRx := x.gccRx.set c { bytes := r.bytes.drop 256, mfas := r.mfas.drop 256, discont := d } }
    match fits with
    | some n => (s.setOtf p (put false)).rxDeliver ring n 1 0 (List.replicate 7 0) data
    | none => (((s.setOtf p (put true)).bump bOTF 3 p 0 1).rxDrop ring).event bOTF 4

/-- The transmit record at the head of a ring, read as `words` (header) and `bytes` (R147). -/
def Dev.gccTx (s : Dev) (ring : Nat) (w0 w1 : W32) (bytes : List Byte) (descs : Nat) : Dev :=
  let p := fld w0 0 8
  let c := fld w0 8 2
  let len := fld w0 16 9
  let bad := !(s.portOn p && s.portMode p == 6) || s.pRf Reg.OTF_GCC_RING p 16 9 != ring || !bit (s.pRg Reg.OTF_GCC_CFG p) (4 + c)
    || len == 0 || 256 < len || fld w0 10 6 != 0 || fld w0 25 7 != 0 || w1 != 0
  let r := 512 + ring
  if s.ringState r != 1 || s.outstanding r < descs || !s.mastering then s
  else if bad then ((s.bump bOTF 3 p 1 1).event bOTF 4).ringAdvance r descs
  else
    let x := s.otf1 p
    let q := x.gccTx.getD c []
    if 512 < q.length + len then s
    else (s.setOtf p { x with gccTx := x.gccTx.set c (q ++ bytes.take len) }).ringAdvance r descs

/-! ### Commands. -/

/-- PSI_MULTIFRAME_BOUNDARY (R123, R126, R127, R142): of the transmit direction, or of the receive direction with the identifier received identically through the last whole multiframe, if there is one. -/
def execPsiMultiframeBoundary (p : Fin 256) (tx : Bool) (whole : Bool) (msi : Option (BitVec 9)) (s : State) : Host.Outcome State Fault Refusal :=
  s.on fun d =>
    if !(d.portOn p && d.portMode p == 6) then d
    else if tx then (d.setOtf p { d.otf1 p with txMfas := 0 }).rfTxBoundary p
    else if whole then d.msiAccept p (msi.map BitVec.toNat)
    else d

/-- OTUC_FRAME (R132–R143). -/
def execOtucFrame (p : Fin 256) (f : OtuFrame) (s : State) : Host.Outcome State Fault Refusal := s.on fun d => d.otucFrame p f

/-- GCC_RECORD_CLOSE (R146). -/
def execGccRecordClose (p : Fin 256) (c : Fin 4) (s : State) : Host.Outcome State Fault Refusal := s.on fun d => d.gccClose p c

/-- GCC_TX_RECORD (R147): the record at the head of transmit ring `ring`, in `descs` descriptors. -/
def execGccTxRecord (ring : Fin 512) (w0 w1 : W32) (bytes : List Byte) (descs : Fin 9) (s : State) : Host.Outcome State Fault Refusal :=
  s.on fun d => d.gccTx ring w0 w1 bytes descs

end Sys2Proof.Machine
end

