-- ==== Sys2Proof/Machine/RegMap.lean ====
section
/-! DEFINITION. The list of every register of BAR0 and the register that an offset names (R41–R44, R51). -/
namespace Sys2Proof.Machine

namespace Reg

/-- The registers of the common header (R51) and the counter selects (R454). -/
def header : List RegDesc :=
  [ID, CAPS, STROBE_MAP, WING_PEND, MBX_CMD, MBX_STATUS, MBX_INDEX, EVT_STATUS, EVT_MASK, EVT_RING]
    ++ (List.range 8).map MBX_DATA ++ (List.range 8).map PMC_SEL

/-- The ring registers (R377). -/
def rings : List RegDesc :=
  (List.range 4).flatMap fun k =>
    [DMA_BASE_LO k, DMA_BASE_HI k, DMA_WB_LO k, DMA_WB_HI k, DMA_CFG k, DMA_HOST_IDX k, DMA_DEV_IDX k, DMA_MOD k, DMA_DROP k]

/-- The registers outside the common header. -/
def plain : List RegDesc :=
  [TOP_UNLOCK, TOP_RESET, TOP_ERR_ADDR, TOP_ERR_INFO, TOP_ERR_COUNT, TOP_BOOT, TOP_FUSE_PROG, TOP_DEVICE_ID,
    PWR_PD_CTRL, PWR_PD_STATUS, PWR_PD_BUSY, PWR_PD_RESULT, PWR_THERM, PWR_TEMP, PWR_RAIL_STATUS,
    UPD_CMD, UPD_SRC_LO, UPD_SRC_HI, UPD_LEN, UPD_STATUS, UPD_SLOTS, UPD_BOOT, UPD_FLOOR]
  ++ [HBM_PAGE_CFG, HBM_THERM, HBM_SCRUB, HBM_STACK_CTRL, HBM_STACK_STATUS,
    CUE_CTRL, CUE_STATUS, CUE_FREQ_ADJ, CUE_PHASE_ADJ, CUE_OSC_CHECK, CUE_SUBMIT_W, CUE_SUBMIT_CMD, CUE_SUBMIT_RESULT,
    CUE_STROBE_FIRE, CUE_STROBE_BUSY, CUE_STROBE_REFUSED, CUE_EPOCH, CUE_EPOCH_CMD, CUE_RETAIN, CUE_STRAGGLER,
    TAB_CTRL, TAB_TRIGGER, TAB_STATUS, TAB_REFUSED]
  ++ [PBK_LOAD_CTRL, PBK_STAGE_ADDR_LO, PBK_STAGE_ADDR_HI, PBK_CMD, PBK_STATE, PBK_REASONS, PBK_SPLIT, PBK_DROP_NOBOOK, PBK_DROP_DRAIN,
    CCX_CALL, CCX_CALL_CMD, CCX_CALL_FORCE, CCX_HANDOVER, CCX_CC_STATUS, CCX_CTRL, CCX_FENCE,
    INT_CLASS_CFG, INT_ISO, INT_RELEASE, INT_PROBE_CTRL]
  ++ [LNP_RF_CTRL, LNP_RF_REQ, LNP_PORT_CFG, LNP_PORT_STATUS, LNP_RF_STATUS, LNP_RF_SETUP, LNP_LANE_CTRL, LNP_LANE_STATUS, LNP_LANE_PRBS_ERR,
    OTF_ALIGN_CFG, OTF_OH_CFG, OTF_GCC_CFG, OTF_GCC_RING, OTF_DEFECT, OTF_DEFECT_RAW, OTF_RX_PSI,
    LCI_LOAD_W, LCI_CLEAR_LOAD, LCI_WRAP_LOAD, LCI_CTX_CMD, LCI_CTX_STATUS, LCI_SWITCH_NOW, LCI_BYPASS, LCI_PORT_CFG, LCI_PORT_TX,
    LCI_CLUSTER_STATUS, LCI_CLUSTER_CTRL]
  ++ [IPP_HASH_SEED, IPP_PORT_CFG, IPP_PORT_MISS, IPP_PORT_FAIL, IPP_PRED_CTRL, IPP_PRED_STATUS, SPL_CFG,
    DVT_LINK_STATUS, DVT_CNT_CRC, DVT_CNT_REPLAY, DVT_CNT_RETRAIN, DVT_XSIZE,
    PCI_WIN_CTRL, PCI_WIN_BASE_LO, PCI_WIN_BASE_HI,
    CAG_CAGE_CFG, CAG_CAGE_CTRL, CAG_CAGE_STATUS, CAG_PRESENT, CAG_ATTN, CAG_I2C_CFG, CAG_I2C_CMD, CAG_I2C_STATUS]
  ++ [STA_CTRL, STA_TAB_FIRST, STA_TAB_COUNT, STA_STATUS, PMC_CTRL, PMC_USER, PMC_FC_SEL, PMC_FC_FILT, PMC_FC_REQ, PMC_FC_ADDR,
    BPM_HBM_REGION, BPM_CTRL, BPM_ONDIE_FREE, BPM_HBM_FREE, BPM_PREPULL_CFG, BPM_AUDIT_CTRL, BPM_AUDIT_STATUS,
    QAD_POOL_MIN, QAD_POOL_MAX, QAD_CTRL, QAD_SHARED, QAD_ECN_CFG, SCH_CREDIT_CFG, SCH_MC_VOQ_BASE, SCH_HOST_VOQ_BASE]
  ++ [FAB_CFG, FAB_MESH_PEER, FAB_PIN_CFG, FAB_PIN_MOVE, FAB_PIN_FORCE, FAB_LANE_INSVC, EPP_PORT_CFG,
    FIB_WATCH_CMD, FIB_WATCH_CFG, EXM_LRN_CFG, EXM_LRN_RATE, EXM_TBL_AGE, EXM_TBL_STATUS,
    ACS_THROTTLE, ACS_STATUS, ACS_STEP_CTRL, ACS_STEP_STATUS]
  ++ rings

end Reg

/-- The register at a normal-view offset, with its cluster and instance. -/
def regAt (a : Nat) : Option (RegDesc × Nat × Nat) :=
  let o := a % windowSize
  let b := a / windowSize
  if nBlocks ≤ b then none
  else if o < 0x100 || (0xF00 ≤ o && o < 0xF20) then
    (Reg.header.find? fun d => d.off == o).map fun d => (d, 0, b)
  else Reg.plain.findSome? fun d => (d.match? a).map fun x => (d, x)

end Sys2Proof.Machine
end

