-- ==== Sys2Proof/Machine/Settings.lean ====
section
/-! DEFINITION. The settings store, the boot record and the HBM host area as several chapters read and write them (R341–R344, R415–R418). -/
namespace Sys2Proof.Machine

/-! ### Settings records (R415, R416). -/

/-- The active settings store, oldest record first. -/
def Dev.settings (s : Dev) : List Setting := if s.upd.boot.settings == 0 then s.upd.store0 else s.upd.store1
def Dev.setSettings (s : Dev) (l : List Setting) : Dev :=
  if s.upd.boot.settings == 0 then { s with upd := { s.upd with store0 := l } } else { s with upd := { s.upd with store1 := l } }

/-- Two records have equal type, format and key. -/
def Setting.same (a b : Setting) : Bool := a.type == b.type && a.fmt == b.fmt && a.key == b.key

/-- The record of a type, format and key in force: the latest one whose tag holds (R415). -/
def findSetting (l : List Setting) (type fmt key : Nat) : Option Setting :=
  match l.reverse.find? fun r => r.type == type && r.fmt == fmt && r.key == key && !r.bad with
  | some r => if r.removal then none else some r
  | none => none
def Dev.setting? (s : Dev) (type fmt key : Nat) : Option Setting := findSetting s.settings type fmt key

/-- Bytes a record takes: four words, payload, tag, COMMIT, to the next multiple of 16. -/
def Setting.size (r : Setting) : Nat := (16 + r.data.length + 16 + 4 + 15) / 16 * 16

/-- The records that nothing supersedes and that hold something, oldest first. -/
def liveSettings : List Setting → List Setting
  | [] => []
  | r :: l => if r.bad || r.removal || l.any (fun x => x.same r && !x.bad) then liveSettings l else r :: liveSettings l

def totalSize (l : List Setting) : Nat := l.foldl (fun n r => n + r.size) 0

/-- Bytes appended within the last hour. -/
def Dev.appendedHour (s : Dev) : Nat :=
  (s.upd.appended.filter fun e => decide (s.cue.localNs < e.1 + 3600000000000)).foldl (fun n e => n + e.2) 0

/-- Append a record now. -/
def Dev.settingPut (s : Dev) (r : Setting) : Dev :=
  let l := s.settings
  let r := { r with seq := (l.getLast?.map fun x => x.seq + 1).getD 1 }
  let keep := s.upd.appended.filter fun e => decide (s.cue.localNs < e.1 + 3600000000000)
  let s := s.setSettings (l ++ [r])
  { s with upd := { s.upd with appended := keep ++ [(s.cue.localNs, r.size)] } }

/-- Write a record: refused when the live records would pass 1 MiB, waiting when the append rate is used up (R416); answers whether it was taken. -/
def Dev.settingWrite (s : Dev) (type fmt key : Nat) (data : List Byte) (removal : Bool) : Dev × Bool :=
  let r : Setting := { type := type, fmt := fmt, key := key, seq := 0, data := data, removal := removal }
  if !removal && 2 ^ 20 < totalSize (liveSettings (s.settings ++ s.upd.waiting ++ [r])) then (s, false)
  else if !s.upd.waiting.isEmpty || 2 ^ 20 < s.appendedHour + r.size then
    ({ s with upd := { s.upd with waiting := s.upd.waiting ++ [r] } }, true)
  else (s.settingPut r, true)

/-- Append the records that wait, oldest first, as far as the rate allows. -/
def Dev.settingDrain (s : Dev) : Nat → Dev
  | 0 => s
  | fuel + 1 =>
    match s.upd.waiting with
    | [] => s
    | r :: rest =>
      if 2 ^ 20 < s.appendedHour + r.size then s
      else (({ s with upd := { s.upd with waiting := rest } }).settingPut r).settingDrain fuel

/-- Compact the active store into the other one (R416, R417): live records; of type 4 those of the formats kept. -/
def Dev.settingCompact (s : Dev) : Dev :=
  let b := s.upd.boot
  let l := (liveSettings s.settings).filter fun r => r.type != 4 || r.fmt == b.fmtConfirmed || (b.fwTrial && r.fmt == b.fmtTrial)
  let l := (List.range l.length).zipWith (fun i (r : Setting) => { r with seq := i + 1 }) l
  let s := { s with upd := { s.upd with boot := { b with settings := 1 - b.settings, seq := b.seq + 1 } } }
  (s.setSettings l).event bUPD 5

/-- Commit a boot record (R418). -/
def Dev.bootCommit (s : Dev) (f : BootRec → BootRec) : Dev :=
  let b := f s.upd.boot
  { s with upd := { s.upd with boot := { b with seq := s.upd.boot.seq + 1 } } }

/-- Word 2 of a boot record. -/
def BootRec.word2 (b : BootRec) : W32 :=
  at_ 0 1 b.fwActive ||| at_ 1 1 b.fwTrialSlot ||| atB 2 b.fwTrial ||| at_ 3 3 b.fwAttempts
    ||| at_ 8 1 b.bookActive ||| at_ 9 1 b.bookTrialSlot ||| atB 10 b.bookTrial ||| at_ 11 3 b.bookAttempts ||| at_ 16 1 b.settings

/-- Words 0–4 of the boot record in force. -/
def BootRec.words (b : BootRec) : List W32 :=
  [0x54524F42#32, w32 b.seq, b.word2, at_ 0 16 b.fmtConfirmed ||| at_ 16 16 b.fmtTrial, 0]

/-! ### What the flash holds (R407–R409, R415, R418). -/

/-- The commit word of a stored structure, and the erased word (R408). -/
def commitWord : W32 := 0xA55A#32
def erasedWord : W32 := ones

/-- The flash address and size of slot `k`: firmware 0 and 1, Prompt Book 0 and 1 (R407). -/
def slotArea (k : Nat) : Nat × Nat := if k < 2 then (0x01000000 * (k + 1), 0x1000000) else (0x04000000 + 0x05000000 * (k - 2), 0x5000000)

/-- The flash address and size of the boot record area, settings stores 0 and 1, the crash log and the identity area (R407). -/
def bootArea : Nat × Nat := (0, 0x20000)
def storeArea (n : Nat) : Nat × Nat := (0x00020000 + 0x00400000 * n, 0x400000)
def crashArea : Nat × Nat := (0x00820000, 0x100000)
def identityArea : Nat × Nat := (0x00920000, 0x10000)

/-- The largest image of a slot: all of it but the trailer's sector. -/
def slotMax (k : Nat) : Nat := (slotArea k).2 - 0x10000

/-- The slot trailer, in the last sector of the slot (R409): an erased one where nothing is committed. -/
def FlashSlot.trailer (f : FlashSlot) : List W32 :=
  if !f.commit then List.replicate 19 erasedWord
  else [0x544F4C53#32, w32 f.kind, w32 f.image.length, w32 f.sec] ++ bytesWords 12 f.digest
    ++ [commitWord, if f.verified then 0x5AA5#32 else erasedWord, if f.invalid then 0 else erasedWord]

/-- The boot record's seven words (R418). -/
def BootRec.record (b : BootRec) : List W32 := b.words ++ [crc32c (wordsBytes b.words), commitWord]

/-- Words 0–3 of a settings record, and the initialisation vector of its payload in store `n` (R415). -/
def Setting.words (r : Setting) : List W32 := [at_ 0 16 r.type ||| at_ 16 16 r.fmt, w32 r.data.length, w32 r.seq, 0]
def Setting.iv (r : Setting) (n : Nat) : List Byte := wordsBytes [w32 n, w32 r.seq, 0]

/-- A settings record as store `n` holds it under the storage key, to the next multiple of 16 bytes (R415). -/
def Setting.record (r : Setting) (n : Nat) (key : List Byte) : List Byte :=
  let aad := wordsBytes r.words
  let cipher := Config.gcmEncrypt key (r.iv n) aad r.data
  aad ++ cipher ++ Config.gcmTag key (r.iv n) aad cipher ++ wordsBytes [commitWord]

/-! ### Trial firmware's settings (R417). -/

/-- Trial firmware that runs for the first time under another settings format appends the confirmed format's records, converted into its own. -/
def Dev.settingConvert (s : Dev) : Dev :=
  let b := s.upd.boot
  if !b.fwTrial || b.fmtTrial == b.fmtConfirmed || s.settings.any (fun r => r.type == 4 && r.fmt == b.fmtTrial) then s
  else ((liveSettings s.settings).filter fun r => r.type == 4 && r.fmt == b.fmtConfirmed).foldl
    (fun s r => (s.settingWrite 4 b.fmtTrial r.key (Config.convertSetting b.fmtConfirmed b.fmtTrial r.data) false).1) s

/-! ### The HBM host area (R341–R344, R347). -/

/-- The bytes `addr`, `len` lie wholly in the host area of one stack that is present (R344). -/
def Dev.inHostArea (s : Dev) (addr len : Nat) : Bool :=
  let k := addr / 2 ^ 34
  let lo := addr % 2 ^ 34
  let hi := lo + len
  let g := s.region k
  decide (k < 8) && s.variant.hasStack k && decide (hi ≤ 0x3C0000000)
    && (decide (hi ≤ g.1 * 256) || decide (g.2 * 256 ≤ lo) || g.1 == g.2)

/-- One byte of the HBM. -/
def Dev.hbmByte (s : Dev) (addr : Nat) : Byte :=
  match s.hbm.mem.find? fun (e : Host.Cell) => e.1 == addr with
  | some e => e.2
  | none => Config.hbmByte (mget 0 s.hbm.gen (addr / 2 ^ 34)) addr

/-- `len` bytes from `addr`. -/
def Dev.hbmBytes (s : Dev) (addr len : Nat) : List Byte := (List.range len).map fun i => s.hbmByte (addr + i)

/-- Set one byte of the HBM. -/
def Dev.setHbmByte (s : Dev) (addr : Nat) (b : Byte) : Dev := { s with hbm := { s.hbm with mem := minsert s.hbm.mem addr b } }

/-- Store bytes from `addr` on. -/
def Dev.hbmStore (s : Dev) (addr : Nat) : List Byte → Dev
  | [] => s
  | b :: bs => (s.setHbmByte addr b).hbmStore (addr + 1) bs

/-- The memory's canonical form: addresses strictly rising. -/
def Memory.wf (m : List Host.Cell) : Bool := sortedKeys m

end Sys2Proof.Machine
end

