-- ==== Sys2Proof/Machine/Hbm.lean ====
section
/-! DEFINITION. The HBM controllers (chapter 15): training, verification, tracking, banks and refresh, derating, the patrol. -/
namespace Sys2Proof.Machine

/-- The byte lane `l` of stack `k`. -/
def Dev.hlane (s : Dev) (k l : Nat) : HLane := mget {} s.hbm.lanes (k * 256 + l)
def Dev.setHlane (s : Dev) (k l : Nat) (x : HLane) : Dev := { s with hbm := { s.hbm with lanes := mset {} s.hbm.lanes (k * 256 + l) x } }

def HLane.narrow (x : HLane) : Bool := decide (x.rr.toNat < 24) || decide (x.wrr.toNat < 24)

/-- Set STATE of a stack. -/
def Dev.setStack (s : Dev) (k st : Nat) : Dev := (s.wf Reg.HBM_STACK_STATUS 0 k 0 3 st).recountHbm

/-- MIN_MARGIN shows the narrowest half-range of any lane. -/
def Dev.marginUpdate (s : Dev) (k : Nat) : Dev :=
  let m := (List.range 256).foldl (fun m l => min m (min (s.hlane k l).rr.toNat (s.hlane k l).wrr.toNat / 2)) 63
  s.wf Reg.HBM_STACK_STATUS 0 k 24 6 m

/-- Every bank of a stack is precharged (R347, R352). -/
def Dev.closeBanks (s : Dev) (k : Nat) : Dev := { s with hbm := { s.hbm with rows := s.hbm.rows.filter fun e => e.1 / 1024 != k } }

/-- The stack's contents become undefined (R347): the host area's bytes, the statistics' counts, the frames of packets that lie there, and, in stack 0, the cipher store, whose contexts then no longer unwrap (log entry 37). -/
def Dev.scramble (s : Dev) (k : Nat) : Dev :=
  let g := mget 0 s.hbm.gen k + 1
  let hurt (p : Pkt) : Pkt :=
    if !isOnDie p.head && p.head / 2 ^ 26 % 8 == k then
      { p with frame := (List.range p.frame.length).map fun i => Config.hbmByte g (ptrAddr p.head + i) } else p
  let s := { s with
    sta := { s.sta with hbm := s.sta.hbm.filter fun (e : Nat × (Nat × Nat)) => s.statAddr e.1 / 2 ^ 34 != k },
    hbm := { s.hbm with gen := mset 0 s.hbm.gen k g, mem := s.hbm.mem.filter fun (e : Host.Cell) => e.1 / 2 ^ 34 != k },
    tm := { s.tm with queues := s.tm.queues.map fun (e : Nat × Queue) => (e.1, { e.2 with pkts := e.2.pkts.map hurt }) } }
  if k == 0 then { s with lci := { s.lci with store := [] } } else s

/-- A stack begins a full sweep or a verification. -/
def Dev.beginTraining (s : Dev) (k st : Nat) : Dev := (s.scramble k).setStack k st

/-- The stored training record of stack `k`, when it names the stack's own die (R348, R415). -/
def Dev.trainRecord (s : Dev) (k : Nat) : Option (List Byte) :=
  match s.setting? 3 0 k with
  | some r => if r.data.take 8 == slice (Config.unitBytes (8 + k)) 0 8 && r.data.length == 528 then some (r.data.drop 16) else none
  | none => none

/-- The Lead writes the training record at READY when SAVE is 1 and the delays differ from the stored ones (R348, R415). -/
def Dev.saveTraining (s : Dev) (k : Nat) : Dev :=
  if !bit (s.rg Reg.HBM_STACK_CTRL 0 k) 16 || !s.leadRuns then s
  else
    let delays := (List.range 256).flatMap fun l => [(s.hlane k l).rd, (s.hlane k l).wr]
    if s.trainRecord k == some delays then s
    else (s.settingWrite 3 0 k (slice (Config.unitBytes (8 + k)) 0 8 ++ [BitVec.ofNat 8 k] ++ List.replicate 7 0 ++ delays) false).1

/-- Training or verification ends: READY, or FAILED when one of the lanes just swept has no usable eye (R347, R349). -/
def Dev.trainingEnds (s : Dev) (k : Nat) (bad : Bool) : Dev :=
  let s := (s.closeBanks k).marginUpdate k
  if bad then (s.setStack k 5).event bHBM 1
  else ((s.setStack k 4).event bHBM 0).saveTraining k

/-- OP 1 or 2 of HBM_STACK_CTRL (R346, R348): `full` for OP 2. -/
def Dev.stackTrain (s : Dev) (k : Nat) (full : Bool) : Dev :=
  let st := s.stackState k
  if st != 1 && st != 5 then s.event bHBM 1
  else s.beginTraining k (if !full && (s.trainRecord k).isSome then 3 else 2)

/-- OP 3 (R346). -/
def Dev.stackReset (s : Dev) (k : Nat) : Dev :=
  let st := s.stackState k
  if (st != 4 && st != 5) || s.spillEn then s.event bHBM 1 else s.setStack k 1

/-- A write of HBM_STACK_CTRL_s with an OP: SAVE is stored, then the OP acts. -/
def Dev.stackCtrl (s : Dev) (q : Req) (k : Nat) (save : Bool) (act : Dev → Dev) : Dev :=
  s.gateWrite q Reg.HBM_STACK_CTRL 0 k fun s _ => act (s.wf Reg.HBM_STACK_CTRL 0 k 16 1 save.toNat)

/-- A full sweep ends with the lanes `ls` (R347). -/
def Dev.sweepEnds (s : Dev) (k : Nat) (ls : List HLane) : Dev :=
  if s.stackState k != 2 then s
  else
    let s := (List.range 256).foldl (fun s l => s.setHlane k l (ls.getD l {})) s
    s.trainingEnds k ((List.range 256).any fun l => (s.hlane k l).narrow)

/-- Verification ends (R349): the pseudo-channels of `failing` were swept to the lanes `ls`; the others keep the stored delays, with the passing ranges of `ls`. -/
def Dev.verifyEnds (s : Dev) (k : Nat) (failing : BitVec 64) (ls : List HLane) : Dev :=
  if s.stackState k != 3 then s
  else
    let stored := (s.trainRecord k).getD []
    let s := (List.range 256).foldl (fun s l =>
      let x := ls.getD l {}
      s.setHlane k l (if bit failing (l / 4) then x else { x with rd := stored.getD (2 * l) 0, wr := stored.getD (2 * l + 1) 0 })) s
    let n := ((List.range 64).filter fun p => bit failing p).length
    let s := (s.wf Reg.HBM_STACK_STATUS 0 k 16 7 n).eventIf (n != 0) bHBM 2
    s.trainingEnds k ((List.range 256).any fun l => bit failing (l / 4) && (s.hlane k l).narrow)

/-- A delay moves by at most one step: `m` 0 down, 1 not at all, 2 up (R350). -/
def nudge (b : Byte) (m : Fin 3) : Byte := BitVec.ofNat 8 (min 127 (b.toNat + m.val - 1))

/-- The controller re-measures one lane (R350). -/
def Dev.track (s : Dev) (k l : Nat) (rd wr : Fin 3) (rr wrr : Byte) : Dev :=
  if s.stackState k != 4 then s
  else
    let x := s.hlane k l
    let y : HLane := { rd := nudge x.rd rd, wr := nudge x.wr wr, rr := rr, wrr := wrr }
    ((s.setHlane k l y).marginUpdate k).eventIf (y.narrow && !x.narrow) bHBM 1

/-- A bank is refreshed (R352, R354): it is precharged; `slip` − 8 intervals late. -/
def Dev.refresh (s : Dev) (k pc bank : Nat) (slip : Fin 17) : Dev :=
  if s.stackState k == 0 then s
  else
    let key := bankKey k pc bank
    let s := { s with hbm := { s.hbm with rows := merase s.hbm.rows key, owed := mset 0 s.hbm.owed key ((slip.val : Int) - 8) } }
    (s.bump bHBM 3 k 3 1).count bHBM 0x13 0 1

/-! ### Derating (R354). -/

def Dev.hbmT (s : Dev) (i : Nat) : Nat := s.rf Reg.HBM_THERM 0 0 (8 * (i - 1)) 8
def Dev.hbmHyst (s : Dev) : Nat := max 1 (s.rf Reg.HBM_THERM 0 0 24 4)

/-- The derate step becomes `n`: the limiters go on at the new rate with the tokens they have. -/
def Dev.setDerate (s : Dev) (n : Nat) : Dev :=
  let r0 := s.spillRate
  let old := s.derate
  let s := (List.range 8).foldl (fun s k => s.wf Reg.HBM_STACK_STATUS 0 k 4 2 n) s
  let r1 := s.spillRate
  let now := s.cue.localNs
  let s := { s with tm := { s.tm with spillB := settleBucket s.tm.spillB (some r0) spillSize (some r1) spillSize now,
                                      readB := settleBucket s.tm.readB (some r0) spillSize (some r1) spillSize now } }
  (s.eventIf (decide (old < n)) bHBM 5).eventIf (decide (n < old)) bHBM 6

/-- Readings in a row below the present step's threshold less HYST. -/
def Dev.hbmCool (s : Dev) (n : Nat) : Dev := { s with hbm := { s.hbm with cool := n } }

/-- The temperature readings of all stacks (R354): none for an invalid one. -/
def Dev.derateReading (s : Dev) (ts : List (Option Byte)) : Dev :=
  let ks := (List.range 8).filter fun k => s.variant.hasStack k
  let rd (k : Nat) : Option Nat := ((ts.getD k none).map BitVec.toNat)
  let old := s.derate
  let s : Dev := ks.foldl (fun (s : Dev) k =>
    match rd k with
    | some t => (({ s with hbm := { s.hbm with seen := addKey s.hbm.seen k } }).wf Reg.HBM_STACK_STATUS 0 k 6 1 1).wf Reg.HBM_STACK_STATUS 0 k 8 8 t
    | none => s.wf Reg.HBM_STACK_STATUS 0 k 6 1 0) s
  -- stacks that are too hot to take packets
  let tooHot (k : Nat) : Bool := match rd k with
    | some t => decide (s.hbmT 3 ≤ t) || (s.hbm.hot.contains k && decide (s.hbmT 3 ≤ t + s.hbmHyst))
    | none => s.hbm.hot.contains k
  let s : Dev := { s with hbm := { s.hbm with hot := ks.filter tooHot } }
  let top := ks.foldl (fun m k => max m ((rd k).getD 0)) 0
  let anyBad := ks.any fun k => (rd k).isNone
  let want := if s.hbmT 3 ≤ top then 3 else if s.hbmT 2 ≤ top then 2 else if s.hbmT 1 ≤ top then 1 else 0
  let up := max (if anyBad then 1 else 0) want
  if old < up then (s.hbmCool 0).setDerate up
  else if anyBad || old == 0 || decide (s.hbmT old ≤ top + s.hbmHyst) then (s.hbmCool 0).setDerate old
  else if s.hbm.cool + 1 < 10 then (s.hbmCool (s.hbm.cool + 1)).setDerate old
  else (s.hbmCool 0).setDerate (old - 1)

/-- HBM_THERM is written (R354). -/
def Dev.thermWrite (s : Dev) (v : W32) : Dev :=
  if fld v 0 8 < fld v 8 8 ∧ fld v 8 8 < fld v 16 8 then s.storeRw Reg.HBM_THERM 0 0 v else s.event bHBM 7

/-! ### The patrol (R355, R356). -/

/-- A patrol over the scrubbed areas of stack `k`: errors met, each its offset from 0x3_C000_0000, whether uncorrectable, its syndrome. -/
def Dev.patrol (s : Dev) (k : Nat) (errs : List (BitVec 30 × Bool × BitVec 16)) : Dev :=
  if !bit (s.rg Reg.HBM_SCRUB 0 0) 0 || !s.stackServes k then s
  else
    let base := k * 2 ^ 34 + 0x3C0000000
    let n := 0x30000000 / 32
    let s := ((s.bump bHBM 3 k 2 0x30000000).bump bHBM 1 k 2 n).count bHBM 0x10 0 n { addr := some base }
    let s := s.closeBanks k
    errs.foldl (fun s e =>
      let off := e.1.toNat / 32 * 32
      if 0x30000000 ≤ off then s
      else if e.2.1 then s.hbmErr 1 9 (base + off) (e.2.2.zeroExtend 32)
      else
        -- the corrected burst is written back
        let s := s.hbmErr 0 9 (base + off) (e.2.2.zeroExtend 32)
        (s.bump bHBM 1 k 3 1).bump bHBM 3 k 2 32) s

/-! ### Commands. -/

/-- HBM_TRAIN (R348): HBM_STACK_CTRL OP 1. -/
def execHbmTrain (q : Req) (k : Fin 8) (save : Bool) (s : State) : Host.Outcome State Fault Refusal :=
  s.on fun d => d.stackCtrl q k save fun d => d.stackTrain k false
/-- FULL_SWEEP (R347): OP 2. -/
def execFullSweep (q : Req) (k : Fin 8) (save : Bool) (s : State) : Host.Outcome State Fault Refusal :=
  s.on fun d => d.stackCtrl q k save fun d => d.stackTrain k true
/-- RETURN_TO_RESET (R346): OP 3. -/
def execReturnToReset (q : Req) (k : Fin 8) (save : Bool) (s : State) : Host.Outcome State Fault Refusal :=
  s.on fun d => d.stackCtrl q k save fun d => d.stackReset k
/-- TRAINING_COMPLETE (R347): the byte lanes as the sweep found them. -/
def execTrainingComplete (k : Fin 8) (lanes : List HLane) (s : State) : Host.Outcome State Fault Refusal := s.on fun d => d.sweepEnds k lanes
/-- VERIFICATION_COMPLETE (R349). -/
def execVerificationComplete (k : Fin 8) (failing : BitVec 64) (lanes : List HLane) (s : State) : Host.Outcome State Fault Refusal :=
  s.on fun d => d.verifyEnds k failing lanes
/-- TRACKING_MEASUREMENT (R350), of one byte lane. -/
def execTrackingMeasurement (k : Fin 8) (l : Fin 256) (rd wr : Fin 3) (rr wrr : Byte) (s : State) : Host.Outcome State Fault Refusal :=
  s.on fun d => d.track k l rd wr rr wrr
/-- BANK_IDLE_PRECHARGE (R352). -/
def execBankIdlePrecharge (k : Fin 8) (pc : Fin 64) (bank : Fin 16) (s : State) : Host.Outcome State Fault Refusal :=
  s.on fun d => { d with hbm := { d.hbm with rows := merase d.hbm.rows (bankKey k pc bank) } }
/-- REFRESH (R354). -/
def execRefresh (k : Fin 8) (pc : Fin 64) (bank : Fin 16) (slip : Fin 17) (s : State) : Host.Outcome State Fault Refusal :=
  s.on fun d => d.refresh k pc bank slip
/-- HBM_THERM_WRITE (R354). -/
def execHbmThermWrite (q : Req) (v : W32) (s : State) : Host.Outcome State Fault Refusal :=
  s.on fun d => d.gateWrite q Reg.HBM_THERM 0 0 fun d _ => d.thermWrite v
/-- PATROL_SCRUB (R356). -/
def execPatrolScrub (k : Fin 8) (errs : List (BitVec 30 × Bool × BitVec 16)) (s : State) : Host.Outcome State Fault Refusal :=
  s.on fun d => d.patrol k errs

end Sys2Proof.Machine
end

