-- ==== Sys2Proof/Machine/Host.lean ====
section
/-! DEFINITION. The host endpoint and its DMA rings (chapter 16): bus mastering, resets and loss of the host, peer windows, ring control, transmit packets, read completions. -/
namespace Sys2Proof.Machine

/-! ### Bus mastering and resets of the host interface (R367, R370–R373). -/

/-- Every running ring stops with STATE 2 (R370). -/
def Dev.stopRings (s : Dev) : Dev := s.runningRings.foldl (fun s r => s.ringStop r 2 0) s

/-- Reads are outstanding. -/
def Dev.readsOut (s : Dev) : Bool := s.rings.any fun e => e.2.reading != 0 || e.2.late != 0

/-- Bus Master Enable is cleared (R370). -/
def Dev.masterClear (s : Dev) : Dev :=
  let out := s.readsOut
  let s := { s with pci := { s.pci with busMaster := false } }
  s.stopRings.eventIf out bPCI 2

/-- Initiate Function Level Reset (R371): request issue stops. -/
def Dev.flrStart (s : Dev) : Dev :=
  if s.pci.flr then s else ({ s with pci := { s.pci with flr := true } }).stopRings

/-- The entries of a sparse store that lie outside the window of block `b`. -/
def outside {α : Type} (b : Nat) (m : List (Nat × α)) : List (Nat × α) := m.filter fun e => e.1 / windowSize != b

/-- The sticky registers of AER (R372). -/
def stickyCfg (m : List (Nat × W32)) : List (Nat × W32) := m.filter fun e => 0x104 ≤ e.1 && e.1 ≤ 0x128

/-- The host interface is reset (R372). PME_En and PME_Status are held in AON and stay (R368; log entry 41). -/
def Dev.hostReset (s : Dev) : Dev :=
  let s : Dev := { s with
    pci := { ({} : PciSt) with perst := s.pci.perst, released := s.pci.released, link := s.pci.link,
                               pmeEn := s.pci.pmeEn, pmeStatus := s.pci.pmeStatus, cfg := stickyCfg s.pci.cfg },
    regs := outside bDMA s.regs, wings := outside bDMA s.wings, rings := [],
    ctr := s.ctr.filter fun e => keyBlk (e.1 / 8) != bDMA,
    arming := s.arming.set .host false,
    mbx := s.mbx.filter fun e => !e.2.host && e.1 != bDMA }
  let s := (List.range 1120).foldl (fun s r => s.ringWg Reg.DMA_DEV_IDX r (at_ 16 3 4)) s
  let s := (List.range 16).foldl (fun (s : Dev) w =>
    (s.wf Reg.PCI_WIN_CTRL 0 w 0 1 0).setWing Reg.PCI_WIN_CTRL 0 w (setBit (s.wing Reg.PCI_WIN_CTRL 0 w) 0 false)) s
  -- MBX_STATUS.BUSY of operations that were abandoned
  let s := (List.range nBlocks).foldl (fun (s : Dev) b =>
    if s.rf Reg.MBX_STATUS 0 b 0 1 == 1 && !(s.mbx.any fun e => e.1 == b) then s.wf Reg.MBX_STATUS 0 b 0 1 0 else s) s
  s.wf Reg.PMC_USER 0 0 0 1 0

/-- The FLR completes (R371). -/
def Dev.flrDone (s : Dev) : Dev := if s.pci.flr then (s.hostReset).event bPCI 0 else s

/-- Loss of the host (R373). -/
def Dev.hostLoss (s : Dev) : Dev := (s.hostReset).event bPCI 1

/-- Entry to D3hot (R367). -/
def Dev.d3Enter (s : Dev) : Dev :=
  if s.pci.d3hot then s else ({ s with pci := { s.pci with d3hot := true } }).stopRings

/-- A cage event that can cause a PME (R368). In L2 the function is in D3cold or on its way there. -/
def Dev.pme (s : Dev) : Dev :=
  if s.pci.pmeEn && !s.pci.pmeStatus && (s.pci.d3hot || s.pci.link == 3 || s.pci.perst) then
    let s := { s with pci := { s.pci with pmeStatus := true } }
    if s.pci.link == 2 then s.emit .pmPme else if s.pci.link == 3 || s.pci.link == 0 then s.emit (.wakeN true) else s
  else s

/-! ### Peer windows (R374). -/

/-- Data cut at 64-byte boundaries of the address it is read from; `fuel` bounds the number of pieces. -/
def peerSplit : Nat → Nat → List Byte → List (List Byte)
  | 0, _, _ => []
  | fuel + 1, x, bs =>
    if bs.isEmpty then []
    else let n := 64 - x % 64
         bs.take n :: peerSplit fuel (x + n) (bs.drop n)

/-- A TLP on BAR2 at offset `o`: a read of `len` bytes, or a write of `data`; `err` says that the HBM burst it reads is uncorrectable (R355, R374). -/
def Dev.peerAccess (s : Dev) (o len : Nat) (write : Bool) (data : List Byte) (err : Bool) : Dev :=
  let w := o / 2 ^ 32
  let x := o % 2 ^ 32
  let len := if write then data.length else len
  let ctl := s.rg Reg.PCI_WIN_CTRL 0 w
  let k := fld ctl 2 6
  let refuse (s : Dev) : Dev := (s.emit .peerRefused).event bPCI 3
  if len == 0 then s
  else if s.hostShut .host || !s.bases then s.emit .peerRefused
  else if !bit ctl 0 || k < 12 || 32 < k then refuse s
  else if 2 ^ k < x + len then refuse s
  else if write && !bit ctl 1 then refuse s
  else
    let a := fld (s.rg Reg.PCI_WIN_BASE_LO 0 w) 12 20 * 4096 + fld (s.rg Reg.PCI_WIN_BASE_HI 0 w) 0 5 * 2 ^ 32 + x
    let req := if write then 7 else 6
    let fail (s : Dev) (cause : Nat) : Dev :=
      let s := s.hbmErr cause req a
      if write then s else s.emit .peerAbort
    if !s.inHostArea a len then (fail s 3).event bHBM 8
    else if !s.stackServes (a / 2 ^ 34) then fail s 2
    else if write then
      let partial_ := a % 32 != 0 || len % 32 != 0
      if partial_ && err then fail s 1 else (s.hbmWrite a len false (some (7, 0))).hbmStore a data
    else
      let s := s.hbmRead a len false (some (7, 0))
      if err then fail s 1 else (peerSplit len x (s.hbmBytes a len)).foldl (fun s d => s.emit (.peerData d)) s

/-! ### Ring control (R376–R378). -/

/-- EN 1 is written to a ring's CFG (R377). -/
def Dev.ringEnable (s : Dev) (r : Nat) (v : W32) : Dev :=
  let s := s.storeRw (Reg.DMA_CFG (Reg.ringKind r)) 0 (Reg.ringNum r) (setBit v 0 true)
  if s.ringState r == 1 then s
  else
    let pair (lo hi : Nat → RegDesc) : Nat := (s.ringRg lo r).toNat + 2 ^ 32 * (s.ringRg hi r).toNat
    let l := fld v 1 4
    let x : RingSt := { base := pair Reg.DMA_BASE_LO Reg.DMA_BASE_HI, wb := pair Reg.DMA_WB_LO Reg.DMA_WB_HI, log2 := if l < 6 then 6 else l, late := (s.ring r).late }
    ((s.setRing r x).ringWg Reg.DMA_HOST_IDX r 0).ringWg Reg.DMA_DEV_IDX r (at_ 16 3 1)

/-- EN 0 is written (R377). -/
def Dev.ringDisable (s : Dev) (r : Nat) (v : W32) : Dev :=
  let s := s.storeRw (Reg.DMA_CFG (Reg.ringKind r)) 0 (Reg.ringNum r) (setBit v 0 false)
  if s.ringState r == 1 then s.ringStop r 0 0 else s.ringWg Reg.DMA_DEV_IDX r (setFld (setFld (s.ringRg Reg.DMA_DEV_IDX r) 16 3 0) 20 4 0)

/-- HOST_IDX is written (R376). -/
def Dev.hostIdxWrite (s : Dev) (r : Nat) (v : W32) : Dev :=
  let s := s.ringWg Reg.DMA_HOST_IDX r (v &&& 0xFFFF#32)
  if s.ringState r != 1 then s
  else
    let n := if Reg.ringKind r == 2 then (s.devIdx r + 65536 - s.hostIdx r) % 65536 else s.outstanding r
    if 2 ^ (s.ring r).log2 < n then s.ringStop r 3 1
    else if Reg.ringKind r == 0 then s.rxFetch r else s

/-- The hold-off of a ring's interrupt has elapsed (R378). -/
def Dev.holdoff (s : Dev) (r : Nat) : Dev := if s.ringState r == 1 && (s.ring r).fresh != 0 then s.ringVector r else s

/-- The device has a read of the ring outstanding: descriptors of a receive ring, or an entry of a transmit or table-work ring. -/
def Dev.ringReads (s : Dev) (r : Nat) : Bool :=
  s.ringState r == 1 && (if Reg.ringKind r == 0 then (s.ring r).reading != 0 else Reg.ringKind r != 2 && s.outstanding r != 0)

/-- No read of the ring from before its latest stop is outstanding any more. -/
def Dev.ringSettled (s : Dev) (r : Nat) : Dev := s.setRing r { s.ring r with late := 0 }

/-- A read of the ring times out (R377): one from before its latest stop stops nothing. -/
def Dev.ringTimeout (s : Dev) (r : Nat) : Dev :=
  if (s.ring r).late != 0 then (s.ringSettled r).event bPCI 4
  else if s.ringReads r then ((s.ringStop r 3 3).ringSettled r).event bPCI 4 else s

/-- A receive descriptor is malformed (R379). -/
def rxDescBad (d : List W32) : Bool :=
  let len := wfld d 2 0 16
  len < 256 || 16384 < len || len % 64 != 0 || wfld d 2 16 16 != 0 || ((d.drop 3).any fun w => w != 0)

/-- Take fetched receive descriptors, oldest first (R379). -/
def Dev.rxTake (s : Dev) (r : Nat) : List (List W32) → Dev
  | [] => s
  | d :: ds =>
    if s.ringState r != 1 || (s.ring r).reading == 0 then s
    else if rxDescBad d then (s.setRing r { s.ring r with reading := (s.ring r).reading - 1 }).ringStop r 3 2
    else
      let x := s.ring r
      (s.setRing r { x with reading := x.reading - 1, desc := x.desc ++ [(wordN d 0 + 2 ^ 32 * wordN d 1, wfld d 2 0 16)] }).rxTake r ds

/-- A completion arrives for a read of a ring (R377): 0 successful, with the receive descriptors it brings; else UR, CA or poisoned. Reads complete in the order of their issue, so those from before the ring's latest stop are completed first, and what they bring is discarded (R370; log entry 131). -/
def Dev.ringCompletion (s : Dev) (r : Nat) (status : Nat) (descs : List (List W32)) : Dev :=
  let n := (s.ring r).late
  if n != 0 then (s.setRing r { s.ring r with late := if status == 0 then n - descs.length else 0 })
  else if !s.ringReads r then s
  else if status != 0 then (s.ringStop r 3 4).ringSettled r
  else if Reg.ringKind r == 0 then s.rxTake r descs else s

/-! ### Transmit packets (R380, R381). -/

/-- A transmit descriptor is malformed: `first` for the one at the head of a packet (R380). -/
def txDescBad (d : List W32) (first : Bool) : Bool :=
  let len := wfld d 2 0 16
  let dk := wfld d 3 0 2
  bit (word d 2) 16 != first || len == 0 || decide (16384 < len) || wfld d 2 18 14 != 0
    || (if first then
          decide (1 < dk) || wfld d 3 14 18 != 0 || wfld d 5 17 15 != 0
            || (if dk == 0 then wfld d 4 22 10 != 0 else wfld d 4 20 12 != 0)
        else (d.drop 3).any fun w => w != 0)

/-- The descriptors of the packet at a ring's head: none when malformed, `some none` when its EOP is not yet produced. -/
def txWalk : List (List W32) → Nat → Option (Option Nat)
  | [], _ => some none
  | d :: ds, i =>
    if 8 ≤ i || txDescBad d (i == 0) then none
    else if bit (word d 2) 17 then some (some (i + 1)) else txWalk ds (i + 1)

/-- The ticket of a transmit packet (R381); none without a VOQ. -/
def Dev.txTicket (s : Dev) (d : List W32) (len : Nat) : Option Ticket :=
  let dk := wfld d 3 0 2
  let tc := wfld d 3 2 3
  -- a system port is a device and a port (R24): DST_DEV and DST_PORT of R197
  let dst : W32 := if dk == 0 then at_ 10 22 (wfld d 4 0 22) else word d 4
  (s.voqFor s.cue.tickNo dk dst tc).map fun v =>
    { epoch := BitVec.ofNat 4 s.epochNow, tc := BitVec.ofNat 3 tc, dkind := BitVec.ofNat 2 dk, frameLen := BitVec.ofNat 14 (len + 4),
      dst := dst, eqValid := bit (word d 3) 5, eq := BitVec.ofNat 17 (wfld d 5 0 17), srcPort := BitVec.ofNat 8 (wfld d 3 6 8),
      voq := BitVec.ofNat 17 v, flowHash := word d 6, res := beBytes 4 (wordN d 7) ++ List.replicate 28 0 }

/-- The packet at the head of transmit ring `n`: its descriptors as read, its data in buffer order (R381). It reaches admission and is decided and committed at once: it is never cut through. -/
def Dev.transmitPacket (s : Dev) (n : Nat) (descs : List (List W32)) (data : List Byte) : Dev :=
  let r := 512 + n
  if s.ringState r != 1 || !s.mastering || s.stopped then s
  else match txWalk (descs.take (s.outstanding r)) 0 with
    | none => s.ringStop r 3 2
    | some none => s
    | some (some k) =>
      let ds := descs.take k
      let a : EvAttr := { req := some (ringReq r) }
      let s := (s.emit (.hostRead (s.slotAddr r (s.devIdx r) 32) (32 * k))).count bDMA 0x10 0 1 a
      let s := ds.foldl (fun (s : Dev) d => (s.emit (.hostRead (wordN d 0 + 2 ^ 32 * wordN d 1) (wfld d 2 0 16))).count bDMA 0x10 0 1 a) s
      let frame := slice data 0 (ds.foldl (fun m d => m + wfld d 2 0 16) 0)
      let s := s.ringAdvance r k
      if frame.length < 60 || 9596 < frame.length then
        (s.ringWg Reg.DMA_DROP r (w32 (sat32 ((s.ringRg Reg.DMA_DROP r).toNat + 1)))).event bDMA 4
      else
        let s := (s.bump bDMA 1 r 0 1).bump bDMA 1 r 1 frame.length
        match s.txTicket (ds.headD []) frame.length with
        | none => (s.bump bSCH 0x20 0 0 1).event bSCH 1
        | some t =>
          let s := s.houseIn s.epochNow 1
          let (s, x) := s.decideNew s.cue.tickNo t.voq.toNat t frame (s.stored frame) true false none 0
          match x with
          | none => s.refreshShared
          | some x => (s.commitArriving x).refreshShared

/-! ### Commands. -/

/-- PEER_WINDOW_ACCESS (R374): a write carries its data, a read its length. -/
def execPeerWindowAccess (o : BitVec 36) (len : Fin 4097) (write : Bool) (data : List Byte) (err : Bool) (s : State) : Host.Outcome State Fault Refusal :=
  s.on fun d => d.peerAccess o.toNat len write data err
/-- BUS_MASTER_ENABLE_CLEAR (R370). -/
def execBusMasterEnableClear (s : State) : Host.Outcome State Fault Refusal := s.on fun d => d.masterClear
/-- INITIATE_FUNCTION_LEVEL_RESET (R371). -/
def execInitiateFunctionLevelReset (s : State) : Host.Outcome State Fault Refusal := s.on fun d => d.flrStart
/-- FLR_RESET (R372). -/
def execFlrReset (s : State) : Host.Outcome State Fault Refusal := s.on fun d => d.flrDone
/-- D3HOT_ENTRY (R367). -/
def execD3hotEntry (s : State) : Host.Outcome State Fault Refusal := s.on fun d => d.d3Enter
/-- D0_RETURN (R367): state is kept, the rings stay stopped. -/
def execD0Return (s : State) : Host.Outcome State Fault Refusal := s.on fun d => { d with pci := { d.pci with d3hot := false } }
/-- PERST_N_ASSERT (R373): loss of the host after the first release. -/
def execPerstNAssert (s : State) : Host.Outcome State Fault Refusal :=
  s.on fun d =>
    let d := { d with pci := { d.pci with perst := true } }
    if d.pci.released then ({ d with pci := { d.pci with link := 0 } }).hostLoss else d
/-- LINK_LOSS (R373): from L0 or L1 to Detect, undirected. -/
def execLinkLoss (s : State) : Host.Outcome State Fault Refusal :=
  s.on fun d => if d.pci.link == 1 || d.pci.link == 2 then ({ d with pci := { d.pci with link := 0 } }).hostLoss else d
/-- RING_ENABLE (R377): a write of CFG with EN 1; rings in the common numbering of `Reg.ringKind`. -/
def execRingEnable (q : Req) (r : Fin 1120) (v : W32) (s : State) : Host.Outcome State Fault Refusal :=
  s.on fun d => d.gateWrite q (Reg.DMA_CFG (Reg.ringKind r)) 0 (Reg.ringNum r) fun d _ => d.ringEnable r v
/-- RING_DISABLE (R377): a write of CFG with EN 0. -/
def execRingDisable (q : Req) (r : Fin 1120) (v : W32) (s : State) : Host.Outcome State Fault Refusal :=
  s.on fun d => d.gateWrite q (Reg.DMA_CFG (Reg.ringKind r)) 0 (Reg.ringNum r) fun d _ => d.ringDisable r v
/-- HOST_IDX_WRITE (R376). -/
def execHostIdxWrite (q : Req) (r : Fin 1120) (v : W32) (s : State) : Host.Outcome State Fault Refusal :=
  s.on fun d => d.gateWrite q (Reg.DMA_HOST_IDX (Reg.ringKind r)) 0 (Reg.ringNum r) fun d _ => d.hostIdxWrite r v
/-- TRANSMIT_PACKET (R380, R381). -/
def execTransmitPacket (r : Fin 512) (descs : List (List W32)) (data : List Byte) (s : State) : Host.Outcome State Fault Refusal :=
  s.on fun d => d.transmitPacket r descs data
/-- INTERRUPT_HOLDOFF_EXPIRY (R378). -/
def execInterruptHoldoffExpiry (r : Fin 1120) (s : State) : Host.Outcome State Fault Refusal := s.on fun d => d.holdoff r
/-- RING_READ_TIMEOUT (R377). -/
def execRingReadTimeout (r : Fin 1120) (s : State) : Host.Outcome State Fault Refusal := s.on fun d => d.ringTimeout r
/-- RING_READ_COMPLETION (R377, R379): `status` 0 successful, 1 UR, 2 CA, 3 poisoned. -/
def execRingReadCompletion (r : Fin 1120) (status : Fin 4) (descs : List (List W32)) (s : State) : Host.Outcome State Fault Refusal :=
  s.on fun d => d.ringCompletion r status descs

end Sys2Proof.Machine
end

