-- ==== Sys2Proof/Machine/Cages.lean ====
section
/-! DEFINITION. The module cages and their I2C masters (R385–R390). -/
namespace Sys2Proof.Machine

def Dev.cageF (s : Dev) (c lo len : Nat) : Nat := s.rf Reg.CAG_CAGE_STATUS 0 c lo len
def Dev.cageSet (s : Dev) (c lo len v : Nat) : Dev := s.wf Reg.CAG_CAGE_STATUS 0 c lo len v
def Dev.pstate (s : Dev) (c : Nat) : Nat := s.cageF c 1 3

/-- The cage's power goes off (R386): CAGE_PWREN low, PSTATE `st`, FAULT `f`; its ports go down (R385). -/
def Dev.cageOff (s : Dev) (c st f : Nat) : Dev :=
  let was := s.pstate c
  let s := if was == 2 || was == 3 then s.emit (.cagePwren c false) else s
  let s := ((s.cageSet c 1 3 st).cageSet c 4 1 0)
  let s := if f == 0 then s else s.cageSet c 8 2 f
  let s := { s with cageWait := delKey s.cageWait c }
  if was == 3 then s.cageSweep else s

/-- PWR asks for power: a present cage that is off waits for the Lead (R386). A request clears the FAULT code of an earlier end (log entry 43). -/
def Dev.cageAsk (s : Dev) (c : Nat) : Dev :=
  if s.rf Reg.CAG_CAGE_CTRL 0 c 0 1 == 1 && s.cageF c 0 1 == 1 && s.pstate c == 0 then
    let s := (s.cageSet c 1 3 1).cageSet c 8 2 0
    { s with cageWait := delKey s.cageWait c ++ [c] }
  else s

/-- PWR is written (R386). -/
def Dev.cagePwr (s : Dev) (c : Nat) (on : Bool) : Dev :=
  let s := s.wf Reg.CAG_CAGE_CTRL 0 c 0 1 on.toNat
  if on then s.cageAsk c else if s.pstate c == 0 then s else s.cageOff c 0 0

/-- The Lead admits waiting cages, oldest first, while fewer than 4 ramp (R386). -/
def Dev.cageAdmit (s : Dev) : Nat → Dev
  | 0 => s
  | fuel + 1 =>
    match s.cageWait with
    | [] => s
    | c :: rest =>
      if 4 ≤ ((List.range 64).filter fun c => s.pstate c == 2).length then s
      else
        let s := { s with cageWait := rest }
        ((s.cageSet c 1 3 2).emit (.cagePwren c true)).cageAdmit fuel

/-- An I2C transaction of master `m` ends with a code (R389). -/
def Dev.i2cEnd (s : Dev) (m code : Nat) : Dev :=
  let s := s.wg Reg.CAG_I2C_STATUS 0 m (at_ 0 1 1 ||| at_ 4 4 code)
  let s := { s with i2c := mset {} s.i2c m {} }
  s.eventIf (code != 0) bCAG 5

/-- The transaction in progress of master `m`. -/
def Dev.i2cOf (s : Dev) (m : Nat) : I2cSt := mget {} s.i2c m

/-- GO on a master (R389). -/
def Dev.i2cGo (s : Dev) (m : Nat) (v : W32) : Dev :=
  let cage := fld v 19 6
  let wlen := fld v 7 6
  let rlen := fld v 13 6
  if (s.i2cOf m).busy then (s.wf Reg.CAG_I2C_STATUS 0 m 4 4 9).event bCAG 5
  else if (wlen == 0 && rlen == 0) || 32 < wlen || 32 < rlen then s.i2cEnd m 8
  else if s.rf Reg.CAG_CAGE_CFG 0 cage 12 4 != m then s.i2cEnd m 6
  else if s.cageF cage 0 1 == 0 || s.pstate cage != 3 then s.i2cEnd m 5
  else
    let s : Dev := { s with i2c := mset {} s.i2c m { busy := true, cmd := v } }
    let s := s.wg Reg.CAG_I2C_STATUS 0 m (at_ 1 1 1)
    s.i2cSend m cage (fld v 0 7) (slice (wordsBytes (s.obj bCAG 1 m)) 0 wlen) rlen

/-- The host's transaction on master `m` ends with `code`; a read that succeeds fills object 0x02 from its start. -/
def Dev.i2cFinish (s : Dev) (m code : Nat) (data : List Byte) : Dev :=
  let x := s.i2cOf m
  if !x.busy then s
  else
    let n := fld x.cmd 13 6
    let s := if code == 0 && n != 0 then
        s.setObj bCAG 2 m (bytesWords 8 (patch (wordsBytes (s.obj bCAG 2 m)) 0 (slice data 0 n))) else s
    s.i2cEnd m code

/-- A removal is declared (R387). -/
def Dev.cageRemove (s : Dev) (c : Nat) : Dev :=
  if s.cageF c 0 1 == 0 then s
  else
    let s := (s.wf Reg.CAG_CAGE_CTRL 0 c 0 1 0).cageSet c 0 1 0
    let s := (s.cageOff c 0 (if s.pstate c == 3 then 3 else 0)).cageSet c 6 1 1
    let s := (List.range 16).foldl (fun (s : Dev) m => if (s.i2cOf m).busy && fld (s.i2cOf m).cmd 19 6 == c then s.i2cEnd m 5 else s) s
    (s.event bCAG 1).pme

/-- An insertion is declared (R387). -/
def Dev.cageInsert (s : Dev) (c : Nat) : Dev :=
  if s.cageF c 0 1 == 1 then s
  else
    let s := (s.cageSet c 0 1 1).event bCAG 0
    let s := if bit (s.rg Reg.CAG_CAGE_CFG 0 c) 18 then s.wf Reg.CAG_CAGE_CTRL 0 c 0 1 1 else s
    (s.cageAsk c).pme

/-- A press is declared (R388). -/
def Dev.cagePress (s : Dev) (c : Nat) : Dev :=
  let s := (s.cageSet c 5 1 1).event bCAG 4
  (if bit (s.rg Reg.CAG_CAGE_CFG 0 c) 19 then s.cagePwr c false else s).pme

/-- CAGE_PG rises (R386). -/
def Dev.cageGood (s : Dev) (c : Nat) : Dev :=
  if s.pstate c == 2 then ((s.cageSet c 4 1 1).cageSet c 1 3 3).event bCAG 2
  else s.cageSet c 4 1 1

/-- PG_MS elapses while the cage ramps (R386). -/
def Dev.cagePgTimeout (s : Dev) (c : Nat) : Dev := if s.pstate c == 2 then (s.cageOff c 4 1).event bCAG 3 else s

/-- Power good is lost (R386). -/
def Dev.cagePgLoss (s : Dev) (c : Nat) : Dev :=
  if s.pstate c == 3 then (s.cageOff c 4 2).event bCAG 3 else s.cageSet c 4 1 0

/-- A write of CAG_CAGE_CTRL_c with PWR `on`: the indicators are stored and PWR acts. -/
def Dev.cageCtrl (s : Dev) (q : Req) (c : Nat) (v : W32) (on : Bool) : Dev :=
  s.gateWrite q Reg.CAG_CAGE_CTRL 0 c fun s _ => ((s.storeRw Reg.CAG_CAGE_CTRL 0 c (setBit v 0 on)).cagePwr c on)

/-! ### Commands. -/

/-- CAGE_REMOVAL (R387). -/
def execCageRemoval (c : Fin 64) (s : State) : Host.Outcome State Fault Refusal := s.on fun d => d.cageRemove c
/-- CAGE_INSERTION (R387). -/
def execCageInsertion (c : Fin 64) (s : State) : Host.Outcome State Fault Refusal := s.on fun d => d.cageInsert c
/-- ATTENTION_PRESS (R388). -/
def execAttentionPress (c : Fin 64) (s : State) : Host.Outcome State Fault Refusal := s.on fun d => d.cagePress c
/-- CAGE_POWER_REQUEST (R386): a write of CAG_CAGE_CTRL_c with PWR 1. -/
def execCagePowerRequest (q : Req) (c : Fin 64) (v : W32) (s : State) : Host.Outcome State Fault Refusal := s.on fun d => d.cageCtrl q c v true
/-- CAGE_POWER_OFF (R386): with PWR 0. -/
def execCagePowerOff (q : Req) (c : Fin 64) (v : W32) (s : State) : Host.Outcome State Fault Refusal := s.on fun d => d.cageCtrl q c v false
/-- CAGE_POWER_GOOD (R386). -/
def execCagePowerGood (c : Fin 64) (s : State) : Host.Outcome State Fault Refusal := s.on fun d => d.cageGood c
/-- CAGE_PG_TIMEOUT (R386). -/
def execCagePgTimeout (c : Fin 64) (s : State) : Host.Outcome State Fault Refusal := s.on fun d => d.cagePgTimeout c
/-- CAGE_PG_LOSS (R386). -/
def execCagePgLoss (c : Fin 64) (s : State) : Host.Outcome State Fault Refusal := s.on fun d => d.cagePgLoss c
/-- I2C_TRANSACTION (R389): a write of CAG_I2C_CMD_m with GO 1. -/
def execI2cTransaction (q : Req) (m : Fin 16) (v : W32) (s : State) : Host.Outcome State Fault Refusal :=
  s.on fun d => d.gateWrite q Reg.CAG_I2C_CMD 0 m fun d _ => d.i2cGo m v
/-- I2C_COMPLETE (R389): 0 done with the bytes read, 1 address NAK, 2 data NAK, 3 switch NAK. -/
def execI2cComplete (m : Fin 16) (how : Fin 4) (data : List Byte) (s : State) : Host.Outcome State Fault Refusal :=
  s.on fun d => d.i2cFinish m (if how.val == 3 then 7 else how) data
/-- I2C_STRETCH_TIMEOUT (R389): SDA stays low after the recovery, or does not. -/
def execI2cStretchTimeout (m : Fin 16) (sdaLow : Bool) (s : State) : Host.Outcome State Fault Refusal :=
  s.on fun d => d.i2cFinish m (if sdaLow then 4 else 3) []

end Sys2Proof.Machine
end

