-- ==== Sys2Proof/Machine/Ccx.lean ====
section
/-! DEFINITION. The control complexes and the Call (chapter 17). Complex 0 is CC-A, complex 1 CC-B. -/
namespace Sys2Proof.Machine

/-- The complex behind a requester; none for the host. -/
def Req.complex : Req → Option (Fin 2) | .host => none | .ccA => some 0 | .ccB => some 1

/-- Bring-up ends with a failure: STAGE 6 and FAIL (R472). -/
def Dev.bootFail (s : Dev) (n : Nat) : Dev := (s.wf Reg.TOP_BOOT 0 0 0 3 6).wf Reg.TOP_BOOT 0 0 4 4 n

/-- A complex runs. -/
def Dev.ccRuns (s : Dev) (x : Nat) : Bool := if x == 0 then s.ccx.runA else s.ccx.runB
def Dev.setRuns (s : Dev) (x : Nat) (b : Bool) : Dev :=
  if x == 0 then { s with ccx := { s.ccx with runA := b } } else { s with ccx := { s.ccx with runB := b } }

/-- STATE and SYNCED of a complex. -/
def Dev.ccState (s : Dev) (x : Nat) : Nat := s.rf Reg.CCX_CC_STATUS 0 x 0 3
def Dev.setCc (s : Dev) (x st : Nat) : Dev := s.wf Reg.CCX_CC_STATUS 0 x 0 3 st
def Dev.ccSynced (s : Dev) (x : Nat) : Bool := bit (s.rg Reg.CCX_CC_STATUS 0 x) 3
def Dev.setSynced (s : Dev) (x : Nat) (b : Bool) : Dev := s.wf Reg.CCX_CC_STATUS 0 x 3 1 b.toNat

/-- A complex loses its synchronisation (R401). -/
def Dev.syncLost (s : Dev) (x : Nat) : Dev := if s.ccSynced x then (s.setSynced x false).event bCCX 6 else s

/-- A command of the update agent in progress at a takeover is abandoned, and a slot that was downloaded and not verified becomes INVALID (R409, R421). -/
def Dev.updAbandon (s : Dev) : Dev :=
  let busy := (bit (s.rg Reg.UPD_STATUS 0 0) 1 && !s.upd.held) || s.upd.phase != 0
  let s := if busy then (s.wg Reg.UPD_STATUS 0 0 (at_ 0 1 1 ||| at_ 8 8 0x0E)).event bUPD 1 else s
  { s with upd := { s.upd with cmd := if s.upd.held then s.upd.cmd else 0, code := 0, work := [], phase := 0,
                               slots := s.upd.slots.map fun (e : Nat × FlashSlot) =>
                                 (e.1, if e.2.commit && !e.2.verified && !e.2.invalid then { e.2 with invalid := true } else e.2) } }

/-- HOLDER becomes `n` (0 none): LAST names the last complex that held the Call, GRANTS counts changes to a complex; the lease is fresh. The complexes' STATE follows (log entry 45). -/
def Dev.setHolder (s : Dev) (n : Nat) : Dev :=
  let v := s.rg Reg.CCX_CALL 0 0
  let old := fld v 0 2
  let v := setFld v 0 2 n
  let v := if old != 0 && old != n then setFld v 4 2 old else v
  let v := if n != 0 && n != old then setFld v 24 8 (fld v 24 8 + 1) else v
  let s := s.wg Reg.CCX_CALL 0 0 v
  let s := { s with ccx := { s.ccx with leaseFrom := s.cue.localNs } }
  let s := if old != 0 && old != n && s.ccState (old - 1) == 3 then s.setCc (old - 1) 2 else s
  if n != 0 && s.ccRuns (n - 1) then (s.setCc (n - 1) 3).setSynced (n - 1) false else s

/-- The duties go to another complex otherwise than by a handover (R403, R404, R421). -/
def Dev.takeover (s : Dev) (n : Nat) : Dev :=
  let s := { s with ccx := { s.ccx with agingFirst := List.range 128 } }
  (s.updAbandon).bump bCCX 1 (n - 1) 2 1

/-- A claim by complex `x` (R394): `both` says that the other complex claims on the same clock. -/
def Dev.claim (s : Dev) (x : Fin 2) (both : Bool) : Dev :=
  if s.holder != 0 then s
  else
    let win : Nat := if both then (if bit (s.rg Reg.CCX_CTRL 0 0) 0 then 1 else 0) else x.val
    let last := s.rf Reg.CCX_CALL 0 0 4 2
    let s := (s.setHolder (win + 1)).event bCCX 0
    if last != 0 && last != win + 1 then s.takeover (win + 1) else s

/-- The lease is renewed by the holder, in time (R395). -/
def Dev.renew (s : Dev) (x : Fin 2) : Dev :=
  if s.holder == x.val + 1 && s.cue.localNs < s.ccx.leaseFrom + 2000000 then
    { s with ccx := { s.ccx with leaseFrom := s.cue.localNs } } else s

/-- The Call drops at once (R396). -/
def Dev.callDrop (s : Dev) (x : Nat) : Dev := if s.holder == x + 1 then (s.setHolder 0).event bCCX 2 else s

/-- The cores of a complex stop: it no longer runs, its status reads OFF or halted, and the Call drops if it held it. -/
def Dev.ccStop (s : Dev) (x st : Nat) : Dev :=
  let s := ((s.setRuns x false).callDrop x).syncLost x
  s.setCc x st

/-- CCX_HANDOVER fires (R397): answers whether the Call passed, or was refused. -/
def Dev.handover (s : Dev) : Dev × Option Bool :=
  let t := s.rf Reg.CCX_HANDOVER 0 0 0 2
  if t == 0 || t == 3 || t == s.holder then (s, none)
  else if s.holder == 0 || !s.ccSynced (t - 1) then (s.event bCCX 4, some false)
  else ((s.setHolder t).event bCCX 3, some true)

/-- The Call is forced (R398). -/
def Dev.callForce (s : Dev) (n : Nat) : Dev :=
  let n := if n == 3 then 0 else n
  let old := s.holder
  let s := (s.setHolder n).event bCCX 7
  if n != 0 && n != old && s.ccRuns (n - 1) then s.takeover n else s

/-- An armed write of CCX_CALL_FORCE: the host's is stored, and acts with GO 1; a complex's is discarded (R45, R398). -/
def Dev.forceWrite (s : Dev) (q : Req) (v : W32) : Dev :=
  if q != .host then s
  else
    let s := s.wg Reg.CCX_CALL_FORCE 0 0 (v &&& Reg.CCX_CALL_FORCE.kw)
    if bit v 31 then s.callForce (fld v 0 2) else s

/-- A service cycle of the Lead (R392, R401, R403): renewal, cage admission, waiting Rate Follow requests, the ALT values it rewrites, waiting settings records, the mirror transfer. -/
def Dev.serviceCycle (s : Dev) (overrun acked : Bool) (alts : List (Fin 4096 × BitVec 9)) : Dev :=
  if !s.leadRuns then s
  else
    let x : Fin 2 := if s.holder == 1 then 0 else 1
    let o := 1 - x.val
    let s := (s.renew x).cageAdmit 64
    let s := s.rfWaiting
    let s := alts.foldl (fun (s : Dev) a => s.setPin a.1 { s.pin a.1 with alt := a.2.toNat }) s
    let s := s.settingDrain s.upd.waiting.length
    let s := (s.bump bCCX 1 x 0 1).count bCCX 0x10 0 1
    let s := if overrun then (s.bump bCCX 1 x 1 1).event bCCX 8 else s
    if acked && s.ccRuns o then ((if s.ccState o == 1 then s.setCc o 2 else s).bump bCCX 1 x 3 1).setSynced o true else s.syncLost o

/-- The Understudy reads CCX_CALL, and claims when HOLDER is 0 (R402). -/
def Dev.understudyPoll (s : Dev) (x : Fin 2) : Dev := if s.ccRuns x && s.ccState x == 2 then s.claim x false else s

/-- A write of CCX_CALL_CMD: it acts for the complex that writes it (R394–R396). -/
def Dev.callCmd (s : Dev) (q : Req) (act : Dev → Fin 2 → Dev) : Dev :=
  s.gateWrite q Reg.CCX_CALL_CMD 0 0 fun s _ => match q.complex with
    | some x => act s x
    | none => s

/-! ### Commands. -/

/-- CLAIM (R394). -/
def execClaim (q : Req) (both : Bool) (s : State) : Host.Outcome State Fault Refusal := s.on fun d => d.callCmd q fun d x => d.claim x both
/-- RENEW (R395). -/
def execRenew (q : Req) (s : State) : Host.Outcome State Fault Refusal := s.on fun d => d.callCmd q fun d x => d.renew x
/-- RELEASE (R396). -/
def execRelease (q : Req) (s : State) : Host.Outcome State Fault Refusal := s.on fun d => d.callCmd q fun d x => d.callDrop x
/-- LEASE_EXPIRY (R395): the lease reaches 0. -/
def execLeaseExpiry (s : State) : Host.Outcome State Fault Refusal :=
  s.on fun d => if d.holder == 0 then d else ((d.setHolder 0).event bCCX 1).detect 13 (blkUnit bCCX)
/-- CALL_DROP (R396): the domain, the supply or the cores of complex `x` fail. -/
def execCallDrop (x : Fin 2) (s : State) : Host.Outcome State Fault Refusal := s.on fun d => d.ccStop x 4
/-- CCX_CALL_FORCE (R398): a write of either complex is discarded. -/
def execCcxCallForce (q : Req) (holder : Fin 4) (go : Bool) (s : State) : Host.Outcome State Fault Refusal :=
  s.on fun d => d.gateKw q Reg.CCX_CALL_FORCE 0 0 fun d => d.forceWrite q (at_ 0 2 holder ||| atB 31 go)
/-- UNDERSTUDY_POLL (R402). -/
def execUnderstudyPoll (x : Fin 2) (s : State) : Host.Outcome State Fault Refusal := s.on fun d => d.understudyPoll x

end Sys2Proof.Machine
end

