-- ==== Sys2Proof/Machine/BookImage.lean ====
section
/-! DEFINITION. Prompt Book images: envelope, container, sections, and every check of R102 up to the classification (R94–R98, R178, R182, R183, R186, R187, R201–R204, R231, R282, R331–R333, R446). -/
namespace Sys2Proof.Machine

/-- The code of the first check that fails. -/
def firstFail : List (Bool × Nat) → Option Nat
  | [] => none
  | (bad, code) :: l => if bad then some code else firstFail l

/-- The number of ones in the low `n` bits of a word. -/
def popcount (n : Nat) (w : W32) : Nat := ((List.range n).filter fun i => bit w i).length

/-- No element of a list occurs twice. -/
def noDup : List Nat → Bool
  | [] => true
  | x :: l => !l.contains x && noDup l

/-! ### The envelope (R94, R95, R410). -/

/-- The 32 header words of an image. -/
def envWords (img : List Byte) : List W32 := bytesWords 32 (slice img 0 128)

/-- The header bytes beyond the image are not there. -/
def envBodyLen (ws : List W32) : Nat := wordN ws 6

/-- The envelope of a Prompt Book is malformed (R94, R102 step 1). -/
def bookEnvBad (ws : List W32) (len : Nat) : Bool :=
  wordN ws 0 != 0x4B425050 || wordN ws 1 != 0x01020001 || wfld ws 2 19 13 != 0
    || envBodyLen ws % 16 != 0 || envBodyLen ws < 4096 || 67108864 < envBodyLen ws
    || wfld ws 7 7 25 != 0 || wordN ws 11 != 0 || (List.range 14).any (fun i => wordN ws (18 + i) != 0)
    || len < 224 + envBodyLen ws

/-- Body and signature of an image. -/
def envBody (img : List Byte) : List Byte := slice img 128 (envBodyLen (envWords img))
def envSig (img : List Byte) : List Byte := slice img (128 + envBodyLen (envWords img)) 96

/-- HW_TYPE and VARIANTS fit this device. -/
def envFits (v : Variant) (ws : List W32) : Bool := wfld ws 2 0 16 == 0x0512 && bit (word ws 2) (16 + v.index)

/-- The public key of book-signing slot `k`: slot 0 from the boot ROM, 1–3 as enrolled (R411). -/
def Dev.bookKeySlot (s : Dev) (k : Nat) : Option (List Byte) :=
  if k == 0 then some (Config.unitBytes 5) else (s.setting? 1 0 k).map Setting.data

/-- The signature of a book verifies under an enrolled key. -/
def Dev.bookSigned (s : Dev) (img : List Byte) : Bool :=
  (List.range 4).any fun k => match s.bookKeySlot k with
    | some pub => Config.ecdsaVerify pub (slice img 0 128 ++ envBody img) (envSig img)
    | none => false

/-- The installed book key of a KEY_ID (R414): entries hold KEY_ID in 8 bytes, then the key. -/
def Dev.bookKey (s : Dev) (id : Nat) : Option (List Byte) :=
  (List.range 8).findSome? fun e => match s.setting? 2 0 e with
    | some r => if ofLe (r.data.take 8) == id then some (r.data.drop 8) else none
    | none => none

/-! ### Sections (R97, R98). -/

/-- A section: kind, instance, reshape mark, its bytes from the section header on. -/
structure Sect where
  kind : Nat
  inst : Nat
  reshape : Bool
  off : Nat
  len : Nat
  bytes : List Byte
  crc : W32
  deriving DecidableEq, Repr

/-- The directory of a container. -/
def sectsOf (body : List Byte) (n : Nat) : List Sect :=
  (List.range n).map fun d =>
    let ws := bytesWords 4 (slice body (64 + 16 * d) 16)
    { kind := wfld ws 0 0 8, inst := wfld ws 0 8 8, reshape := bit (word ws 0) 16, off := wordN ws 1, len := wordN ws 2,
      bytes := if wordN ws 2 ≤ body.length then slice body (wordN ws 1) (wordN ws 2) else [], crc := word ws 3 }

/-- The records of a section, each its words. -/
def Sect.recs (x : Sect) : List (List W32) :=
  let h := bytesWords 4 (slice x.bytes 0 16)
  let size := wordN h 1
  if x.len < 16 + size * wordN h 2 then []
  else (List.range (wordN h 2)).map fun i => bytesWords (size / 4 + 1) (slice x.bytes (16 + i * size) size)

/-- The record size a section names. -/
def Sect.recSize (x : Sect) : Nat := ofLe (slice x.bytes 4 4)

/-- A section of stage map, table shape or counter map has records of 16 bytes, one of action programs records of 8 (R183, R186, R201, R331, R446); a book that has others is refused with 0x0A (log entry 119). -/
def Sect.sizeBad (x : Sect) : Bool :=
  ([2, 3, 7].contains x.kind && x.recSize != 16) || ([4, 5].contains x.kind && x.recSize != 8)

/-- A section's place, CRC or header is wrong (R97). -/
def Sect.bad (x : Sect) (n bodyLen : Nat) (others : List Sect) : Bool :=
  let h := bytesWords 4 (slice x.bytes 0 16)
  x.off % 64 != 0 || x.len < 16 || decide (bodyLen < x.off + x.len) || x.off < 64 + 16 * n
    || others.any (fun y => decide (x.off < y.off + y.len) && decide (y.off < x.off + x.len))
    || crc32c x.bytes != x.crc
    || word h 0 != at_ 0 8 x.kind ||| at_ 8 8 x.inst ||| at_ 16 16 1 || wordN h 3 != 0
    || decide (x.len < 16 + wordN h 1 * wordN h 2)
    || (x.reshape && x.kind != 3)

/-- Each section is judged against those after it in the directory. -/
def sectsBad (n bodyLen : Nat) : List Sect → Bool
  | [] => false
  | x :: l => x.bad n bodyLen l || sectsBad n bodyLen l

/-- Kinds and instance counts are wrong (R98).
DESIGN CHOICE (log entry 119): the one section of kinds 1, 4, 5, 6 and 7 has INSTANCE 0, any other is refused with 0x08;
a table shape may have any INSTANCE, also 128 to 255, which no TABLE field can name. -/
def kindsBad (l : List Sect) : Bool :=
  let count (k : Nat) : List Nat := (l.filter fun x => x.kind == k).map Sect.inst
  (l.any fun x => x.kind == 0 || decide (7 < x.kind))
    || [1, 4, 5, 6, 7].any (fun k => count k != [0])
    || !(count 2 == [0, 1] || count 2 == [1, 0])
    || (count 3).isEmpty || decide (80 < (count 3).length) || !noDup (count 3)

def sectOf (l : List Sect) (k i : Nat) : List (List W32) := ((l.find? fun x => x.kind == k && x.inst == i).map Sect.recs).getD []

/-! ### Parser graph (R178). -/

def pStates (rs : List (List W32)) : List PState :=
  rs.filterMap fun r => if wfld r 0 0 8 != 1 then none else
    some { state := wfld r 0 8 8, hdrId := wfld r 0 16 8, terminal := bit (word r 0) 24, reject := bit (word r 0) 25, noStack := bit (word r 0) 26,
           lenFixed := wfld r 1 0 8, lenOff := wfld r 1 8 8, lenMask := wfld r 1 16 8, lenShift := wfld r 1 24 3,
           selOff := wfld r 2 0 8, selMask := wfld r 2 16 16, xsrc := wfld r 3 0 8, xlen := wfld r 3 8 8, xdst := wfld r 3 16 8 }

def pTrans (rs : List (List W32)) : List PTrans :=
  rs.filterMap fun r => if wfld r 0 0 8 != 2 then none else
    some { src := wfld r 0 8 8, dst := wfld r 0 16 8, prio := wfld r 0 24 8, value := wfld r 1 0 16, mask := wfld r 1 16 16 }

/-- A record breaks R178. -/
def pRecBad (r : List W32) : Bool :=
  if wfld r 0 0 8 == 1 then
    wfld r 0 27 5 != 0 || 63 < wfld r 0 16 8 || wfld r 1 27 5 != 0 || wfld r 2 8 8 != 0 || wfld r 3 24 8 != 0 || 64 < wfld r 3 8 8
  else if wfld r 0 0 8 == 2 then wordN r 2 != 0 || wordN r 3 != 0
  else true

/-- The graph is refused with 0x0B. -/
def graphBad (rs : List (List W32)) : Bool :=
  let st := (pStates rs).map PState.state
  rs.any pRecBad || !st.contains 0 || (pTrans rs).any fun t => !st.contains t.dst

/-! ### Selectors (R182). -/

/-- A selector in use is refused: it reaches beyond its source, or sets a reserved bit; `md` is the length of the metadata, `copy` allows SRC 3. -/
def selBad (md : Nat) (copy : Bool) (w : W32) : Bool :=
  let e := fld w 0 8 + selLen w
  let src := fld w 16 2
  fld w 14 2 != 0 || fld w 18 14 != 0 || 32 < selLen w
    || (if src == 0 then decide (128 < e) else if src == 1 then decide (md < e) else if src == 2 then false else !copy || decide (14 < e))

/-- A selector reads metadata bytes 14–15. -/
def selSpot (w : W32) : Bool := selLen w != 0 && fld w 16 2 == 1 && fld w 0 8 < 16 && 14 < fld w 0 8 + selLen w

/-! ### Stage maps (R183, R331). -/

def slotEnts (rs : List (List W32)) : List SlotEnt :=
  rs.filterMap fun r => if wfld r 0 0 8 != 1 || wfld r 0 16 4 == 0 then none else
    some { stage := wfld r 0 8 4, slot := wfld r 0 12 1, kind := wfld r 0 16 4, table := wfld r 0 24 7, keysrc := wfld r 2 0 3,
           hitProg := wfld r 1 0 14, missProg := wfld r 1 16 14, cond := wfld r 2 14 2, condHdr := wfld r 2 8 6 }

/-- Hash selectors in INDEX order. -/
def hashSels (rs : List (List W32)) : List W32 :=
  (List.range 4).flatMap fun i =>
    (rs.filter fun r => wfld r 0 0 8 == 2 && wfld r 0 16 2 == i).flatMap fun r => selList [word r 1, word r 2, word r 3]

/-- A slot entry's own fields are refused. -/
def slotRecBad (r : List W32) : Bool :=
  let kind := wfld r 0 16 4
  wfld r 0 13 3 != 0 || wfld r 0 20 4 != 0 || wfld r 0 31 1 != 0 || wfld r 1 14 2 != 0 || wfld r 1 30 2 != 0
    || wfld r 2 3 5 != 0 || wfld r 2 16 16 != 0 || wordN r 3 != 0 || 4 < kind || wfld r 2 14 2 == 3
    || (if kind == 3 then wfld r 2 0 3 == 0 else wfld r 2 0 3 != 0)

/-- The ingress stage map is refused with 0x0A. -/
def imapBad (rs : List (List W32)) : Bool :=
  let places := (rs.filter fun r => wfld r 0 0 8 == 1).map fun r => wfld r 0 8 5
  let hs := rs.filter fun r => wfld r 0 0 8 == 2
  (rs.any fun r => if wfld r 0 0 8 == 1 then slotRecBad r else if wfld r 0 0 8 == 2 then
      wfld r 0 8 8 != 0 || wfld r 0 18 14 != 0 || (selList [word r 1, word r 2, word r 3]).any (selBad 64 false) else true)
    || !noDup places || !noDup (hs.map fun r => wfld r 0 16 2)

/-- The egress stage map is refused with 0x0A, but for its references. -/
def emapBad (rs : List (List W32)) : Bool :=
  (rs.any fun r => wfld r 0 0 8 != 1 || slotRecBad r || 7 < wfld r 0 8 4 || wfld r 0 12 1 != 0 || !(wfld r 0 16 4 == 2 || wfld r 0 16 4 == 4))
    || !noDup (rs.map fun r => wfld r 0 8 5)

/-! ### Programs (R186–R188, R332, R333). -/

def prog (rs : List (List W32)) : List PInstr := rs.map fun r => { w0 := word r 0, imm := word r 1 }
def PInstr.op (i : PInstr) : Nat := fld i.w0 0 8
def PInstr.a (i : PInstr) : Nat := fld i.w0 8 8
def PInstr.b (i : PInstr) : Nat := fld i.w0 16 16

/-- Operands beyond the given widths: A below `a`, B below `b`, IMM below `m`. -/
def PInstr.wide (i : PInstr) (a b m : Nat) : Bool := a ≤ i.a || b ≤ i.b || m ≤ i.imm.toNat

/-- A drop reason that is reserved (R188). -/
def reasonBad (r : Nat) : Bool := 3 ≤ r && r ≤ 0x3F

/-- Instructions both pipelines have. -/
def commonBad (i : PInstr) : Option Bool :=
  if i.op == 0 then some (i.wide 1 1 1)
  else if i.op == 0x0A then some (i.wide 1 256 1 || reasonBad i.b)
  else if i.op == 0x0C then some (i.wide 1 1 (2 ^ 26))
  else if i.op == 0x13 then some (i.wide 64 256 1 || fld i.w0 21 2 != 0)
  else none

/-- An ingress instruction is refused with 0x0A. -/
def iInstrBad (i : PInstr) : Bool :=
  match commonBad i with
  | some b => b
  | none =>
    let n := i.b
    let all := 2 ^ 32
    if i.op == 1 then i.wide 1 1 8
    else if i.op == 2 then i.wide 1 1 3
    else if i.op == 3 then i.wide 1 1 (2 ^ 22)
    else if i.op == 4 || i.op == 5 then i.wide 1 1 (2 ^ 17)
    else if i.op == 6 || i.op == 7 then i.wide 1 1 (2 ^ 20)
    else if i.op == 8 then i.wide 12 1 1
    else if i.op == 9 then i.wide 1 256 512 || reasonBad i.b
    else if i.op == 0x0B then i.wide 1 1 (2 ^ 18)
    else if i.op == 0x0D then i.wide 1 1 16
    else if i.op == 0x0E then i.wide 32 5 all || n == 0 || 32 < i.a + n
    else if i.op == 0x0F then i.wide 32 1 all || selBad 64 true i.imm || selLen i.imm == 0 || 32 < i.a + selLen i.imm
    else if i.op == 0x10 then i.wide 16 1 all || selBad 64 true i.imm || selLen i.imm == 0 || 16 < i.a + selLen i.imm
    else if i.op == 0x11 then i.wide 16 5 all || n == 0 || 16 < i.a + n
    else if i.op == 0x12 then i.wide 1 1 128
    else true

/-- An egress instruction is refused with 0x0A. -/
def eInstrBad (i : PInstr) : Bool :=
  match commonBad i with
  | some b => b
  | none =>
    let hdr := 24 ≤ i.a && i.a != 31
    let all := 2 ^ 32
    if i.op == 0x20 then hdr || i.wide 32 33 all || i.b == 0 || selBad 96 true i.imm
    else if i.op == 0x21 then hdr || i.wide 32 9 1 || i.b == 0
    else if i.op == 0x22 then hdr || i.wide 32 256 all || selBad 96 true i.imm
    else if i.op == 0x23 then hdr || i.wide 32 1024 all
    else if i.op == 0x24 then hdr || fld i.w0 17 7 != 0 || i.imm != 0 || reasonBad (i.b / 256)
    else if i.op == 0x25 then hdr || i.wide 32 1 1
    else if i.op == 0x26 then hdr || i.wide 32 2 1
    else if i.op == 0x27 then hdr || i.wide 32 3 (2 ^ 14) || i.b == 0
    else if i.op == 0x28 then i.wide 1 1 (2 ^ 16)
    else true

/-- The instruction at an address: END where the section has none. -/
def progAt (p : Array PInstr) (pc : Nat) : PInstr := p.getD (pc % 16384) { w0 := 0, imm := 0 }

/-- The addresses a run can go on to. -/
def succs (p : Array PInstr) (pc : Nat) : List Nat :=
  let i := progAt p pc
  if i.op == 0 || i.op == 0x0A then []
  else if i.op == 0x13 then [(pc + 1) % 16384, (pc + 1 + i.b % 32) % 16384] else [(pc + 1) % 16384]

/-- Apply a function `n` times. -/
def iter {α : Type} (f : α → α) : Nat → α → α
  | 0, x => x
  | n + 1, x => iter f n (f x)

/-- Some run reaches a 33rd instruction (R187). -/
def longRun (l : List PInstr) : Bool :=
  let p := l.toArray
  let step (r : Array Bool) : Array Bool := ((List.range 16384).map fun pc => (succs p pc).any fun q => r.getD q false).toArray
  (iter step 32 ((List.replicate 16384 true).toArray)).any id

/-- The addresses that runs from `starts` execute within 32 instructions. -/
def reaches (p : Array PInstr) : Nat → List Nat → List Nat → List Nat
  | 0, _, acc => acc
  | n + 1, cur, acc =>
    let cur := cur.filter fun x => !acc.contains x
    if cur.isEmpty then acc else reaches p n ((cur.flatMap (succs p)).eraseDups) (acc ++ cur)

/-! ### Tables (R201–R204, R231). -/

def shapeOf (x : Sect) : TShape :=
  let r0 := x.recs.headD []
  { id := x.inst, tkind := wfld r0 0 0 8, alloc := wordN r0 1, seed := word r0 2, alloc2 := wordN r0 3, reshape := x.reshape, recs := x.recs.drop 1 }

/-- The banks a search table names. -/
def banksOf (t : TShape) : Nat → Bool := fun b => bit (t.w 0 (b / 32)) (b % 32)

/-- The number of records of a table-shape section, or bits [31:8] of its word 0, are not as R201 to R204 and R231 give (log entry 119). -/
def Sect.shapeRecsBad (x : Sect) : Bool :=
  let rs := x.recs
  let kind := wfld (rs.headD []) 0 0 8
  wfld (rs.headD []) 0 8 24 != 0
    || (if kind == 1 then rs.length != 8 else if kind == 2 then rs.length != 4 else if kind == 3 then rs.isEmpty else rs.length != 2)

/-- A shape is refused with 0x0A on its own. -/
def shapeBad (t : TShape) : Bool :=
  if t.tkind == 1 then
    let nb := popcount 32 (t.w 0 0) + popcount 32 (t.w 0 1)
    let w := fld (t.w 0 2) 0 3
    let sels := t.acsSel
    let used := sels.length
    t.seed != 0 || 1 < t.alloc2 || !(w == 1 || w == 2 || w == 4) || fld (t.w 0 2) 3 29 != 0 || t.w 0 3 != 0 || t.alloc != 4096 * nb
      || decide (20 * w < selWidth sels) || sels.any (selBad 64 false)
      || ((t.recs.getD 1 [] ++ t.recs.getD 2 []).drop used).any (fun x => x != 0)
      || (List.range 64).any (fun b => !banksOf t b && fld (t.w (3 + b / 16) (b / 4 % 4)) (8 * (b % 4)) 8 != 0)
  else if t.tkind == 2 then
    let kw := selWidth t.exmSel
    let lw := selWidth t.learnSel
    t.alloc2 != 0 || t.alloc % 4096 != 0 || t.alloc < 4096 || 4194304 < t.alloc || kw == 0 || 16 < kw || (lw != 0 && lw != kw)
      || (t.learnSel.any (selBad 64 false)) || 3 < selLen (t.w 2 0) || selBad 64 false (t.w 2 0) || t.w 2 1 != 0 || t.w 2 2 != 0 || t.w 2 3 != 0
  else if t.tkind == 3 then
    t.seed != 0 || t.alloc2 != 0 || 16777216 < t.alloc || t.alloc != t.recs.foldl (fun n r => n + wfld r 1 0 25) 0
      || !noDup (t.recs.map fun r => wfld r 0 0 3)
      || t.recs.any fun r =>
        wfld r 0 0 3 == 0 || wfld r 0 3 5 != 0 || wfld r 0 9 23 != 0 || wfld r 1 25 7 != 0 || 4 < selLen (word r 2)
          || selBad 64 false (word r 2) || selBad 64 false (word r 3) || wfld r 3 16 2 != 0
          || selLen (word r 3) != (if bit (word r 0) 8 then 16 else 4)
  else
    let e := t.w 0 1
    t.seed != 0 || t.alloc == 0 || 1048576 < t.alloc || 65536 < t.alloc2 || 2097152 < (t.w 0 0).toNat
      || 4 < fld e 8 3 || 32 < fld e 0 5 + fld e 8 3 || fld e 5 3 != 0 || fld e 11 21 != 0

/-! ### Hierarchy and counter map (R282, R446). -/

def hierOfBytes (bs : List Byte) : List HierRec :=
  (Config.hierRecords bs).map fun e => { level := e.1, num := e.2.1, parent := e.2.2.1, slot := e.2.2.2 }

/-- A hierarchy is refused with 0x0A. -/
def hierBad (h : List HierRec) : Bool :=
  let kids (l p : Nat) : List HierRec := h.filter fun x => x.level == l && x.parent == p
  let lim (l : Nat) : Nat := if l == 0 then 256 else if l == 1 then 4096 else if l == 2 then 16384 else 131072
  (h.any fun x => x.level == 0 || 3 < x.level || lim x.level ≤ x.num || lim (x.level - 1) ≤ x.parent || 4 < x.slot
      || 64 < ((kids x.level x.parent).filter fun y => y.slot == 4).length
      || (x.slot < 4 && decide (1 < ((kids x.level x.parent).filter fun y => y.slot == x.slot).length)))
    || !noDup (h.map fun x => nodeKey x.level x.num)

/-- The signed 8-bit field of a range. -/
def adj8 (n : Nat) : Int := if n < 128 then n else (n : Int) - 256

def rangesOf (rs : List (List W32)) : List CtrRange :=
  (rs.filter fun r => wfld r 0 0 8 == 2).map fun r => { source := wfld r 0 8 4, first := wordN r 1, adj := adj8 (wfld r 3 0 8) }

/-- The counter map is refused with 0x0A; `nStacks` is the number of stacks in HBM_USE. -/
def ctrBad (rs : List (List W32)) (nStacks : Nat) : Bool :=
  let al := rs.filter fun r => wfld r 0 0 8 == 1
  let rg := rs.filter fun r => wfld r 0 0 8 == 2
  let a := al.headD []
  let alloc := wordN a 1
  let snap := wordN a 2
  let lo (r : List W32) : Nat := wordN r 1
  al.length != 1 || al.length + rg.length != rs.length || 64 < rg.length || wfld a 0 8 24 != 0 || wordN a 3 != 0
    || alloc % 4096 != 0 || alloc < 4096 || 67108864 < alloc || 16777216 * nStacks < alloc
    || snap % 4096 != 0 || 1048576 < snap || alloc ≤ snap
    || rg.any (fun r => wfld r 0 12 20 != 0 || wfld r 0 8 4 == 0 || 4 < wfld r 0 8 4 || wordN r 2 != 131072 || wfld r 3 8 24 != 0
        || alloc - snap < lo r + 131072 || 1 < (rg.filter fun x => lo r < lo x + 131072 && lo x < lo r + 131072).length)

/-! ### The whole image (R102 steps 1–10). -/

/-- Slots of stages MA0–MA5, where the Spotlight result is not ready. -/
def early (m : List SlotEnt) : List SlotEnt := m.filter fun e => e.stage < 6

/-- The key selectors of a slot. -/
def slotSels (ts : List TShape) (e : SlotEnt) : List W32 :=
  if e.kind == 1 then ((ts.find? fun t => t.id == e.table).map TShape.acsSel).getD []
  else if e.kind == 2 then ((ts.find? fun t => t.id == e.table).map TShape.exmSel).getD []
  else if e.kind == 3 then
    match (ts.find? fun t => t.id == e.table).bind fun t => t.ksRec? e.keysrc with
    | some r => [word r 2, word r 3]
    | none => []
  else []

/-- A slot of an early stage reads the Spotlight result, by key or by program (R182). -/
def spotEarly (ts : List TShape) (m : List SlotEnt) (ip : List PInstr) : Bool :=
  let p := ip.toArray
  let starts := ((early m).flatMap fun e => [e.hitProg] ++ (if e.kind == 4 then [] else [e.missProg])).filter fun a => a != 0x3FFF
  (early m).any (fun e => (slotSels ts e).any selSpot)
    || (reaches p 32 starts []).any fun pc => let i := progAt p pc
      (i.op == 0x0F || i.op == 0x10) && selSpot i.imm

/-- A reference of the ingress map or program does not resolve (R102 step 10): to a table, to a counter, or by SET_EQ to a queue that the hierarchy attaches (R186, R282). -/
def refBad (ts : List TShape) (m em : List SlotEnt) (ip ep : List PInstr) (room : Nat) (hier : List HierRec) : Bool :=
  let kindOf (i : Nat) : Option Nat := (ts.find? fun t => t.id == i).map TShape.tkind
  (m.any fun e => (e.kind == 1 && kindOf e.table != some 1) || (e.kind == 2 && kindOf e.table != some 2)
      || (e.kind == 3 && (((ts.find? fun t => t.id == e.table && t.tkind == 3).bind fun t => t.ksRec? e.keysrc).isNone)))
    || (em.any fun e => e.kind == 2 && (kindOf e.table).isNone)
    || (ip.any fun i => (i.op == 0x0C && decide (room ≤ i.imm.toNat)) || (i.op == 0x12 && kindOf i.imm.toNat != some 2)
        || (i.op == 4 && !(hier.any fun h => h.level == 3 && h.num == i.imm.toNat))
        || ((i.op == 7 || i.op == 8) && !(ts.any fun t => t.tkind == 8)))
    || ep.any fun i => i.op == 0x0C && decide (room ≤ i.imm.toNat)

/-- The stacks of HBM_USE that are present: one that training left FAILED counts as absent (R7, R472). -/
def Dev.stacksOk (s : Dev) (use_ : Nat) : Bool :=
  (List.range 8).all fun k => use_ / 2 ^ k % 2 == 0 || (s.variant.hasStack k && s.stackState k != 5)

/-- The container of an image: the book, or the code that refuses it (R102 steps 7–10). -/
def Dev.container (s : Dev) (img body : List Byte) : Except Nat Book :=
  let env := envWords img
  let h := bytesWords 16 (slice body 0 64)
  let n := wfld h 1 0 8
  let secs := sectsOf body n
  let xsize := wfld h 3 0 7
  let shapes := (secs.filter fun x => x.kind == 3).map shapeOf
  let hdrBad := wordN h 0 != 0x50424B43 || wfld h 1 8 8 != 0 || n < 8 || 87 < n || wfld h 2 12 20 != 0 || wfld h 3 7 1 != 0
    || wfld h 3 12 20 != 0 || xsize != wfld env 7 0 7 || xsize != 32 + 8 * popcount 4 (w32 (wfld h 3 8 4))
    || word h 4 != word env 4 || word h 5 != word env 5 || (List.range 10).any (fun i => wordN h (6 + i) != 0)
    || body.length < 64 + 16 * n || (List.range n).any (fun d => ofLe (slice body (64 + 16 * d) 4) / 2 ^ 17 != 0)
  let kindBad := (shapes.any fun t => !([1, 2, 3, 8].contains t.tkind) || (t.tkind == 1 && t.reshape && t.alloc2 % 2 == 0))
    || decide (1 < (shapes.filter fun t => t.tkind == 3).length) || decide (1 < (shapes.filter fun t => t.tkind == 8).length)
  let req := wfld h 2 0 4
  let use_ := wfld h 2 4 8
  let absent := (bit (word h 2) 0 && !s.variant.hasOtn) || (bit (word h 2) 1 && !s.variant.hasSpl) || (bit (word h 2) 2 && !s.variant.hasFab) || !s.stacksOk use_
  let g := sectOf secs 1 0
  let im := sectOf secs 2 0
  let em := sectOf secs 2 1
  let ip := prog (sectOf secs 4 0)
  let ep := prog (sectOf secs 5 0)
  let ct := sectOf secs 7 0
  let hier := ((secs.find? fun x => x.kind == 6).map fun x => hierOfBytes x.bytes).getD []
  let a := (ct.find? fun r => wfld r 0 0 8 == 1).getD []
  let ims := slotEnts im
  let ems := slotEnts em
  let egressIds := (ems.filter fun e => e.kind == 2).map SlotEnt.table
  let banks := (List.range 64).any fun b => 1 < (shapes.filter fun t => t.tkind == 1 && banksOf t b).length
  let exm := (shapes.filter fun t => t.tkind == 2).foldl (fun n t => n + t.alloc) 0
  -- egress keys read the egress metadata, ingress keys the ingress one
  let keyBad := shapes.any fun t => t.tkind == 2 && t.exmSel.any (selBad (if egressIds.contains t.id then 96 else 64) false)
  let resBad := decide (256 < (pStates g).length) || decide (2048 < (pTrans g).length) || (pStates g).any (fun x => 128 < x.xdst + x.xlen)
    || secs.any Sect.sizeBad || (secs.any fun x => x.kind == 3 && x.shapeRecsBad) || imapBad im || emapBad em || shapes.any shapeBad || keyBad || banks || decide (4194304 < exm)
    || decide (16384 < ip.length) || decide (16384 < ep.length) || ip.any iInstrBad || ep.any eInstrBad || longRun ip || longRun ep
    || hierBad hier || ctrBad ct (popcount 8 (w32 use_)) || spotEarly shapes ims ip
    || egressIds.any (fun i => ims.any (fun e => e.kind != 4 && e.table == i) || (shapes.any fun t => t.id == i && t.tkind != 2))
  match firstFail [(hdrBad, 8), (sectsBad n body.length secs, 8), (kindsBad secs, 8), (kindBad, 8), (absent, 9),
      (resBad, 0x0A), ((secs.any fun x => x.kind == 1 && x.recSize != 16) || graphBad g, 0x0B),
      (refBad shapes ims ems ip ep (wordN a 1 - wordN a 2) hier, 0x0B)] with
  | some c => .error c
  | none => .ok
    { id := wordN h 4 + 2 ^ 32 * wordN h 5, digest := Config.sha384 (img.take (224 + envBodyLen env)), secVersion := wordN env 3, toolVer := wfld h 1 16 16,
      xsize := xsize, carried := wfld h 3 8 4, requires := req, hbmUse := use_, states := pStates g, trans := pTrans g,
      imap := ims, hash := hashSels im, hashed := im.any fun r => wfld r 0 0 8 == 2, emap := ems, tables := shapes, iprog := ip, eprog := ep, hier := hier,
      alloc := wordN a 1, snap := wordN a 2, ranges := rangesOf ct }

/-- The checks of R102 on an image whose source could be read, in their order. -/
def Dev.checkImage (s : Dev) (img : List Byte) : Except Nat Book :=
  let env := envWords img
  let key := s.bookKey (wordN env 16 + 2 ^ 32 * wordN env 17)
  let iv := slice img 32 12
  let aad := slice img 0 48
  let k := key.getD []
  match firstFail [(bookEnvBad env img.length, 1), (!envFits s.variant env, 3), (wordN env 3 < s.upd.bookFloor, 4), (!s.bookSigned img, 5),
      (key.isNone, 6), (Config.gcmTag k iv aad (envBody img) != slice img 48 16, 7)] with
  | some c => .error c
  | none => s.container img (slice (Config.gcmDecrypt k iv aad (envBody img)) 0 (envBodyLen env))

end Sys2Proof.Machine
end

