-- ==== Sys2Proof/Machine/Parser.lean ====
section
/-! DEFINITION. The parser that both pipelines run over a frame (R178–R181). -/
namespace Sys2Proof.Machine

/-- What a parse leaves: field vector, extractions (newest first: first field-vector byte, length, frame offset), PRESENT, offsets of recorded headers, PARSE_END, PARSE_RESULT. -/
structure Parsed where
  fv : List Byte := List.replicate 128 0
  exts : List (Nat × Nat × Nat) := []
  present : Nat := 0
  heads : List Nat := []
  fin : Nat := 0
  result : Nat := 0
  deriving DecidableEq, Repr

/-- The computed length of a header at offset `off` (R178); a byte beyond the frame reads as 0. -/
def PState.len (st : PState) (frame : List Byte) (off : Nat) : Nat :=
  if st.lenOff == 0xFF then st.lenFixed
  else st.lenFixed + ((frame.getD (off + st.lenOff) 0).toNat &&& st.lenMask) * 2 ^ st.lenShift

/-- The select value of a state (R178). -/
def PState.select (st : PState) (frame : List Byte) (off : Nat) : Nat :=
  if st.selOff == 0xFF then 0 else ofBe (slice frame (off + st.selOff) 2) &&& st.selMask

/-- The transition taken: the lowest PRIO, then the lowest record index (R179). -/
def bestTrans (ts : List PTrans) (state sel : Nat) : Option PTrans :=
  ts.foldl (fun best t =>
    if t.src == state && (sel &&& t.mask) == (t.value &&& t.mask) then
      match best with
      | some b => if t.prio < b.prio then some t else best
      | none => some t
    else best) none

/-- Enter a header whose length has been accepted: recorded and extracted (R179). -/
def Parsed.enter (p : Parsed) (st : PState) (frame : List Byte) (off len : Nat) : Parsed :=
  let p := if st.noStack then p else { p with present := p.present ||| 2 ^ st.hdrId, heads := p.heads ++ [off] }
  let p := if st.xlen == 0 then p
    else { p with fv := patch p.fv st.xdst (slice frame (off + st.xsrc) st.xlen), exts := (st.xdst, st.xlen, off + st.xsrc) :: p.exts }
  { p with fin := off + len }

/-- Parse from a state at an offset; `fuel` is how many more states may be entered (R179, R180). -/
def parseFrom (b : Book) (frame : List Byte) : Nat → Nat → Nat → Parsed → Parsed
  | 0, _, off, p => { p with result := 4, fin := off }
  | fuel + 1, n, off, p =>
    match b.states.find? fun x => x.state == n with
    | none => p
    | some st =>
      let len := st.len frame off
      if st.reject then { p with result := 1, fin := off }
      else if 256 < off + len then { p with result := 2, fin := off }
      else if frame.length < off + len then { p with result := 3, fin := off }
      else if len == 0 then { p with result := 5, fin := off }
      else
        let p := p.enter st frame off len
        if st.terminal then p
        else match bestTrans b.trans n (st.select frame off) with
          | none => p
          | some t => parseFrom b frame fuel t.dst (off + len) p

/-- Parse a frame without FCS: at most 24 states (R179, R180). -/
def Book.parse (b : Book) (frame : List Byte) : Parsed := parseFrom b frame 24 0 0 {}

/-- The frame offset from which one extraction wrote `len` field-vector bytes from `at0` on, none of them past the frame or overwritten (R192). -/
def Parsed.origin (p : Parsed) (frame : List Byte) (at0 len : Nat) : Option Nat :=
  let last (b : Nat) : Option (Nat × Nat × Nat) := p.exts.find? fun e => decide (e.1 ≤ b) && decide (b < e.1 + e.2.1)
  match last at0 with
  | none => none
  | some e =>
    -- the same extraction, by its place in the list, covers every byte
    let place (b : Nat) : Option Nat := p.exts.findIdx? fun e => decide (e.1 ≤ b) && decide (b < e.1 + e.2.1)
    let off := e.2.2 + (at0 - e.1)
    if ((List.range len).all fun i => place (at0 + i) == place at0) && decide (off + len ≤ frame.length) && decide (off < 256) then some off else none

end Sys2Proof.Machine
end

