-- ==== Sys2Proof/Machine/Pass.lean ====
section
/-! DEFINITION. The ingress pass: lookups, action programs, policers, defaults, side effects, and the ticket builder (R166, R181–R197, R214, R222, R224, R287). -/
namespace Sys2Proof.Machine

/-! ### Policers (R270–R273, R287, R288). -/

/-- Policer `i`'s configuration, Tc and Tp in tokens. -/
def Dev.polTc (s : Dev) (i : Nat) : Int :=
  let ws := s.obj bPOL 1 i
  Bucket.now (mget none s.tm.polC i) (rateOf (word ws 0)) (sizeOf_ (word ws 1)) s.cue.localNs
def Dev.polTp (s : Dev) (i : Nat) : Int :=
  let ws := s.obj bPOL 1 i
  Bucket.now (mget none s.tm.polP i) (peakRate (word ws 0) (word ws 2)) (sizeOf_ (word ws 3)) s.cue.localNs

/-- The judgement of a packet of `len` bytes and incoming colour `c` (R287): 0 green, 1 yellow, 2 red. -/
def Dev.polJudge (s : Dev) (i len c : Nat) : Nat :=
  let c := if bit (word (s.obj bPOL 1 i) 4) 0 then c else 0
  let b : Int := len * tokByte
  if 2 ≤ c || decide (s.polTp i < b) then 2 else if c == 1 || decide (s.polTc i < b) then 1 else 0

/-- The charge and the counts of a judgement (R287, R293). -/
def Dev.polCharge (s : Dev) (i len c : Nat) : Dev :=
  let ws := s.obj bPOL 1 i
  let now := s.cue.localNs
  let s := if c == 2 then s else { s with tm := { s.tm with polP := mset none s.tm.polP i (Bucket.charge (mget none s.tm.polP i) (peakRate (word ws 0) (word ws 2)) (sizeOf_ (word ws 3)) now len) } }
  let s := if c != 0 then s else { s with tm := { s.tm with polC := mset none s.tm.polC i (Bucket.charge (mget none s.tm.polC i) (rateOf (word ws 0)) (sizeOf_ (word ws 1)) now len) } }
  (s.bump bPOL 3 i c 1).bump bPOL 4 i c len

/-! ### Side effects (R166, R222, R224, R448). -/

/-- Set the HIT bit of a key in a replica. -/
def Dev.repHit (s : Dev) (t : TShape) (key : Nat) (r : Rep) : Rep :=
  match s.exmFind r t key with
  | some (p, e) => { r with exm := minsert r.exm p { e with hit := true } }
  | none => r

/-- The table of a book by its ID. -/
def Book.table? (b : Book) (id : Nat) : Option TShape := b.tables.find? fun t => t.id == id

/-- A side effect of a packet of `len` bytes takes effect. -/
def Dev.applyEff (b : Book) (len : Nat) (s : Dev) (e : SideEff) : Dev :=
  match e with
  | .hit t key => match b.table? t with
    | some x => { s with rep0 := s.repHit x key s.rep0, rep1 := s.repHit x key s.rep1, intent := s.repHit x key s.intent }
    | none => s
  | .learn c => ({ s with ing := { s.ing with cands := s.ing.cands ++ [c] } }).count bEXM 0x12 0 1
  | .stat pair => s.statAdd pair 1 len
  | .police i c => s.polCharge i len c

/-! ### The pass (R182–R188). -/

/-- What stays the same during a pass: the port, the book of the epoch, the frame, the parse; `hold` says that side effects wait for the verdict. -/
structure PassCtx where
  port : Nat
  epoch : Nat
  book : Book
  frame : List Byte
  parsed : Parsed
  hold : Bool
  deriving DecidableEq, Repr

def PassCtx.cluster (c : PassCtx) : Nat := c.port / 16
def PassCtx.region (c : PassCtx) : Nat := c.port / 128

/-- What a pass has done so far. -/
structure Pass where
  dev : Dev
  md : List Byte
  dest : Dest := .unset
  eq : Option Nat := none
  voq : Option Nat := none
  mirror : Nat := 0
  res : List Byte := List.replicate 32 0
  drop : Option Nat := none
  red : Option Nat := none
  /-- POLICE and COUNT instructions executed, lookups made by kind. -/
  nPol : Nat := 0
  nCnt : Nat := 0
  nFib : Nat := 0
  nExm : Nat := 0
  nAcs : Nat := 0
  /-- A speculative lookup that is neither confirmed nor squashed: key source, prefix, address (R190). -/
  spec : Option (Nat × Nat × Nat) := none
  /-- The packet's first FIB lookup, as the predictor sees it (R192). -/
  obs : Option Obs := none
  effects : List SideEff := []
  deriving DecidableEq, Repr

/-- A side effect: at once, or held for the verdict. -/
def Pass.effect (p : Pass) (c : PassCtx) (e : SideEff) : Pass :=
  if c.hold then { p with effects := p.effects ++ [e] } else { p with dev := p.dev.applyEff c.book (c.frame.length + 4) e }

/-- Write metadata bytes. -/
def Pass.put (p : Pass) (off : Nat) (v : List Byte) : Pass := { p with md := patch p.md off v }
def Pass.mdN (p : Pass) (off len : Nat) : Nat := ofBe (slice p.md off len)

/-- LEARN in table `id` (R224): one lookup, whose outcome is SAME, NEW or MOVE. -/
def Pass.learn (p : Pass) (c : PassCtx) (id : Nat) : Pass :=
  match c.book.table? id with
  | none => p
  | some t =>
    if t.tkind != 2 || t.learnSel.isEmpty || 8 ≤ p.nExm then p
    else
      let kw := selWidth t.exmSel
      let key := left128 (selKey c.parsed.fv p.md [] t.learnSel)
      let sel := t.w 2 0
      let src := if selLen sel == 0 then p.dev.devId * 256 + c.port else ofBe (selBytes c.parsed.fv p.md [] sel) % 2 ^ 22
      let p := { p with nExm := p.nExm + 1, dev := (p.dev.bump bEXM 1 id 0 1).count bEXM 0x10 0 1 }
      match p.dev.exmFind (p.dev.rep c.region) t key with
      | none => p.effect c (.learn { table := id, key := key, klen := kw, src := src, move := false, prev := 0 })
      | some (_, e) =>
        let p := { p with dev := p.dev.bump bEXM 1 id 1 1 }
        if e.data % 2 ^ 22 == src then p.effect c (.hit id key)
        else p.effect c (.learn { table := id, key := key, klen := kw, src := src, move := true, prev := e.data % 2 ^ 22 })

/-- POLICE (R187, R287, R288): the first two take effect. -/
def Pass.police (p : Pass) (c : PassCtx) (i : Nat) : Pass :=
  if 2 ≤ p.nPol then p
  else
    let col := p.dev.polJudge i (c.frame.length + 4) (p.mdN 3 1)
    let red := col == 2 && bit (word (p.dev.obj bPOL 1 i) 4) 1
    let p := { p with nPol := p.nPol + 1, red := if red then some i else p.red }
    (p.put 3 [BitVec.ofNat 8 col]).effect c (.police i col)

/-- COUNT (R187, R448): the first four take effect. -/
def Pass.counter (p : Pass) (c : PassCtx) (i : Nat) : Pass :=
  if 4 ≤ p.nCnt then p else { p with nCnt := p.nCnt + 1 }.effect c (.stat i)

/-- One instruction other than END, DROP and SKIP_IF (R186); `rd` is the result data of the hit. -/
def Pass.instr (p : Pass) (c : PassCtx) (rd : List Byte) (i : PInstr) : Pass :=
  let op := fld i.w0 0 8
  let a := fld i.w0 8 8
  let b := fld i.w0 16 16
  let m := i.imm
  let n := fld i.w0 16 3
  let imm := beBytes n m.toNat
  let sel := selBytes c.parsed.fv p.md rd m
  if op == 0x01 then p.put 2 [BitVec.ofNat 8 (fld m 0 3)]
  else if op == 0x02 then p.put 3 [BitVec.ofNat 8 (fld m 0 2)]
  else if op == 0x03 then { p with dest := .sysPort (fld m 0 22) }
  else if op == 0x04 then { p with eq := some (fld m 0 17) }
  else if op == 0x05 then { p with voq := some (fld m 0 17) }
  else if op == 0x06 then { p with dest := .group (fld m 0 20) }
  else if op == 0x07 then { p with dest := .nextHop (fld m 0 20) }
  else if op == 0x08 then { p with dest := .nextHop (ofBe (slice rd a 3) % 2 ^ 20) }
  else if op == 0x09 then { p with dest := .ring (fld m 0 9) (b % 256) }
  else if op == 0x0B then p.police c (fld m 0 18)
  else if op == 0x0C then p.counter c (fld m 0 26)
  else if op == 0x0D then { p with mirror := fld m 0 4 }
  else if op == 0x0E then { p with res := patch p.res (a % 32) imm }
  else if op == 0x0F then { p with res := patch p.res (a % 32) sel }
  else if op == 0x10 then p.put (24 + a % 16) sel
  else if op == 0x11 then p.put (24 + a % 16) imm
  else if op == 0x12 then p.learn c (fld m 0 7)
  else p

/-- Run a program from an address; `fuel` is 32 instructions (R187). -/
def Pass.run (c : PassCtx) (rd : List Byte) : Nat → Nat → Pass → Pass
  | 0, _, p => p
  | fuel + 1, pc, p =>
    let i := c.book.iprog.getD (pc % 16384) { w0 := 0, imm := 0 }
    let op := fld i.w0 0 8
    if op == 0 then p
    else if op == 0x0A then { p with drop := some (fld i.w0 16 8) }
    else if op == 0x13 then
      let present := p.mdN 16 8 / 2 ^ fld i.w0 8 6 % 2 == 1
      let skip := if present != bit i.w0 23 then fld i.w0 16 5 else 0
      Pass.run c rd fuel (pc + 1 + skip) p
    else Pass.run c rd fuel (pc + 1) (p.instr c rd i)

/-- A slot's program after its lookup: 16 bytes of a hit, or a miss (R184). -/
def Pass.after (p : Pass) (c : PassCtx) (e : SlotEnt) (hit : Option (List Byte)) : Pass :=
  match hit with
  | some r => if e.hitProg == 0x3FFF then p else Pass.run c (r.drop 2) 32 (e.hitProg + ofBe (r.take 2)) p
  | none => if e.missProg == 0x3FFF then p else Pass.run c [] 32 e.missProg p

/-- A speculative lookup is squashed (R191). -/
def Pass.squash (p : Pass) (c : PassCtx) : Pass :=
  match p.spec with
  | none => p
  | some _ => { p with spec := none, dev := (p.dev.bump bIPP 2 c.cluster 2 1).count bIPP 0x12 c.cluster 1 { port := some c.port } }

/-- Key source, prefix and address of a FIB slot, with the place of its address in the field vector (R202). -/
def PassCtx.fibKey (c : PassCtx) (p : Pass) (ks : Nat) : Option (Nat × Nat × Nat × Nat) :=
  (c.book.fib?.bind fun t => t.ksRec? ks).map fun r =>
    (ofBe (selBytes c.parsed.fv p.md [] (word r 2)), left128 (selBytes c.parsed.fv p.md [] (word r 3)), wfld r 3 0 8, selLen (word r 3))

/-- A FIB slot (R184, R190–R192, R206). -/
def Pass.fibSlot (p : Pass) (c : PassCtx) (e : SlotEnt) : Pass :=
  if 2 ≤ p.nFib then p.after c e none
  else match c.fibKey p e.keysrc with
    | none => p.after c e none
    | some (pfx, addr, at0, len) =>
      let first := p.obs.isNone
      let p := { p with nFib := p.nFib + 1 }
      let p := if first then
          { p with obs := some (match c.parsed.origin c.frame at0 len with | some o => { kind := e.keysrc, offset := o, pfx := pfx } | none => {}) }
        else p
      let ok := first && p.spec == some (e.keysrc, pfx, addr)
      let p := if ok then { p with spec := none, dev := p.dev.bump bIPP 2 c.cluster 1 1 }
        else
          let p := if first then p.squash c else p
          { p with dev := (p.dev.bump bIPP 2 c.cluster 3 1).count bFIB 0x10 0 1 }
      p.after c e (((p.dev.rep c.region).fibFind e.keysrc pfx addr).map fibResult)

/-- An exact-match slot (R184, R220, R222). -/
def Pass.exmSlot (p : Pass) (c : PassCtx) (e : SlotEnt) : Pass :=
  match c.book.table? e.table with
  | none => p.after c e none
  | some t =>
    if 8 ≤ p.nExm then p.after c e none
    else
      let key := left128 (selKey c.parsed.fv p.md [] t.exmSel)
      let p := { p with nExm := p.nExm + 1, dev := (p.dev.bump bEXM 1 t.id 0 1).count bEXM 0x10 0 1 }
      match p.dev.exmFind (p.dev.rep c.region) t key with
      | none => p.after c e none
      | some (_, x) => ({ p with dev := p.dev.bump bEXM 1 t.id 1 1 }.effect c (.hit t.id key)).after c e (some (exmResult x))

/-- An associative-search slot (R184, R233–R236, R244). -/
def Pass.acsSlot (p : Pass) (c : PassCtx) (e : SlotEnt) : Pass :=
  match c.book.table? e.table with
  | none => p.after c e none
  | some t =>
    if 8 ≤ p.nAcs then p.after c e none
    else
      let r := p.dev.rep c.region
      let p := { p with nAcs := p.nAcs + 1, dev := (p.dev.bump bACS 2 t.id 0 1).count bACS 0x10 0 1 }
      match r.acsSearch t (selKey c.parsed.fv p.md [] t.acsSel) c.epoch with
      | none => p.after c e none
      | some (pos, multi) =>
        let d := p.dev.bump bACS 2 t.id 1 1
        { p with dev := if multi then d.bump bACS 2 t.id 2 1 else d }.after c e (some (r.acsResult pos multi))

/-- The condition of a slot holds (R183). -/
def Pass.cond (p : Pass) (e : SlotEnt) : Bool :=
  let present := p.mdN 16 8 / 2 ^ e.condHdr % 2 == 1
  e.cond == 0 || (e.cond == 1 && present) || (e.cond == 2 && !present)

/-- One slot of a stage; a dropped packet passes through untouched (R184, R187). -/
def Pass.slot (c : PassCtx) (stage slot : Nat) (p : Pass) : Pass :=
  match c.book.imap.find? fun e => e.stage == stage && e.slot == slot with
  | none => p
  | some e =>
    if p.drop.isSome || !p.cond e then p
    else if e.kind == 1 then p.acsSlot c e
    else if e.kind == 2 then p.exmSlot c e
    else if e.kind == 3 then p.fibSlot c e
    else if e.kind == 4 then (if e.hitProg == 0x3FFF then p else Pass.run c [] 32 e.hitProg p)
    else p

/-! ### Spotlight (R194–R196). -/

/-- A pattern matches somewhere in the window for an epoch. -/
def splMatch (value ctl : List W32) (window : List Byte) (epoch : Nat) : Bool :=
  let len := wfld ctl 1 0 6
  let lo := wfld ctl 1 8 8
  let hi := wfld ctl 1 16 8
  let v := wordsBytes value
  bit (word ctl 1) 6 && 1 ≤ len && len ≤ 32 && decide (lo ≤ hi) && !bit (word ctl 1) 7 && wfld ctl 1 24 8 == 0 && wfld ctl 2 16 16 == 0
    && bit (word ctl 2) epoch
    && (List.range 256).any fun o => decide (lo ≤ o) && decide (o ≤ hi) && decide (o + len ≤ window.length)
        && (List.range len).all fun i => !bit (word ctl 0) i || window.getD (o + i) 0 == v.getD i 0

/-- The patterns that match: those whose control words are not in their reset value can be valid. -/
def Dev.splHits (s : Dev) (window : List Byte) (epoch : Nat) : List Nat :=
  ((s.objs.filter fun e => keyBlk e.1 == bSPL && keyObj e.1 == 2).map fun e => keyIdx e.1).filter fun p =>
    splMatch (s.obj bSPL 1 p) (s.obj bSPL 2 p) window epoch

/-- The Spotlight result of a packet, with its counts (R195, R196, R199). -/
def Dev.spotlight (s : Dev) (c : PassCtx) : Dev × Nat :=
  if !s.variant.hasSpl || !bit (s.rg Reg.SPL_CFG c.cluster 0) 0 then (s, 0)
  else
    let hits := s.splHits ((c.frame.drop c.parsed.fin).take 256) c.epoch
    let s := s.bump bSPL 3 c.cluster 0 1
    match hits with
    | [] => (s, 0)
    | h :: l => (s.bump bSPL 3 c.cluster 1 1, 0x8000 + (if l.isEmpty then 0 else 0x1000) + l.foldl min h)

/-! ### The whole pass. -/

/-- The predictor's index and tag of a frame (R189). -/
def predHash (port : Nat) (frame : List Byte) : W32 := crc32c (BitVec.ofNat 8 port :: slice frame 0 16)
def predKey (port : Nat) (frame : List Byte) : Nat := port / 16 * 1024 + fld (predHash port frame) 0 10

/-- The entry of a frame, when it is valid and names the port and tag (R190). -/
def Dev.predEnt (s : Dev) (port : Nat) (frame : List Byte) : Option PredEnt :=
  match s.ing.pred.find? fun e => e.1 == predKey port frame with
  | some e => if e.2.port == port && e.2.tag == fld (predHash port frame) 16 16 then some e.2 else none
  | none => none

/-- The speculative launch at head entry (R190). -/
def Pass.launch (p : Pass) (c : PassCtx) : Pass :=
  if !bit (p.dev.rg Reg.IPP_PRED_CTRL c.cluster 0) 0 then p
  else match p.dev.predEnt c.port c.frame with
    | none => p
    | some e =>
      match c.book.fib?.bind fun t => t.ksRec? e.obs.kind with
      | none => p
      | some r =>
        let len := selLen (word r 3)
        if e.count != 64 || e.obs.kind == 0 || c.frame.length < e.obs.offset + len then p
        else { p with spec := some (e.obs.kind, e.obs.pfx, left128 (slice c.frame e.obs.offset len)),
                      dev := ((p.dev.bump bIPP 2 c.cluster 0 1).count bIPP 0x11 c.cluster 1 { port := some c.port }).count bFIB 0x10 0 1 }

/-- A drop by a program of a trusted packet is counted (R199). -/
def Pass.countDrop (p : Pass) (c : PassCtx) (good : Bool) : Pass :=
  if p.drop.isSome && good then { p with dev := p.dev.bump bIPP 1 c.port 3 1 } else p

/-- A default of R188, by its register's word: MODE, REASON, ARG. -/
def Pass.default (p : Pass) (c : PassCtx) (w : W32) (good : Bool) : Pass :=
  let mode := fld w 0 2
  if mode == 1 then
    let p := (Pass.run c [] 32 (fld w 16 14) p).countDrop c good
    if p.drop.isNone && p.dest == .unset then { p with drop := some 1 } else p
  else if mode == 2 then { p with dest := .ring (fld w 16 9) (fld w 8 8) }
  else { p with drop := some (fld w 8 8) }

/-- The metadata of a packet at head entry (R181). -/
def Dev.metadata (s : Dev) (port epoch prot : Nat) (frame : List Byte) (q : Parsed) : List Byte :=
  let w := s.pRg Reg.IPP_PORT_CFG port
  let whole := decide (frame.length + 4 ≤ 512)
  [BitVec.ofNat 8 port, BitVec.ofNat 8 epoch, BitVec.ofNat 8 (fld w 16 3), BitVec.ofNat 8 (min 2 (fld w 19 2))]
    ++ beBytes 2 (fld w 0 16) ++ beBytes 2 q.fin ++ [BitVec.ofNat 8 q.result, BitVec.ofNat 8 q.heads.length, BitVec.ofNat 8 prot, BitVec.ofNat 8 whole.toNat]
    ++ beBytes 2 (if whole then frame.length + 4 else 0) ++ [0, 0] ++ beBytes 8 q.present ++ List.replicate 16 0
    ++ slice (q.heads.map (BitVec.ofNat 8)) 0 24

/-- One of the port counters of IPP object 0x01 steps, for a frame that is not untrusted (R166, R199). -/
def Dev.portCount (s : Dev) (f : RxFrame) (n : Nat) : Dev := if f.good then s.bump bIPP 1 f.port n 1 else s

/-- The ingress pass of a frame of `port` (R174–R188): the pass, and the packet that then waits for its exit. -/
def Dev.ingressPass (s : Dev) (b : Book) (epoch : Nat) (f : RxFrame) (hold : Bool) : Pass × IngPkt :=
  let q := b.parse f.bytes
  let c : PassCtx := { port := f.port, epoch := epoch, book := b, frame := f.bytes, parsed := q, hold := hold }
  let p : Pass := ({ dev := s, md := s.metadata f.port epoch f.prot f.bytes q } : Pass).launch c
  let p : Pass :=
    if q.result != 0 then
      let d := (p.dev.portCount f 1).event bIPP 0
      { p with dev := d }.default c (s.pRg Reg.IPP_PORT_FAIL f.port) f.good
    else
      let (d, spl) := p.dev.spotlight c
      let p := (List.range 6).foldl (fun p m => Pass.slot c m 1 (Pass.slot c m 0 p)) { p with dev := d }
      let p := p.put 14 (beBytes 2 spl)
      let p := (List.range 10).foldl (fun p m => Pass.slot c (6 + m) 1 (Pass.slot c (6 + m) 0 p)) p
      if p.drop.isSome then p.countDrop c f.good
      else if p.dest == .unset then
        let d := (p.dev.portCount f 2).event bIPP 1
        { p with dev := d }.default c (s.pRg Reg.IPP_PORT_MISS f.port) f.good
      else p
  let p := p.squash c
  let hashed := if !b.hashed then [BitVec.ofNat 8 f.port] else selKey q.fv p.md [] b.hash
  let obs : Obs := if q.result != 0 || p.drop.isSome then {} else p.obs.getD {}
  (p, { port := f.port, frame := f.bytes, epoch := epoch, since := s.cue.tickNo, prot := f.prot, good := f.good, md := p.md, hashed := hashed,
        dest := p.dest, eq := p.eq, voq := p.voq, mirror := p.mirror, res := p.res, tsNs := f.tsNs, tsSec := f.tsSec,
        drop := p.drop, red := p.red, obs := obs })

/-! ### The ticket builder (R185, R197, R214, R274). -/

/-- The flow hash of a packet (R185). -/
def Dev.flowHash (s : Dev) (k : IngPkt) : W32 := crc32c (beBytes 4 (s.cfg k.since Reg.IPP_HASH_SEED 0 0).toNat ++ k.hashed)

/-- The ticket of a packet whose destination is known. -/
def Dev.ticketFor (s : Dev) (k : IngPkt) (hash : W32) (dkind : Nat) (dst : W32) (reason : Nat) (eq nh : Option Nat) (res : List Byte) : Option Ticket :=
  let tc := (k.md.getD 2 0).toNat
  let voq := match k.voq with | some v => some v | none => s.voqFor k.since dkind dst tc
  voq.map fun v =>
    { epoch := BitVec.ofNat 4 k.epoch, tc := BitVec.ofNat 3 tc, colour := BitVec.ofNat 2 (k.md.getD 3 0).toNat, prot := BitVec.ofNat 2 k.prot,
      dkind := BitVec.ofNat 2 dkind, mirror := BitVec.ofNat 4 k.mirror,
      frameLen := if k.frame.length + 4 ≤ 512 then BitVec.ofNat 14 (k.frame.length + 4) else 0,
      dst := dst, eqValid := eq.isSome, eq := BitVec.ofNat 17 (eq.getD 0), srcPort := BitVec.ofNat 8 k.port, voq := BitVec.ofNat 17 v,
      flowHash := hash, tsNs := w32 k.tsNs, tsSec := w32 k.tsSec, reason := BitVec.ofNat 8 reason,
      nhValid := nh.isSome, nhIndex := BitVec.ofNat 20 (nh.getD 0), res := res }

/-- How the ticket builder ends. -/
inductive Built
  | ticket (k : Ticket)
  /-- Dropped with a reason, or red, or without a VOQ. -/
  | dropped
  deriving DecidableEq, Repr

/-- A ticket, or a no-VOQ drop (R274, R275, R292). -/
def Dev.orNoVoq (s : Dev) (good : Bool) (t : Option Ticket) : Dev × Built :=
  match t with
  | some k => (s, .ticket k)
  | none => (if good then (s.bump bSCH 0x20 0 0 1).event bSCH 1 else s, .dropped)

/-- Build the ticket of a packet (R197, R214): untrusted packets are not counted. -/
def Dev.buildTicket (s : Dev) (b : Book) (k : IngPkt) : Dev × Built :=
  let hash := s.flowHash k
  let cl := k.port / 16
  let tally (s : Dev) (n : Nat) : Dev := if k.good then s.bump bFIB 3 cl n 1 else s
  if k.drop.isSome then (s, .dropped)
  else match k.red with
  | some i => (if k.good then (s.bump bPOL 3 i 3 1).event bPOL 0 else s, .dropped)
  | none =>
    match k.dest with
    | .unset => (s, .dropped)
    | .sysPort sp => s.orNoVoq k.good (s.ticketFor k hash 0 (at_ 10 22 sp) 0 k.eq none k.res)
    | .group g => s.orNoVoq k.good (s.ticketFor k hash 1 (at_ 0 20 g) 0 k.eq none k.res)
    | .ring r reason => s.orNoVoq k.good (s.ticketFor k hash 2 (at_ 0 9 r) reason k.eq none k.res)
    | .nextHop n =>
      match b.nht? with
      | none => (tally s 2, .dropped)
      | some t =>
        match s.nhResolve (s.rep (k.port / 128)) t n hash with
        | .invalid => (tally s 2, .dropped)
        | .noPath => ((tally s 1).eventIf k.good bFIB 3, .dropped)
        | .dropped => (tally s 3, .dropped)
        | .used i e backup =>
          let s := if backup then (tally s 0).count bFIB 0x11 0 1 else s
          let kind := wfld e 0 28 3
          let eq := if bit (word e 0) 27 then some (wfld e 2 0 17) else k.eq
          let n := fld (t.w 0 1) 8 3
          let res := patch k.res (fld (t.w 0 1) 0 5) (beBytes n (wordN e 3))
          if kind == 1 then s.orNoVoq k.good (s.ticketFor k hash 0 (at_ 10 22 (wfld e 1 0 22)) 0 eq (some i) res)
          else if kind == 3 then s.orNoVoq k.good (s.ticketFor k hash 1 (at_ 0 20 (wfld e 1 0 20)) 0 eq (some i) res)
          else if kind == 4 then s.orNoVoq k.good (s.ticketFor k hash 2 (at_ 0 9 (wfld e 1 0 9)) (wfld e 1 24 8) eq (some i) res)
          else (tally s 3, .dropped)

end Sys2Proof.Machine
end

