-- ==== Sys2Proof/Machine/PromptBook.lean ====
section
/-! DEFINITION. The Prompt Book loader (R99–R109). -/
namespace Sys2Proof.Machine

def Dev.pbkState (s : Dev) : Nat := s.rf Reg.PBK_STATE 0 0 0 4
def Dev.pbkCase (s : Dev) : Nat := s.rf Reg.PBK_STATE 0 0 16 3
def Dev.pbkBusy (s : Dev) : Bool := bit (s.rg Reg.PBK_STATE 0 0) 24

/-- Set PBK_STATE: STATE, CODE, CASE, BUSY. -/
def Dev.setPbk (s : Dev) (st code case : Nat) (busy : Bool) : Dev :=
  s.wg Reg.PBK_STATE 0 0 (at_ 0 4 st ||| at_ 8 8 code ||| at_ 16 3 case ||| atB 24 busy)

/-- An operation is refused: CODE and event 4, the state unchanged (R101, R106). -/
def Dev.pbkRefuse (s : Dev) (code : Nat) : Dev := (s.wf Reg.PBK_STATE 0 0 8 8 code).event bPBK 4

/-- STATE with no operation running and nothing checked. -/
def Dev.pbkStable (s : Dev) : Nat := if s.pbk.inForce.isSome then 1 else 0

/-! ### Classification (R99). -/

/-- The tables that an egress map names. -/
def Book.egressIds (b : Book) : List Nat := (b.emap.filter fun e => e.kind == 2).map SlotEnt.table

/-- Two associative-search shapes differ in banks, bank width, units or EPOCHED. -/
def acsHard (a b : TShape) : Bool :=
  a.alloc != b.alloc || a.alloc2 != b.alloc2 || a.w 0 0 != b.w 0 0 || a.w 0 1 != b.w 0 1 || a.w 0 2 != b.w 0 2

/-- A shape without its RESHAPE mark. -/
def TShape.bare (t : TShape) : TShape := { t with reshape := false }

/-- The reason bit of a table that both books hold, when the difference asks for more than an epoch.
DESIGN CHOICE (log entry 119): two shapes that differ only in their RESHAPE mark do not differ. -/
def tableReason (a b : TShape) : Option Nat :=
  if a.tkind != b.tkind then some 4
  else if a.bare == b.bare then none
  else if a.tkind == 1 then if acsHard a b || !a.reshape || !b.reshape then some 0 else none
  else if a.tkind == 2 then some 1 else if a.tkind == 3 then some 2 else some 3

/-- The tables of the F-die ingress pipelines, and those of the egress pipeline. -/
def Book.ingressTables (b : Book) : List TShape := b.tables.filter fun t => !b.egressIds.contains t.id
def Book.egressTables (b : Book) : List TShape := b.tables.filter fun t => b.egressIds.contains t.id

/-- The shape of a table in a list, by its ID. -/
def shapeIn (l : List TShape) (i : Nat) : Option TShape := l.find? fun t => t.id == i

/-- The ingress tables whose shape differs so that they must be rebuilt, or that are added or removed, with their reasons. -/
def tableChanges (old new : Book) : List (Nat × Nat) :=
  let ids := ((old.ingressTables ++ new.ingressTables).map TShape.id).eraseDups
  ids.filterMap fun i =>
    match shapeIn old.ingressTables i, shapeIn new.ingressTables i with
    | some a, some b => (tableReason a b).map fun r => (i, r)
    | none, none => none
    | _, _ => some (i, 4)

/-- An egress table's shape differs. -/
def egressChanged (old new : Book) : Bool :=
  (old.egressIds ++ new.egressIds).any fun i => (shapeIn old.egressTables i).map TShape.bare != (shapeIn new.egressTables i).map TShape.bare

/-- A range of one book lies in the snapshot area of the other. -/
def snapClash (a b : Book) : Bool :=
  b.snap != 0 && a.ranges.any fun r => decide (b.alloc - b.snap < r.first + 131072) && decide (r.first < b.alloc)

/-- PBK_REASONS of a checked book against the one in force. -/
def bookReasons (old new : Book) : Nat :=
  let t := (tableChanges old new).map Prod.snd
  let b (i : Nat) (p : Bool) : Nat := if p then 2 ^ i else 0
  b 0 (t.contains 0) + b 1 (t.contains 1) + b 2 (t.contains 2) + b 3 (t.contains 3) + b 4 (t.contains 4)
    + b 5 (egressChanged old new) + b 6 (old.xsize != new.xsize || old.carried != new.carried)
    + b 7 (old.alloc < new.alloc || old.snap < new.snap || snapClash old new || snapClash new old || old.hbmUse != new.hbmUse)

/-- The case: 1 COLD, 2 EPOCH, 3 REGION, 4 RESTART. -/
def bookCase (old : Option Book) (new : Book) : Nat × Nat :=
  match old with
  | none => (1, 0)
  | some o =>
    let r := bookReasons o new
    (if 32 ≤ r then 4 else if r != 0 then 3 else 2, r)

/-! ### CHECK (R102). -/

/-- A flash slot of the update agent (0 FW0, 1 FW1, 2 BOOK0, 3 BOOK1). -/
def Dev.flash (s : Dev) (k : Nat) : FlashSlot := mget {} s.upd.slots k

/-- The update agent is downloading into, or erasing, slot `k` (R420). -/
def Dev.slotBusy (s : Dev) (k : Nat) : Bool :=
  bit (s.rg Reg.UPD_STATUS 0 0) 1 && (fld s.upd.cmd 0 4 == 1 || fld s.upd.cmd 0 4 == 6) && fld s.upd.cmd 4 1 * 2 + fld s.upd.cmd 5 1 == k

/-- The HBM address of staging. -/
def Dev.stageAddr (s : Dev) : Nat := fld (s.rg Reg.PBK_STAGE_ADDR_LO 0 0) 12 20 * 4096 + 2 ^ 32 * fld (s.rg Reg.PBK_STAGE_ADDR_HI 0 0) 0 5

/-- Nothing has written the `n` bytes of HBM from `a` on. -/
def Dev.hbmBlank (s : Dev) (a n : Nat) : Bool := s.hbm.mem.all fun c => decide (c.1 < a) || decide (a + n ≤ c.1)

/-- The image that SRC names, or the code for which it cannot be read (R102 step 1): an image in HBM lies in the host area of a stack that serves (log entry 47).
Staging whose header nothing has written, or is no header of a book, holds no image: what BODY_LEN it shows is not followed. -/
def Dev.pbkSource (s : Dev) : Except Nat (List Byte) :=
  let src := s.rf Reg.PBK_LOAD_CTRL 0 0 0 2
  if src == 3 then .error 2
  else if src < 2 then if s.slotBusy (2 + src) then .error 2 else .ok (s.flash (2 + src)).image
  else
    let a := s.stageAddr
    if !s.inHostArea a 128 || !s.stackServes (a / 2 ^ 34) then .error 2
    else if s.hbmBlank a 128 then .ok []
    else if bookEnvBad (bytesWords 32 (s.hbmBytes a 128)) (2 ^ 37) then .ok (s.hbmBytes a 128)
    else
      let n := 224 + min 67108864 (envBodyLen (bytesWords 32 (s.hbmBytes a 128)))
      if !s.inHostArea a n then .error 2 else .ok (s.hbmBytes a n)

/-- Fetch, verify and validate: what the check will end with. -/
def Dev.checkStart (s : Dev) (op : Nat) : Dev :=
  let r : Except Nat Book := match s.pbkSource with
    | .error c => .error c
    | .ok img => s.checkImage img
  let (code, book) := match r with
    | .error c => (c, none)
    | .ok b => (0, some b)
  let cr := match book with
    | some b => bookCase s.pbk.inForce b
    | none => (0, 0)
  let s := { s with pbk := { s.pbk with checked := none, busyOp := op, phase := 0, code := code, result := book, case := cr.1, reasons := cr.2 } }
  s.setPbk 2 (s.rf Reg.PBK_STATE 0 0 8 8) 0 true

/-- CHECK: from NONE, ACTIVE or CHECKED (R101). -/
def Dev.pbkCheck (s : Dev) : Dev :=
  if s.pbkBusy || !([0, 1, 3].contains s.pbkState) then s.pbkRefuse 0x0D else s.checkStart 1

/-! ### Tables cleared and formatted (R107, R109, R433). -/

/-- Clear what a replica holds of a table with shape `t`. -/
def Rep.clear (r : Rep) (t : TShape) : Rep :=
  if t.tkind == 1 then
    { r with acs := r.acs.filter fun e => !banksOf t (e.1 / 4096), bad := r.bad.filter fun b => !(b % 8 == 5 && banksOf t (b / 8 / 4096)) }
  else if t.tkind == 2 then
    { r with exm := r.exm.filter fun e => e.1 / 2 ^ 22 != t.id, bad := r.bad.filter fun b => !(b % 8 == 4 && b / 8 / 2 ^ 22 == t.id) }
  else if t.tkind == 3 then { r with routes := [], bad := r.bad.filter fun b => b % 8 != 0 }
  else { r with nh := [], ecmp := [], members := [], bad := r.bad.filter fun b => !(1 ≤ b % 8 && b % 8 ≤ 3) }

/-- Clear a table in its old and new shapes in the replicas of region `r`. -/
def Dev.formatIn (s : Dev) (old new : Option Book) (i r : Nat) : Dev :=
  let ts := (([old, new].filterMap id).flatMap Book.tables).filter fun t => t.id == i
  let f (x : Rep) : Rep := ts.foldl Rep.clear x
  let s := if r == 0 then { s with rep0 := f s.rep0 } else { s with rep1 := f s.rep1 }
  { s with int := { s.int with loaded := addKey s.int.loaded (r * 128 + i), differ := s.int.differ.filter fun d => d / 4096 != i } }

/-- The intended content of a table is cleared with it. -/
def Dev.formatIntent (s : Dev) (old new : Option Book) (i : Nat) : Dev :=
  let ts := (([old, new].filterMap id).flatMap Book.tables).filter fun t => t.id == i
  { s with intent := ts.foldl Rep.clear s.intent }

/-- A formatted table's active seed is the book's default again; a rehash in progress finds no old entry left, so it is over. -/
def Dev.seedDefault (s : Dev) (i : Nat) : Dev :=
  let s := s.rehashOver i
  { s with tbl := { s.tbl with seeds := merase s.tbl.seeds i } }

/-! ### Putting a book into force (R100, R104, R107). -/

/-- Empty the predictors of every cluster (R104, R193). -/
def Dev.predFlushAll (s : Dev) : Dev :=
  let s := { s with ing := { s.ing with pred := [] } }
  s.event bIPP 3

/-- The hierarchy of `new` replaces that of `old` (R100, R286): queues that lose their attachment are flushed; nodes that go lose their buckets and deficits; the buckets of nodes that come are full. -/
def Dev.hierApply (s : Dev) (old new : Option Book) : Dev :=
  let keys (b : Option Book) : List Nat := ((b.map Book.hier).getD []).map fun h => nodeKey h.level h.num
  let gone := (keys old).filter fun k => !(keys new).contains k
  let s := (gone.filter fun k => k / 2 ^ 17 == 3).foldl (fun (s : Dev) k =>
    let q := nQ + k % 2 ^ 17
    if (s.queue q).pkts.isEmpty then s else s.flushQ q (countFlushed q)) s
  let fresh := (keys new).filter fun k => !(keys old).contains k
  let keep {α : Type} (m : List (Nat × α)) : List (Nat × α) := m.filter fun e => !gone.contains e.1 && !fresh.contains e.1
  { s with tm := { s.tm with nodeC := keep s.tm.nodeC, nodeP := keep s.tm.nodeP, deficits := keep s.tm.deficits } }

/-- The counter map applies: ALLOC and SNAP (R99, R446). `zero` starts every pair at zero (R473). -/
def Dev.mapApply (s : Dev) (b : Book) (zero : Bool) : Dev :=
  let s := { s with sta := { s.sta with alloc := b.alloc, snap := b.snap } }
  if zero then { s with sta := { s.sta with hbm := [], cache := [], invalid := [], gens := s.hbm.gen } } else s

/-! ### STAGE, ABORT, the split (R103, R108, R109). -/

def Dev.pbkStage (s : Dev) : Dev :=
  if s.pbkBusy || s.pbkState != 3 then s.pbkRefuse 0x0D
  else if s.pbkCase == 1 || s.pbkCase == 4 then s.pbkRefuse 0x11
  else if s.retiring.isSome then s.pbkRefuse 0x0E
  else ({ s with pbk := { s.pbk with busyOp := 2 } }).setPbk 4 (s.rf Reg.PBK_STATE 0 0 8 8) s.pbkCase true

/-- Staging ends: STAGED, the split open in case REGION. -/
def Dev.pbkStaged (s : Dev) : Dev :=
  if s.pbkState != 4 then s
  else
    let s := ({ s with pbk := { s.pbk with busyOp := 0 } }).setPbk 5 0 s.pbkCase false
    let s := match s.pbkCase == 3, s.pbk.inForce, s.pbk.checked with
      | true, some o, some n =>
        ({ s with pbk := { s.pbk with changed := (tableChanges o n).map Prod.fst } }).wf Reg.PBK_SPLIT 0 0 8 3 1
      | _, _, _ => s
    s.event bPBK 1

/-- Forget the checked or staged book. -/
def Dev.pbkForget (s : Dev) : Dev := { s with pbk := { s.pbk with checked := none, result := none, changed := [], former := none } }

/-- ABORT in STAGED: reshaped regions return to the shapes of the book in force, and an open split closes. -/
def Dev.splitUndo (s : Dev) : Dev :=
  let was := s.splitOpen
  let undo (s : Dev) (r : Nat) : Dev :=
    if s.reshaped r then s.pbk.changed.foldl (fun (s : Dev) i => (s.formatIn s.pbk.inForce s.pbk.checked i r).formatIntent s.pbk.inForce s.pbk.checked i) s else s
  let s := undo (undo s 0) 1
  (s.wf Reg.PBK_SPLIT 0 0 8 3 0).eventIf was bPBK 6

def Dev.pbkAbort (s : Dev) : Dev :=
  if s.pbkBusy then s.pbkRefuse 0x0D
  else if s.pbkState == 3 then (s.pbkForget).setPbk s.pbkStable 0 0 false
  else if s.pbkState == 5 then (s.splitUndo.pbkForget).setPbk 1 0 0 false
  else s.pbkRefuse 0x0D

/-- A packet of a cluster of region `r` is in its ingress section (R82): in the pipeline, on its way to the T-die, or not yet committed there. -/
def Dev.inIngress (s : Dev) (r : Nat) : Bool :=
  s.ing.pipe.any (fun k => k.port / 128 == r)
    || (s.tm.urgent ++ s.tm.general).any (fun e => e.1 / 8 == r && !e.2.isEmpty)
    || s.tm.packed.any (fun x => x.1.ticket.srcPort.toNat / 128 == r)
    || s.tm.arriving.any (fun a => a.key.isNone && a.pkt.ticket.srcPort.toNat / 128 == r)

def Dev.splitStates (s : Dev) : Bool := s.splitOpen && [5, 6, 7].contains s.pbkState

/-- RESHAPE_REGION r (R109). -/
def Dev.pbkReshape (s : Dev) (r : Nat) : Dev :=
  if s.pbkBusy || !s.splitStates then s.pbkRefuse 0x0D
  else if !bit (s.rg Reg.PBK_SPLIT 0 0) r || s.inIngress r then s.pbkRefuse 0x10
  else ({ s with pbk := { s.pbk with busyOp := 5, region := r } }).wf Reg.PBK_STATE 0 0 24 1 1

/-- The region's changed tables are formatted. -/
def Dev.pbkReshaped (s : Dev) : Dev :=
  if s.pbk.busyOp != 5 then s
  else
    let r := s.pbk.region
    let o := s.oldBook
    let n := s.newBook
    let first := !s.reshaped (1 - r)
    let s := s.pbk.changed.foldl (fun (s : Dev) i =>
      let s := s.formatIn o n i r
      if first then s.formatIntent o n i else s) s
    let s := { s with pbk := { s.pbk with busyOp := 0 } }
    ((s.wf Reg.PBK_SPLIT 0 0 (9 + r) 1 1).setPbk s.pbkState 0 s.pbkCase false).event bPBK 5

/-- END_SPLIT (R109). -/
def Dev.pbkEndSplit (s : Dev) : Dev :=
  if s.pbkBusy || !s.splitStates then s.pbkRefuse 0x0D
  else if !s.reshaped 0 || !s.reshaped 1 then s.pbkRefuse 0x12
  else
    let done := s.pbkState == 7
    let s := s.pbk.changed.foldl (fun (s : Dev) i => s.seedDefault i) s
    let s := s.wf Reg.PBK_SPLIT 0 0 8 1 0
    let s := if done then { s with pbk := { s.pbk with changed := [], former := none } } else s
    (s.setPbk (if done then 1 else s.pbkState) 0 (if done then 0 else s.pbkCase) false).event bPBK 6

/-! ### Binding and release (R104). -/

/-- An epoch commit fires at this tick: a staged book is bound, a staging is abandoned. -/
def Dev.pbkCommit (s : Dev) : Dev :=
  if s.pbkState == 5 && !s.pbkBusy then
    match s.pbk.checked with
    | none => s
    | some b =>
      let o := s.pbk.inForce
      let s := s.hierApply o (some b)
      let s := { s with pbk := { s.pbk with inForce := some b, old := o, checked := none } }
      let s := (s.mapApply b false).predFlushAll
      (s.setPbk 6 (s.rf Reg.PBK_STATE 0 0 8 8) s.pbkCase false).event bPBK 2
  else if s.pbkState == 4 then
    (({ s with pbk := { s.pbk with busyOp := 0 } }).pbkForget.setPbk 1 0x0F 0 false).event bPBK 4
  else if s.pbkState == 5 && s.pbk.busyOp == 5 then
    -- a RESHAPE_REGION runs on while the commit binds
    match s.pbk.checked with
    | none => s
    | some b =>
      let o := s.pbk.inForce
      let s := s.hierApply o (some b)
      let s := { s with pbk := { s.pbk with inForce := some b, old := o, checked := none } }
      let s := (s.mapApply b false).predFlushAll
      (s.setPbk 6 (s.rf Reg.PBK_STATE 0 0 8 8) s.pbkCase true).event bPBK 2
  else s

/-- The retiring epoch is freed or quarantined: the old book is released (R101, R104). -/
def Dev.pbkRelease (s : Dev) : Dev :=
  if s.pbkState != 6 then s
  else
    let st := if s.splitOpen then 7 else 1
    let s := if st == 1 then { s with pbk := { s.pbk with old := none, changed := [] } }
      else { s with pbk := { s.pbk with old := none, former := s.pbk.old } }
    (s.setPbk st (s.rf Reg.PBK_STATE 0 0 8 8) (if st == 7 then s.pbkCase else 0) s.pbkBusy).event bPBK 3

/-! ### COLD_INSTALL (R107). -/

/-- A checked book is installed: over a book in force the drains are set first. -/
def Dev.coldBegin (s : Dev) : Dev :=
  if s.pbk.inForce.isNone then { s with pbk := { s.pbk with busyOp := 4, phase := 2 } }
  else
    let s := s.wf Reg.PBK_SPLIT 0 0 0 2 3
    let s := s.setWing Reg.PBK_SPLIT 0 0 (setFld (s.wing Reg.PBK_SPLIT 0 0) 0 2 3)
    { s with pbk := { s.pbk with busyOp := 4, phase := 1, drainFrom := s.cue.localNs } }

/-- The Lead can start the installation of the book in force: the loader is idle in ACTIVE or CHECKED, and no retiring epoch is live (R101, R107). -/
def Dev.canReinstall (s : Dev) : Bool := !s.pbkBusy && (s.pbkState == 1 || s.pbkState == 3) && s.retiring.isNone

/-- The Lead has the book in force installed again after a loss of the F-die's tables (R469, R471): a COLD_INSTALL of the book the loader holds, with its drains, but without a fetch; a book that was only checked gives way to it (log entry 98). -/
def Dev.reinstall (s : Dev) : Dev :=
  match s.pbk.inForce with
  | none => s
  | some b =>
    if !s.canReinstall then s
    else
      let c := bookCase (some b) b
      let s := { s with pbk := { s.pbk with checked := some b, result := none, case := c.1, reasons := c.2 } }
      ((s.wg Reg.PBK_REASONS 0 0 (w32 c.2)).setPbk 3 0 c.1 true).coldBegin

def Dev.pbkCold (s : Dev) : Dev :=
  if s.pbkBusy || !([0, 1, 3].contains s.pbkState) then s.pbkRefuse 0x0D
  else if s.retiring.isSome then s.pbkRefuse 0x0E
  else if s.pbkState == 3 then (s.setPbk 3 (s.rf Reg.PBK_STATE 0 0 8 8) s.pbkCase true).coldBegin
  else s.checkStart 4

/-- A check ends (R101, R102, R107): `err` says that a read of the image met an uncorrectable error. -/
def Dev.checkEnds (s : Dev) (err : Bool) : Dev :=
  if s.pbkState != 2 then s
  else
    let op := s.pbk.busyOp
    let hbm := s.rf Reg.PBK_LOAD_CTRL 0 0 0 2 == 2
    let s := if err && hbm then s.hbmErr 1 8 s.stageAddr else s
    let code := if err then 2 else s.pbk.code
    match code, s.pbk.result with
    | 0, some b =>
      let c := s.pbk.case
      let s := { s with pbk := { s.pbk with checked := some b, result := none, busyOp := 0 } }
      let s := s.wg Reg.PBK_REASONS 0 0 (w32 s.pbk.reasons)
      let s := (s.setPbk 3 0 c (op == 4)).event bPBK 0
      if op == 4 then s.coldBegin else s
    | c, _ =>
      let s := { s with pbk := { s.pbk with busyOp := 0, checked := none, result := none } }
      (s.setPbk s.pbkStable c 0 false).event bPBK 4

/-- Every packet the device still holds is flushed as a straggler (R89, R107): pipelines, crossings, queues, replication, what waits for the egress pipeline. -/
def Dev.drainFlush (s : Dev) : Dev :=
  let out (s : Dev) (e : Nat) : Dev := (s.houseOut e 1).countStale false
  let s := s.ing.pipe.foldl (fun (s : Dev) k => out s k.epoch) s
  let s := { s with ing := { s.ing with pipe := [] } }
  let s := (s.tm.urgent ++ s.tm.general).foldl (fun (s : Dev) e => e.2.foldl (fun s x => out s x.ticket.epoch.toNat) s) s
  let s := s.tm.packed.foldl (fun (s : Dev) x => out s x.1.ticket.epoch.toNat) s
  let s := { s with tm := { s.tm with urgent := [], general := [], packed := [] } }
  let s := s.tm.arriving.foldl (fun (s : Dev) a => if a.linked then s else ((s.setArriving a none).dropArriving a).countStale false) s
  let s := s.busyQueues.foldl (fun s q => s.flushQ q fun s _ => s.countStale false) s
  let s := s.tm.repl.foldl (fun (s : Dev) j => (s.freeCopy j.pkt 3).countStale false) s
  let s := s.tm.toEgress.foldl (fun (s : Dev) e => out s e.ticket.epoch.toNat) s
  { s with tm := { s.tm with repl := [], toEgress := [] } }

/-- No live epoch holds a packet, in the epochs live at this moment (R107). -/
def Dev.houseEmpty (s : Dev) : Bool := (s.epochNow :: s.retiring.toList).all fun e => s.houseOf e == 0

/-- The drain of a COLD_INSTALL is over: the house count of every live epoch is zero, or CUE_RETAIN.LIMIT_MS has passed since it began (R107). -/
def Dev.drainOver (s : Dev) : Bool := s.houseEmpty || decide (s.pbk.drainFrom + s.retainMs * 1000000 ≤ s.cue.localNs)

/-- The drain ends: packets still held are flushed as stragglers. -/
def Dev.coldDrained (s : Dev) : Dev :=
  if s.pbk.busyOp != 4 || s.pbk.phase != 1 || !s.drainOver then s
  else
    let s := if s.houseEmpty then s else s.drainFlush
    { s with pbk := { s.pbk with phase := 2 } }

/-- Installation completes. -/
def Dev.coldDone (s : Dev) : Dev :=
  if s.pbk.busyOp != 4 || s.pbk.phase != 2 then s
  else match s.pbk.checked with
    | none => s
    | some b =>
      let o := s.pbk.inForce
      let ids := (((o.map Book.tables).getD [] ++ b.tables).map TShape.id).eraseDups
      let find (x : Option Book) (i : Nat) : Option TShape := (shapeIn ((x.map Book.tables).getD []) i).map TShape.bare
      let s := (ids.filter fun i => find o i != find (some b) i || !s.int.loaded.contains i || !s.int.loaded.contains (128 + i)).foldl (fun (s : Dev) i =>
        (((s.formatIn o (some b) i 0).formatIn o (some b) i 1).formatIntent o (some b) i).seedDefault i) s
      let s := s.hierApply o (some b)
      let s := { s with pbk := { s.pbk with inForce := some b, old := none, checked := none, busyOp := 0, changed := [], former := none } }
      let s := s.mapApply b (match o with | none => true | some x => x.hbmUse != b.hbmUse)
      let s := (s.wf Reg.DVT_XSIZE 0 0 0 7 b.xsize).predFlushAll
      s.setPbk 1 0 0 false

/-- A write of PBK_CMD whose OP has no command of its own: 7–15 are refused, 0 does nothing (PBK_CMD). -/
def Dev.pbkOther (s : Dev) (op : Nat) : Dev := if op == 0 then s else if s.pbkBusy then s.pbkRefuse 0x0D else s.pbkRefuse 0x0C

/-- A write of PBK_CMD. -/
def Dev.pbkCmd (s : Dev) (q : Req) (act : Dev → Dev) : Dev := s.gateWrite q Reg.PBK_CMD 0 0 fun s _ => act s

/-! ### Commands. -/

/-- CHECK (R102). -/
def execCheck (q : Req) (s : State) : Host.Outcome State Fault Refusal := s.on fun d => d.pbkCmd q Dev.pbkCheck
/-- CHECK_COMPLETE (R102). -/
def execCheckComplete (err : Bool) (s : State) : Host.Outcome State Fault Refusal := s.on fun d => d.checkEnds err
/-- STAGE (R103). -/
def execStage (q : Req) (s : State) : Host.Outcome State Fault Refusal := s.on fun d => d.pbkCmd q Dev.pbkStage
/-- STAGE_COMPLETE (R108). -/
def execStageComplete (s : State) : Host.Outcome State Fault Refusal := s.on fun d => d.pbkStaged
/-- ABORT (R109). -/
def execAbort (q : Req) (s : State) : Host.Outcome State Fault Refusal := s.on fun d => d.pbkCmd q Dev.pbkAbort
/-- COLD_INSTALL (R107). -/
def execColdInstall (q : Req) (s : State) : Host.Outcome State Fault Refusal := s.on fun d => d.pbkCmd q Dev.pbkCold
/-- COLD_INSTALL_DRAIN_END (R107). -/
def execColdInstallDrainEnd (s : State) : Host.Outcome State Fault Refusal := s.on fun d => d.coldDrained
/-- COLD_INSTALL_COMPLETE (R107). -/
def execColdInstallComplete (s : State) : Host.Outcome State Fault Refusal := s.on fun d => d.coldDone
/-- RESHAPE_REGION (R109). -/
def execReshapeRegion (q : Req) (r : Fin 2) (s : State) : Host.Outcome State Fault Refusal := s.on fun d => d.pbkCmd q fun d => d.pbkReshape r
/-- RESHAPE_REGION_COMPLETE (R109). -/
def execReshapeRegionComplete (s : State) : Host.Outcome State Fault Refusal := s.on fun d => d.pbkReshaped
/-- END_SPLIT (R109). -/
def execEndSplit (q : Req) (s : State) : Host.Outcome State Fault Refusal := s.on fun d => d.pbkCmd q Dev.pbkEndSplit

end Sys2Proof.Machine
end

