-- ==== Sys2Proof/Machine/Update.lean ====
section
/-! DEFINITION. The update agent: flash slots, commands, activation in service, cold boots, fuses, the crash log (R407–R424). -/
namespace Sys2Proof.Machine

/-! ### Slots and images (R407–R412). Slot `k`: 0 FW0, 1 FW1, 2 BOOK0, 3 BOOK1. -/

def Dev.setFlash (s : Dev) (k : Nat) (f : FlashSlot) : Dev := { s with upd := { s.upd with slots := mset {} s.upd.slots k f } }

/-- 0 EMPTY, 1 DOWNLOADED, 2 VERIFIED, 3 INVALID (R409). -/
def FlashSlot.state (f : FlashSlot) : Nat := if !f.commit then 0 else if f.invalid then 3 else if f.verified then 2 else 1

/-- The envelope of a firmware or enrolment image is malformed (R410, R411). -/
def fwEnvBad (ws : List W32) (img : List Byte) : Bool :=
  let kind := wfld ws 1 16 8
  let body := bytesWords 28 (slice img 128 112)
  wordN ws 0 != 0x4B425050 || wfld ws 1 0 16 != 1 || wfld ws 1 24 8 != 0 || !(kind == 1 || kind == 3) || wfld ws 2 19 13 != 0
    || envBodyLen ws % 16 != 0 || img.length != 224 + envBodyLen ws
    || (List.range 10).any (fun i => wordN ws (8 + i) != 0)
    || wfld ws 20 1 31 != 0 || (List.range 11).any (fun i => wordN ws (21 + i) != 0)
    || (kind == 1 && (envBodyLen ws < 16 || decide (16711456 < envBodyLen ws)))
    || (kind == 3 && (envBodyLen ws != 112 || wordN ws 7 != 0 || wfld body 0 0 2 == 0 || wfld body 0 2 6 != 0 || wfld body 0 9 23 != 0
        || wordN body 1 != 0 || wordN body 26 != 0 || wordN body 27 != 0))

/-- The unit's ID (R425). -/
def unitId : Nat := ofLe (slice (Config.unitBytes 1) 0 8)

/-- Why a firmware or enrolment image does not verify, as a CODE (R410–R412, R420). -/
def Dev.fwImageBad (s : Dev) (img : List Byte) : Option Nat :=
  let ws := envWords img
  let unit := wordN ws 18 + 2 ^ 32 * wordN ws 19
  let key := wfld ws 20 0 1
  firstFail [(fwEnvBad ws img, 5), (!envFits s.variant ws || (unit != 0 && unit != unitId), 6), (wordN ws 3 < s.upd.fwFloor, 7),
    (s.upd.revoked / 2 ^ key % 2 == 1, 9), (!Config.ecdsaVerify (Config.unitBytes (3 + key)) (slice img 0 128 ++ envBody img) (envSig img), 8)]

/-- Why a book image does not verify: the decryption is left to the loader (R420). -/
def Dev.bookImageBad (s : Dev) (img : List Byte) : Option Nat :=
  let ws := envWords img
  firstFail [(bookEnvBad ws img.length, 5), (!envFits s.variant ws, 6), (wordN ws 3 < s.upd.bookFloor, 7), (!s.bookSigned img, 8)]

def Dev.imageBad (s : Dev) (k : Nat) : Option Nat := if k < 2 then s.fwImageBad (s.flash k).image else s.bookImageBad (s.flash k).image

/-- SET_FMT of a firmware image (R410). -/
def Dev.setFmt (s : Dev) (k : Nat) : Nat := wfld (envWords (s.flash k).image) 7 16 16

/-- The slot is active, or on trial (R420). -/
def Dev.slotInUse (s : Dev) (k : Nat) : Bool :=
  let b := s.upd.boot
  if k < 2 then b.fwActive == k || (b.fwTrial && b.fwTrialSlot == k) else b.bookActive + 2 == k || (b.bookTrial && b.bookTrialSlot + 2 == k)

/-- The loader is reading the slot. -/
def Dev.slotRead (s : Dev) (k : Nat) : Bool := decide (2 ≤ k) && s.pbkState == 2 && s.rf Reg.PBK_LOAD_CTRL 0 0 0 2 + 2 == k

/-! ### The command register (R420). -/

/-- A command ends: DONE, CODE, event 0 or 1. -/
def Dev.updEnd (s : Dev) (code : Nat) : Dev :=
  let p := if code == 0 then 100 else s.rf Reg.UPD_STATUS 0 0 16 7
  let s := { s with upd := { s.upd with cmd := 0, code := 0, work := [], held := false } }
  (s.wg Reg.UPD_STATUS 0 0 (at_ 0 1 1 ||| at_ 8 8 code ||| at_ 16 7 p)).event bUPD (if code == 0 then 0 else 1)

/-- A command goes on: it will end with `code`, and carries `work`. -/
def Dev.updGoes (s : Dev) (code : Nat) (work : List Byte) : Dev :=
  let s := { s with upd := { s.upd with code := code, work := work, held := false } }
  s.wg Reg.UPD_STATUS 0 0 (at_ 1 1 1)

/-- The slot that the command in progress names. -/
def Dev.updSlot (s : Dev) : Nat := fld s.upd.cmd 4 1 * 2 + fld s.upd.cmd 5 1

/-- The source of a command. -/
def Dev.updSrc (s : Dev) : Nat := fld (s.rg Reg.UPD_SRC_LO 0 0) 12 20 * 4096 + 2 ^ 32 * fld (s.rg Reg.UPD_SRC_HI 0 0) 0 5

/-- `n` bytes of the source lie in the host area of a stack that serves. -/
def Dev.srcOk (s : Dev) (n : Nat) : Bool := s.inHostArea s.updSrc n && s.stackServes (s.updSrc / 2 ^ 34)

/-- DOWNLOAD. -/
def Dev.updDownload (s : Dev) : Dev :=
  let k := s.updSlot
  let n := s.rf Reg.UPD_LEN 0 0 0 27
  match firstFail [(s.slotInUse k || s.slotRead k, 3), (!s.srcOk n, 4), (slotMax k < n, 0x0A)] with
  | some c => s.updEnd c
  | none => (s.setFlash k {}).updGoes 0 (s.hbmBytes s.updSrc n)

/-- VERIFY. -/
def Dev.updVerify (s : Dev) : Dev :=
  let k := s.updSlot
  if (s.flash k).state != 1 then s.updEnd 0x0C else s.updGoes ((s.imageBad k).getD 0) []

/-- ERASE. -/
def Dev.updErase (s : Dev) : Dev :=
  let k := s.updSlot
  if s.slotInUse k || s.slotRead k then s.updEnd 3 else (s.setFlash k {}).updGoes 0 []

/-- A long command ends; `err` 1: a flash operation failed, 2: the source could not be read. -/
def Dev.updFinish (s : Dev) (err : Nat) : Dev :=
  if !bit (s.rg Reg.UPD_STATUS 0 0) 1 || s.upd.held then s
  else
    let k := s.updSlot
    let op := fld s.upd.cmd 0 4
    if err == 1 then s.updEnd 0x0B
    else if err == 2 && op == 1 then (s.hbmErr 1 8 s.updSrc).updEnd 4
    else if op == 1 then
      let img := s.upd.work
      let ws := envWords img
      (s.setFlash k { image := img, kind := wfld ws 1 16 8, sec := wordN ws 3, digest := Config.sha384 img, commit := true }).updEnd 0
    else if op == 2 then
      let c := s.upd.code
      (s.setFlash k { s.flash k with verified := c == 0, invalid := c != 0 }).updEnd c
    else if op == 9 then ({ s with upd := { s.upd with crash := [] } }).updEnd 0
    else s.updEnd 0

/-! ### Activation in service (R422). -/

/-- Set ACTIVATING through the phase. -/
def Dev.setPhase (s : Dev) (n : Nat) : Dev := { s with upd := { s.upd with phase := n, stepAt := s.cue.localNs } }

/-- A complex restarts into firmware slot `k`: it boots, and is not synchronised. -/
def Dev.ccRestart (s : Dev) (x k : Nat) : Dev :=
  let s := ((s.callDrop x).syncLost x).setRuns x true
  let s := if x == 0 then { s with ccx := { s.ccx with slotA := k } } else { s with ccx := { s.ccx with slotB := k } }
  s.setCc x 1

/-- The complex that does not hold the Call. -/
def Dev.understudy (s : Dev) : Nat := if s.holder == 1 then 1 else 0

/-- The firmware slot of a complex. -/
def Dev.ccSlot (s : Dev) (x : Nat) : Nat := if x == 0 then s.ccx.slotA else s.ccx.slotB

/-- A trial of firmware slot `k` opens in the boot record, anew with no attempts counted or again; or the trial closes. -/
def Dev.fwTrialOpen (s : Dev) (k : Nat) (anew : Bool) : Dev :=
  s.bootCommit fun b => { b with fwTrial := true, fwTrialSlot := k, fmtTrial := s.setFmt k, fwAttempts := if anew then 0 else b.fwAttempts }
def Dev.fwTrialClose (s : Dev) : Dev := s.bootCommit fun b => { b with fwTrial := false, fmtTrial := 0 }

/-- Steps 1 and 2, towards slot `k`; `back` for a fall-back. -/
def Dev.activateFw (s : Dev) (k : Nat) (back : Bool) : Dev :=
  let o := s.understudy
  if !s.ccSynced o then s.updEnd 0x0F
  else
    let s := if back then s.fwTrialClose else s.fwTrialOpen k true
    let s := { s with upd := { s.upd with slot := k, back := back, refusals := 0 } }
    ((s.setPhase 1).ccRestart o k).updEnd 0

/-- Activation reverts with a CODE: event 3. -/
def Dev.updRevert (s : Dev) (code : Nat) : Dev :=
  let k := if s.upd.back then s.upd.boot.fwTrialSlot else s.upd.boot.fwActive
  let s := if s.upd.back then s.fwTrialOpen k false else s.fwTrialClose
  let s := (s.setPhase 0).ccRestart s.understudy k
  (s.wf Reg.UPD_STATUS 0 0 8 8 code).event bUPD 3

/-- Write CCX_HANDOVER for the Understudy and cue its strobe group for a time; answers whether the cue was accepted. -/
def Dev.cueHandover (s : Dev) (sec ns : Nat) : Dev × Bool :=
  let s' := s.setWing Reg.CCX_HANDOVER 0 0 (w32 (s.understudy + 1))
  let s' := s'.wf Reg.WING_PEND 0 bCCX 0 1 1
  let r := s'.leadCueAt sec ns 1 (w32 (2 ^ s.groupOf bCCX 0))
  if r.2 then r else (s, false)

/-- Step 4: the new Understudy is synchronised. -/
def Dev.updSchedule (s : Dev) : Dev :=
  let h := s.obj bUPD 2 0
  let sec := wordN h 1 + 2 ^ 32 * wfld h 2 0 16
  let t := s.timeIn 1000000
  let t := if timeLe sec (wordN h 0) s.cue.sec s.cue.ns then t else (sec, wordN h 0)
  let r := s.cueHandover t.1 t.2
  if r.2 then r.1.setPhase 2 else s

/-- A handover of the activation has fired: `passed`, or refused (R422 step 5). -/
def Dev.updHandover (s : Dev) (old : Nat) (passed : Bool) : Dev :=
  if s.upd.phase != 2 then s
  else if passed then (s.setPhase 3).ccRestart (old - 1) s.upd.slot
  else if s.upd.refusals == 0 then
    let t := s.timeIn 1000000
    let r := s.cueHandover t.1 t.2
    let s := if r.2 then r.1 else s
    { s with upd := { s.upd with refusals := 1 } }
  else s.updRevert 0x10

/-- Steps 3 and 6 as seen by the Lead. -/
def Dev.updSynced (s : Dev) : Dev :=
  if !s.leadRuns || !s.ccSynced s.understudy then s
  else if s.upd.phase == 1 then s.settingConvert.updSchedule
  else if s.upd.phase == 3 then (s.setPhase 0).event bUPD 2
  else s

/-- A step of the activation has not completed within 30 s. -/
def Dev.updTimeout (s : Dev) : Dev :=
  if s.cue.localNs < s.upd.stepAt + 30000000000 then s
  else if s.upd.phase == 1 then s.updRevert 0x0F
  else if s.upd.phase == 3 then ((s.setPhase 0).wf Reg.UPD_STATUS 0 0 8 8 0x0F).event bUPD 3
  else s

/-! ### Short commands (R420). -/

/-- ACTIVATE. An enrolment image commits its settings record (log entry 48). -/
def Dev.updActivate (s : Dev) : Dev :=
  let k := s.updSlot
  let b := s.upd.boot
  let f := s.flash k
  if f.state != 2 then s.updEnd 0x0C
  else if (if k < 2 then b.fwTrial || s.upd.phase != 0 else b.bookTrial) then s.updEnd 0x0D
  else if 2 ≤ k then (s.bootCommit fun b => { b with bookTrial := true, bookTrialSlot := k - 2, bookAttempts := 0 }).updEnd 0
  else if f.kind == 3 then
    let body := slice f.image 128 112
    let w := word (bytesWords 1 body) 0
    let r := s.settingWrite 1 0 (fld w 0 2) (slice body 8 96) (bit w 8)
    if r.2 then r.1.updEnd 0 else s.updEnd 0x0B
  else s.activateFw k false

/-- Raise a floor fuse field to `n` (R412). -/
def Dev.raiseFloor (s : Dev) (book : Bool) (n : Nat) : Dev :=
  let n := min 63 n
  if book then if s.upd.bookFloor < n then ({ s with upd := { s.upd with bookFloor := n } }).event bUPD 6 else s
  else if s.upd.fwFloor < n then ({ s with upd := { s.upd with fwFloor := n } }).event bUPD 6 else s

/-- CONFIRM. -/
def Dev.updConfirm (s : Dev) : Dev :=
  let book := bit s.upd.cmd 4
  let b := s.upd.boot
  let raise (s : Dev) (k : Nat) : Dev := if bit s.upd.cmd 6 then s.raiseFloor book (s.flash k).sec else s
  if book then
    if !b.bookTrial then s.updEnd 0x0D
    else (raise (s.bootCommit fun b => { b with bookTrial := false, bookActive := b.bookTrialSlot }) (b.bookTrialSlot + 2)).updEnd 0
  else if !b.fwTrial || s.upd.phase != 0 then s.updEnd 0x0D
  else (raise (s.bootCommit fun b => { b with fwTrial := false, fwActive := b.fwTrialSlot, fmtConfirmed := b.fmtTrial }) b.fwTrialSlot).updEnd 0

/-- FALL_BACK. -/
def Dev.updFallBack (s : Dev) : Dev :=
  let b := s.upd.boot
  if bit s.upd.cmd 4 then
    if !b.bookTrial then s.updEnd 0x0D else (s.bootCommit fun b => { b with bookTrial := false }).updEnd 0
  else if !b.fwTrial || s.upd.phase != 0 then s.updEnd 0x0D
  else s.activateFw b.fwActive true

/-- The entry of the book-key table that holds a KEY_ID, and the lowest free one (R414). -/
def Dev.keyEntry (s : Dev) (id : Nat) : Option Nat :=
  match (List.range 8).find? fun e => (s.setting? 2 0 e).any fun r => ofLe (r.data.take 8) == id with
  | some e => some e
  | none => (List.range 8).find? fun e => (s.setting? 2 0 e).isNone

/-- INSTALL_KEY (R413, R414). -/
def Dev.updInstallKey (s : Dev) : Dev :=
  if !s.srcOk 152 then s.updEnd 4
  else
    let rec_ := s.hbmBytes s.updSrc 152
    let ws := bytesWords 38 rec_
    if wordN ws 0 != 0x59424B42 || wordN ws 1 != 0 then s.updEnd 0x11
    else match Config.identityUnwrap rec_ with
      | none => s.updEnd 0x11
      | some key =>
        match s.keyEntry (wordN ws 2 + 2 ^ 32 * wordN ws 3) with
        | none => s.updEnd 0x12
        | some e =>
          let r := s.settingWrite 2 0 e (slice rec_ 8 8 ++ slice key 0 32) false
          if r.2 then r.1.updEnd 0 else s.updEnd 0x0B

/-- REMOVE_KEY (R414). -/
def Dev.updRemoveKey (s : Dev) : Dev :=
  let e := fld s.upd.cmd 8 3
  if (s.setting? 2 0 e).isNone then s.updEnd 0x0C else (s.settingWrite 2 0 e (List.replicate 16 0) true).1.updEnd 0

/-- The command in the register starts on the Lead; without a Lead it is held. -/
def Dev.updStart (s : Dev) (act : Dev → Dev) : Dev :=
  if s.leadRuns then act (s.updGoes 0 [])
  else ({ s with upd := { s.upd with held := true } }).wg Reg.UPD_STATUS 0 0 (at_ 1 1 1)

/-- What each OP does. -/
def Dev.updOp (s : Dev) (op : Nat) : Dev :=
  if op == 1 then s.updDownload else if op == 2 then s.updVerify else if op == 3 then s.updActivate else if op == 4 then s.updConfirm
  else if op == 5 then s.updFallBack else if op == 6 then s.updErase else if op == 7 then s.updInstallKey else if op == 8 then s.updRemoveKey
  else if op == 9 then s else s.updEnd 2

/-- A write of UPD_CMD with word `v` (R420). -/
def Dev.updCommand (s : Dev) (v : W32) : Dev :=
  if bit (s.rg Reg.UPD_STATUS 0 0) 1 then (s.wf Reg.UPD_STATUS 0 0 8 8 1).event bUPD 1
  else
    let s := { s with upd := { s.upd with cmd := v &&& 0x77F#32 } }
    s.updStart fun s => s.updOp (fld v 0 4)

/-- The same from a requester, with the OP given. -/
def Dev.updWrite (s : Dev) (q : Req) (op : Nat) (v : W32) : Dev :=
  s.gateWrite q Reg.UPD_CMD 0 0 fun s _ => s.updCommand (setFld v 0 4 op)

/-- A held command starts when a complex leads. -/
def Dev.updResume (s : Dev) : Dev := if s.upd.held && s.leadRuns then s.updStart fun s => s.updOp (fld s.upd.cmd 0 4) else s

/-! ### Cold boots (R418, R419). -/

/-- The firmware slot is VERIFIED and its image is good. -/
def Dev.fwBootable (s : Dev) (k : Nat) : Bool := (s.flash k).state == 2 && (s.flash k).kind == 1 && (s.imageBad k).isNone
def Dev.bookBootable (s : Dev) (k : Nat) : Bool := (s.flash (2 + k)).state == 2 && (s.imageBad (2 + k)).isNone

/-- The first choice of a slot at a cold boot: fall back, a counted trial, or the active slot. -/
def Dev.bootFirst (s : Dev) : Dev × Nat × Nat :=
  let b := s.upd.boot
  let fwBack := b.fwTrial && decide (3 ≤ b.fwAttempts)
  let bkBack := b.bookTrial && decide (3 ≤ b.bookAttempts)
  let fwTry := b.fwTrial && !fwBack
  let bkTry := b.bookTrial && !bkBack
  let s := s.bootCommit fun b =>
    let b := if fwBack then { b with fwTrial := false, fmtTrial := 0 } else if fwTry then { b with fwAttempts := b.fwAttempts + 1 } else b
    if bkBack then { b with bookTrial := false } else if bkTry then { b with bookAttempts := b.bookAttempts + 1 } else b
  (s.eventIf (fwBack || bkBack) bUPD 4, if fwTry then b.fwTrialSlot else b.fwActive, if bkTry then b.bookTrialSlot else b.bookActive)

/-- A slot downloaded and not verified is programmed INVALID (R409, R423). -/
def Dev.dropDownloads (s : Dev) : Dev :=
  (List.range 4).foldl (fun (s : Dev) k => if (s.flash k).state == 1 then s.setFlash k { s.flash k with invalid := true } else s) s

/-- The records of a store whose tags fail. -/
def markBad (l : List Setting) (bad : List Nat) : List Setting := l.map fun (r : Setting) => if bad.contains r.seq then { r with bad := true } else r

/-- The slots that a cold boot takes (R418): those that do not verify fall to the other one, in one more boot record. Answers the firmware slot. -/
def Dev.bootSlots (s : Dev) (fw bk : Nat) : Dev × Nat :=
  let fwOk := s.fwBootable fw
  let bkOk := s.bookBootable bk
  let other (b : BootRec) : BootRec :=
    let b := if fwOk then b else { b with fwTrial := false, fwActive := 1 - fw }
    if bkOk then b else { b with bookTrial := false, bookActive := 1 - bk }
  let s := if fwOk && bkOk then s else s.bootCommit other
  ({ s with upd := { s.upd with bookSlot := if bkOk then bk else 1 - bk } }, if fwOk then fw else 1 - fw)

/-- Complex `x` starts (R418, R419): a cold boot when no complex runs, else into the slot of the running one. `bad`: sequence numbers of settings records whose tags fail; `idOk`: the certificate chain fits the identity key. -/
def Dev.complexBoot (s : Dev) (x : Nat) (bad : List Nat) (idOk : Bool) : Dev :=
  if !s.pdOn (30 + x) || s.pdBusy (30 + x) || s.ccRuns x || s.pwr.low.contains (7 + x) then s
  else if s.ccRuns (1 - x) then s.ccRestart x (if s.upd.phase != 0 then s.upd.slot else s.ccSlot (1 - x))
  else
    let s := s.dropDownloads
    let hit := s.settings.any fun r => bad.contains r.seq && !r.bad
    let s := (s.setSettings (markBad s.settings bad)).eventIf (hit || !idOk) bUPD 7
    let r := s.bootFirst
    let b := ({ r.1 with upd := { r.1.upd with filled := true } } : Dev).bootSlots r.2.1 r.2.2
    if b.2 == r.2.1 then b.1.settingConvert.ccRestart x b.2
    else if b.1.fwBootable b.2 then b.1.ccRestart x b.2
    else (((b.1.ccStop 0 4).ccStop 1 4).bootFail 1).emit .flashReleased

/-- The reset of a complex: its cores stop, and start again from the boot ROM (R470). -/
def Dev.ccReset (s : Dev) (x : Nat) : Dev := s.ccStop x 1

/-- Trial firmware has not taken the Call within 10 s of its cold boot. -/
def Dev.trialWatchdog (s : Dev) (x : Nat) : Dev :=
  let b := s.upd.boot
  if b.fwTrial && s.ccRuns x && s.ccSlot x == b.fwTrialSlot && s.holder == 0 && s.upd.phase == 0 then s.ccReset x else s

/-! ### Crash log and fuses (R412, R424). -/

/-- A crash is recorded, at most 16 in any hour (R424). -/
def Dev.crashLog (s : Dev) (x cause : Nat) (payload : List Byte) : Dev :=
  let now := s.cue.localNs
  let hour := s.upd.crashAt.filter fun t => decide (now < t + 3600000000000)
  if 16 ≤ hour.length then s.bump bUPD 0x11 0 1 1
  else
    let e : Crash := { seq := s.upd.crashSeq, complex := x, cause := cause, ns := s.cue.ns, sec := s.cue.sec, payload := slice payload 0 4072 }
    let s := { s with upd := { s.upd with crashSeq := s.upd.crashSeq + 1, crashAt := now :: hour,
                                          crash := e :: s.upd.crash.filter fun c => c.seq % 256 != e.seq % 256 } }
    (s.bump bUPD 0x11 0 0 1).event bUPD 8

/-- TOP_FUSE_PROG acts. -/
def Dev.fuseProgram (s : Dev) (field value : Nat) : Dev :=
  if field == 1 then s.raiseFloor false value
  else if field == 2 then s.raiseFloor true value
  else if field == 3 && value < 2 then
    let r := if s.upd.revoked / 2 ^ value % 2 == 1 then s.upd.revoked else s.upd.revoked + 2 ^ value
    if r == 3 then (s.wf Reg.UPD_STATUS 0 0 8 8 0x0D).event bUPD 1
    else if r == s.upd.revoked then s
    else ({ s with upd := { s.upd with revoked := r } }).event bUPD 6
  else s

/-- An armed write of TOP_FUSE_PROG is stored, and acts with GO 1 (R45, R412). -/
def Dev.fuseWrite (s : Dev) (v : W32) : Dev :=
  let s := s.wg Reg.TOP_FUSE_PROG 0 0 (v &&& Reg.TOP_FUSE_PROG.kw)
  if bit v 31 then s.fuseProgram (fld v 0 4) (fld v 4 6) else s

/-! ### Commands. -/

/-- DOWNLOAD (R420). -/
def execDownload (q : Req) (v : W32) (s : State) : Host.Outcome State Fault Refusal := s.on fun d => d.updWrite q 1 v
/-- VERIFY (R420). -/
def execVerify (q : Req) (v : W32) (s : State) : Host.Outcome State Fault Refusal := s.on fun d => d.updWrite q 2 v
/-- ACTIVATE (R420, R422). -/
def execActivate (q : Req) (v : W32) (s : State) : Host.Outcome State Fault Refusal := s.on fun d => d.updWrite q 3 v
/-- CONFIRM (R420). -/
def execConfirm (q : Req) (v : W32) (s : State) : Host.Outcome State Fault Refusal := s.on fun d => d.updWrite q 4 v
/-- FALL_BACK (R420). -/
def execFallBack (q : Req) (v : W32) (s : State) : Host.Outcome State Fault Refusal := s.on fun d => d.updWrite q 5 v
/-- ERASE of a slot (R420). -/
def execEraseSlot (q : Req) (v : W32) (s : State) : Host.Outcome State Fault Refusal := s.on fun d => d.updWrite q 6 v
/-- INSTALL_KEY (R413). -/
def execInstallKey (q : Req) (v : W32) (s : State) : Host.Outcome State Fault Refusal := s.on fun d => d.updWrite q 7 v
/-- REMOVE_KEY (R414). -/
def execRemoveKey (q : Req) (v : W32) (s : State) : Host.Outcome State Fault Refusal := s.on fun d => d.updWrite q 8 v
/-- CLEAR_CRASH (R420). -/
def execClearCrash (q : Req) (v : W32) (s : State) : Host.Outcome State Fault Refusal := s.on fun d => d.updWrite q 9 v
/-- UPD_COMMAND_COMPLETE (R420). -/
def execUpdCommandComplete (err : Fin 3) (s : State) : Host.Outcome State Fault Refusal := s.on fun d => d.updFinish err
/-- ACTIVATION_SYNCED (R422 steps 3, 4 and 6). -/
def execActivationSynced (s : State) : Host.Outcome State Fault Refusal := s.on fun d => d.updSynced
/-- ACTIVATION_TIMEOUT (R422). -/
def execActivationTimeout (s : State) : Host.Outcome State Fault Refusal := s.on fun d => d.updTimeout
/-- COLD_BOOT (R418, R419). -/
def execColdBoot (x : Fin 2) (bad : List W32) (idOk : Bool) (s : State) : Host.Outcome State Fault Refusal :=
  s.on fun d => d.complexBoot x (bad.map BitVec.toNat) idOk
/-- TRIAL_WATCHDOG (R419). -/
def execTrialWatchdog (x : Fin 2) (s : State) : Host.Outcome State Fault Refusal := s.on fun d => d.trialWatchdog x
/-- SETTINGS_COMPACTION (R416). -/
def execSettingsCompaction (s : State) : Host.Outcome State Fault Refusal :=
  s.on fun d => if d.leadRuns && decide (3145728 < totalSize d.settings) then d.settingCompact else d
/-- CRASH_LOG_ENTRY (R424). -/
def execCrashLogEntry (x : BitVec 2) (cause : Byte) (payload : List Byte) (s : State) : Host.Outcome State Fault Refusal :=
  s.on fun d => d.crashLog x.toNat cause.toNat payload
/-- FUSE_PROGRAM (R412): a write of TOP_FUSE_PROG. -/
def execFuseProgram (q : Req) (field : Fin 16) (value : BitVec 6) (go : Bool) (s : State) : Host.Outcome State Fault Refusal :=
  s.on fun d => d.gateKw q Reg.TOP_FUSE_PROG 0 0 fun d => d.fuseWrite (at_ 0 4 field ||| at_ 4 6 value.toNat ||| atB 31 go)

end Sys2Proof.Machine
end

