-- ==== Sys2Proof/Machine/Strobe.lean ====
section
/-! DEFINITION. Strobe firings: the copy of wings into the active values with what each block's registers and objects then bring, the queueing of firings, and their completion (R47–R50, R82–R84). -/
namespace Sys2Proof.Machine

/-! ### Copying wings (R47, R82). -/

/-- Put the wing of the register at `a` into force; the old value is kept for packets inside a section. -/
def Dev.copyWing (s : Dev) (g a : Nat) : Dev :=
  match regAt a with
  | none => s
  | some (d, c, i) =>
    let old := s.rg d c i
    let new := (old &&& ~~~d.rs) ||| (s.wing d c i &&& d.rs)
    if old == new then s
    else
      let o : OldVal := { group := g, tick := s.cue.tickNo, key := a, reg := old }
      ({ s with cue := { s.cue with oldRegs := s.cue.oldRegs ++ [o] } }).wg d c i new

/-- The register at an offset has staged bits of sub-block `k` of block `b`. -/
def staged (b k a : Nat) : Bool :=
  a / windowSize == b && (match regAt a with | some (d, _, _) => d.rs != 0 && d.sub == k | none => false)

/-- The offsets at which a wing or an active value of a sub-block may differ from its reset value. -/
def Dev.stagedAddrs (s : Dev) (b k : Nat) : List Nat := ((s.wings.map Prod.fst ++ s.regs.map Prod.fst).filter fun a => staged b k a).eraseDups

/-- The tokens of a node's buckets are kept across a change of its words, and staged copies under it discarded (R255, R286). -/
def Dev.nodeChanged (s : Dev) (n : Nat) (o w : List W32) : Dev :=
  let now := s.cue.localNs
  let s := { s with tm := { s.tm with
    nodeC := mset none s.tm.nodeC n (settleBucket (mget none s.tm.nodeC n) (rateOf (word o 0)) (sizeOf_ (word o 1)) (rateOf (word w 0)) (sizeOf_ (word w 1)) now),
    nodeP := mset none s.tm.nodeP n (settleBucket (mget none s.tm.nodeP n) (peakRate (word o 0) (word o 2)) (sizeOf_ (word o 3)) (peakRate (word w 0) (word w 2)) (sizeOf_ (word w 3)) now) } }
  s.unstage fun z => decide (nQ ≤ z.queue) && (match s.pathOf (z.queue - nQ) with
    | some (p, n2, n3) => [nodeKey 0 p, nodeKey 1 n2, nodeKey 2 n3, nodeKey 3 (z.queue - nQ)].contains n
    | none => false)

/-- The same for an uncredited VOQ. -/
def Dev.voqChanged (s : Dev) (v : Nat) (o w : List W32) : Dev :=
  let s := { s with tm := { s.tm with voqB := mset none s.tm.voqB v (settleBucket (mget none s.tm.voqB v) (rateOf (word o 0)) (sizeOf_ (word o 1)) (rateOf (word w 0)) (sizeOf_ (word w 1)) s.cue.localNs) } }
  s.unstage fun z => z.queue == v

/-- The same for a policer (R287). -/
def Dev.policerChanged (s : Dev) (i : Nat) (o w : List W32) : Dev :=
  let now := s.cue.localNs
  { s with tm := { s.tm with
    polC := mset none s.tm.polC i (settleBucket (mget none s.tm.polC i) (rateOf (word o 0)) (sizeOf_ (word o 1)) (rateOf (word w 0)) (sizeOf_ (word w 1)) now),
    polP := mset none s.tm.polP i (settleBucket (mget none s.tm.polP i) (peakRate (word o 0) (word o 2)) (sizeOf_ (word o 3)) (peakRate (word w 0) (word w 2)) (sizeOf_ (word w 3)) now) } }

/-- A Spotlight pattern's control words can never match although VALID is 1 (R194). -/
def splBad (ctl : List W32) : Bool :=
  bit (word ctl 1) 6 && (wfld ctl 1 0 6 == 0 || decide (32 < wfld ctl 1 0 6) || decide (wfld ctl 1 16 8 < wfld ctl 1 8 8)
    || bit (word ctl 1) 7 || wfld ctl 1 24 8 != 0 || wfld ctl 2 16 16 != 0)

/-- Put the wing of a staged object into force. -/
def Dev.copyObj (s : Dev) (g key : Nat) : Dev :=
  let b := keyBlk key
  let ob := keyObj key
  let i := keyIdx key
  let old := s.obj b ob i
  let new := s.objWing b ob i
  if old == new then s
  else
    let o : OldObj := { group := g, tick := s.cue.tickNo, key := key, words := old }
    let s := ({ s with cue := { s.cue with oldObjs := s.cue.oldObjs ++ [o] } }).setObj b ob i new
    if b == bSCH && ob == 2 then s.nodeChanged i old new
    else if b == bSCH && ob == 4 then s.voqChanged i old new
    else if b == bPOL && ob == 1 then s.policerChanged i old new
    else if b == bSPL then s.eventIf (splBad (s.objWing bSPL 2 i)) bSPL 0
    else s

def Dev.stagedKeys (s : Dev) (b k : Nat) : List Nat :=
  ((s.objWings.map Prod.fst ++ s.objs.map Prod.fst).filter fun x => keyBlk x == b && objSub b (keyObj x) == some k).eraseDups

/-! ### What a sub-block's firing brings besides (R111, R112, R115, R116, R397; LCI_PORT_CFG). -/

/-- The clusters that an offset list touches. -/
def clustersOf (l : List Nat) : List Nat := (l.map fun a => a % windowSize / slotSize).eraseDups

/-- LNP_PORT_CFG of a cluster: the old values are kept for packets inside a section (R82); a FlexO port in a new form starts its framer. -/
def Dev.firePorts (s : Dev) (g c : Nat) : Dev :=
  let old := (List.range 16).map fun i => s.rg Reg.LNP_PORT_CFG c i
  let new := (List.range 16).map fun i => s.wing Reg.LNP_PORT_CFG c i
  let s := s.portFiring c old new
  let kept : List OldVal := (List.range 16).filterMap fun i =>
    if s.rg Reg.LNP_PORT_CFG c i == old.getD i 0 then none
    else some { group := g, tick := s.cue.tickNo, key := Reg.LNP_PORT_CFG.addr c i, reg := old.getD i 0 }
  let s := { s with cue := { s.cue with oldRegs := s.cue.oldRegs ++ kept } }
  let form (w : W32) := (bit w 0, fld w 1 3, fld w 4 2, bit w 6)
  let s := (List.range 16).foldl (fun (s : Dev) i =>
    let p := 16 * c + i
    if form (old.getD i 0) != form (s.portCfg p) && s.portOn p && s.portMode p == 6 then s.otnStart p else s) s
  s.testModes c

/-- LNP_LANE_CTRL of a cluster: training starts or ends, a checker that changes its pattern loses lock. -/
def Dev.lanesFired (s : Dev) (c : Nat) (old : List W32) : Dev :=
  let trains (w : W32) : Bool := fld w 0 2 == 1 || fld w 0 2 == 2
  let s := (List.range 16).foldl (fun (s : Dev) i =>
    let o := old.getD i 0
    let n := s.rg Reg.LNP_LANE_CTRL c i
    let s := if fld o 0 2 == fld n 0 2 then s else s.wf Reg.LNP_LANE_STATUS c i 1 3 (trains n).toNat
    if fld o 6 4 == fld n 6 4 then s else s.wf Reg.LNP_LANE_STATUS c i 4 1 0) s
  s.testModes c

/-- LCI_PORT_CFG of a cluster: a port whose PROTECT clears loses its slots (R157); a new WARN_EXP may be met at once (R159). -/
def Dev.cipherFired (s : Dev) (c : Nat) (old : List W32) : Dev :=
  let s := (List.range 16).foldl (fun (s : Dev) i =>
    if bit (old.getD i 0) 0 && !bit (s.rg Reg.LCI_PORT_CFG c i) 0 then
      (s.validSlots c).foldl (fun (s : Dev) k =>
        if (s.ctx? c k).any fun x => ctxPort x.words == 16 * c + i then s.dropCtx c k else s) s
    else s) s
  (s.validSlots c).foldl (fun (s : Dev) k => s.warnPn c k) s

/-- CCX_HANDOVER fires, and the update agent sees the outcome (R397, R422). -/
def Dev.handoverFires (s : Dev) : Dev :=
  let old := s.holder
  match s.handover with
  | (s, some ok) => s.updHandover old ok
  | (s, none) => s

/-- Sub-block `k` of block `b` fires for group `g`. -/
def Dev.fireSub (s : Dev) (g b k : Nat) : Dev :=
  let addrs := s.stagedAddrs b k
  let cl := clustersOf addrs
  let row (s : Dev) (d : RegDesc) (c : Nat) : List W32 := (List.range 16).map fun i => s.rg d c i
  let s0 := s
  let s := if b == bLNP && k == 0 then s else addrs.foldl (fun (s : Dev) a => s.copyWing g a) s
  let s := (s.stagedKeys b k).foldl (fun (s : Dev) x => s.copyObj g x) s
  let s :=
    if b == bLNP && k == 0 then cl.foldl (fun (s : Dev) c => s.firePorts g c) s
    else if b == bLNP then cl.foldl (fun (s : Dev) c => s.lanesFired c (row s0 Reg.LNP_LANE_CTRL c)) s
    else if b == bOTF then cl.foldl (fun (s : Dev) c => s.testModes c) s
    else if b == bLCI then cl.foldl (fun (s : Dev) c => s.cipherFired c (row s0 Reg.LCI_PORT_CFG c)) s
    else if b == bCCX then s.handoverFires
    else if b == bQAD then s.notePeaks.refreshShared
    else s
  s.wf Reg.WING_PEND 0 b k 1 0

/-! ### Groups (R83, R84). -/

def Dev.group (s : Dev) (g : Nat) : Group := mget {} s.cue.groups g
def Dev.setGroup (s : Dev) (g : Nat) (x : Group) : Dev := { s with cue := { s.cue with groups := mset {} s.cue.groups g x } }

/-- A firing of group `g` applies at this tick: every sub-block mapped to it. -/
def Dev.apply (s : Dev) (g : Nat) : Dev :=
  let s := s.setGroup g { s.group g with applying := true, tick := s.cue.tickNo }
  (List.range nBlocks).foldl (fun (s : Dev) b =>
    (subsOf b).foldl (fun (s : Dev) k => if s.groupOf b k == g then s.fireSub g b k else s) s) s

/-- A further firing is refused. -/
def Dev.fireRefused (s : Dev) (g : Nat) : Dev :=
  (s.wg Reg.CUE_STROBE_REFUSED 0 0 (setBit (s.rg Reg.CUE_STROBE_REFUSED 0 0) g true)).event bCUE 5

/-- A firing requested at this tick: it applies, waits, or is refused; answers whether it was taken. -/
def Dev.fire (s : Dev) (g : Nat) : Dev × Bool :=
  let x := s.group g
  if !x.applying && x.waiting == 0 then (s.apply g, true)
  else if x.waiting < 4 then (s.setGroup g { x with waiting := x.waiting + 1 }, true)
  else (s.fireRefused g, false)

/-- The groups of a mask, each fired; answers whether all were taken. -/
def Dev.fireMask (s : Dev) (m : W32) : Dev × Bool :=
  (List.range 32).foldl (fun (a : Dev × Bool) g => if bit m g then ((a.1.fire g).1, a.2 && (a.1.fire g).2) else a) (s, true)

/-- Firings that waited apply on the first tick after the one before completed. -/
def Dev.fireWaiting (s : Dev) : Dev :=
  (List.range 32).foldl (fun (s : Dev) g =>
    let x := s.group g
    if !x.applying && 0 < x.waiting then (s.setGroup g { x with waiting := x.waiting - 1 }).apply g else s) s

/-- A write of CUE_STROBE_FIRE: groups that apply or have firings waiting queue or refuse; the others fire at the next tick. -/
def Dev.strobeWrite (s : Dev) (m : W32) : Dev :=
  (List.range 32).foldl (fun (s : Dev) g =>
    let x := s.group g
    if !bit m g then s
    else if x.applying || x.waiting != 0 then
      (if x.waiting < 4 then s.setGroup g { x with waiting := x.waiting + 1 } else s.fireRefused g)
    else { s with cue := { s.cue with fireReq := s.cue.fireReq ++ [g] } }) s

/-- CUE_STROBE_BUSY. -/
def Dev.strobeBusy (s : Dev) : W32 :=
  (List.range 32).foldl (fun (w : W32) g =>
    if (s.group g).applying || (s.group g).waiting != 0 || s.cue.fireReq.contains g then setBit w g true else w) 0

/-- Write the strobe map of block `b`, leaving the sub-blocks whose group is applying: answers whether some were left (R49). -/
def Dev.mapWrite (s : Dev) (b : Nat) (v : W32) : Dev × Bool :=
  (subsOf b).foldl (fun (a : Dev × Bool) k =>
    let old := a.1.groupOf b k
    if old == fld v (8 * k) 5 then a
    else if (a.1.group old).applying then (a.1, true)
    else (a.1.wf Reg.STROBE_MAP 0 b (8 * k) 5 (fld v (8 * k) 5), a.2)) (s, false)

/-- A write of a strobe map; what must wait does so until the application completes. -/
def Dev.mapSet (s : Dev) (b : Nat) (v : W32) : Dev :=
  let r := s.mapWrite b v
  let rest := r.1.cue.mapWaits.filter fun e => e.1 != b
  { r.1 with cue := { r.1.cue with mapWaits := if r.2 then rest ++ [(b, v)] else rest } }

/-- A packet that began its section before tick `t` is still inside it (R82): from the ingress pipeline to admission commit, or from selection to the line. -/
def Dev.insideSince (s : Dev) (t : Nat) : Bool :=
  (s.ing.pipe.any fun k => decide (k.since < t))
    || ((s.tm.urgent ++ s.tm.general).any fun e => e.2.any fun x => decide (x.since < t))
    || (s.tm.packed.any fun x => decide (x.1.since < t)) || (s.tm.arriving.any fun a => a.key.isNone && decide (a.since < t))
    || (s.tm.toEgress.any fun k => decide (k.since < t)) || (s.tm.toLine.any fun k => decide (k.since < t))

/-- Old values that no packet needs any more go (R82). -/
def Dev.dropOld (s : Dev) (g : Nat) : Dev :=
  let need (h t : Nat) : Bool := (h != g && (s.group h).applying) || s.insideSince t
  { s with cue := { s.cue with oldRegs := s.cue.oldRegs.filter fun o => need o.group o.tick, oldObjs := s.cue.oldObjs.filter fun o => need o.group o.tick } }

/-- The application of group `g` completes, once the packets that were inside a section have left it, or when 2.5 µs (19 ticks) have passed: the old values go, and map writes that waited take effect (R49, R83). -/
def Dev.applyEnd (s : Dev) (g : Nat) : Dev :=
  let x := s.group g
  if !x.applying || (s.insideSince x.tick && decide (s.cue.tickNo < x.tick + 19)) then s
  else
    let s := (s.setGroup g { x with applying := false, tick := 0 }).dropOld g
    s.cue.mapWaits.foldl (fun (s : Dev) e => s.mapSet e.1 e.2) s

end Sys2Proof.Machine
end

