-- ==== Sys2Proof/Machine/Cue.lean ====
section
/-! DEFINITION. The Cue Clock, the cue tick with everything due on it, epochs and the tableau (chapter 03; R457). -/
namespace Sys2Proof.Machine

/-! ### Epochs (R85–R90). -/

/-- The epoch register's fields below QUARANTINE. -/
def Dev.setEpochs (s : Dev) (cur ret : Nat) (valid armed : Bool) : Dev :=
  s.wf Reg.CUE_EPOCH 0 0 0 10 (cur % 16 + 16 * (ret % 16) + 256 * valid.toNat + 512 * armed.toNat)

/-- Commit epoch `e` at this tick: answers 1 done, 2 a retiring epoch is live, 3 current or quarantined (R85).
DESIGN CHOICE (log entry 116): where both refusals apply the answer is 2. -/
def Dev.commit (s : Dev) (e : Nat) : Dev × Nat :=
  if s.retiring.isSome then (s, 2)
  else if e == s.epochNow || s.quarantined e then (s, 3)
  else
    let s := s.setEpochs e s.epochNow true false
    let s := { s with cue := { s.cue with retireFrom := s.cue.localNs } }
    (s.pbkCommit, 1)

/-- Arm the retirement of the retiring epoch: 1 done, 2 none (R87). -/
def Dev.retire (s : Dev) : Dev × Nat :=
  match s.retiring with
  | none => (s, 2)
  | some _ => (s.wf Reg.CUE_EPOCH 0 0 9 1 1, 1)

/-- The retiring epoch is no longer live; the loader releases its book. -/
def Dev.unretire (s : Dev) : Dev := (s.wf Reg.CUE_EPOCH 0 0 8 2 0).pbkRelease

/-- An armed epoch whose house count is zero, as the dies exchanged it at this tick, is freed (R33, R87). -/
def Dev.freeArmed (s : Dev) : Dev :=
  match s.retiring with
  | none => s
  | some e => if bit (s.rg Reg.CUE_EPOCH 0 0) 9 && s.houseSeen e == 0 then s.unretire else s

/-- At its retention limit the retiring epoch is freed, and quarantined while packets hold it (R88, R255). -/
def Dev.retention (s : Dev) : Dev :=
  match s.retiring with
  | none => s
  | some e =>
    if s.cue.localNs < s.cue.retireFrom + s.retainMs * 1000000 then s
    else if s.houseSeen e == 0 then s.unretire
    else
      let s := (s.unretire.event bCUE 6).wf Reg.CUE_EPOCH 0 0 (16 + e) 1 1
      s.unstage fun z => (s.queue z.queue).pkts.any fun k => k.head == z.head && k.ticket.epoch.toNat == e

/-! ### The tableau (R92, R93, R452, R457). -/

/-- The tableau range: its first pair and its length, clipped to SNAP and at ALLOC − SNAP (R452). -/
def Dev.tabRange (s : Dev) : Nat × Nat :=
  let first := s.rf Reg.STA_TAB_FIRST 0 0 0 26
  (first, min (min s.sta.snap (s.rf Reg.STA_TAB_COUNT 0 0 0 21)) (s.sta.alloc - s.sta.snap - first))

/-- The values of the tableau range at the tick go into the snapshot area (R452; log entry 50). -/
def Dev.statSnap (s : Dev) : Dev :=
  let (first, n) := s.tabRange
  (List.range n).foldl (fun (d : Dev) i => d.statSet (s.sta.alloc - s.sta.snap + i) (s.statValue (first + i))) s

/-- A tableau of sources `src` (bits 1 to 3) is latched at this tick. -/
def Dev.tabLatch (s : Dev) (src : Nat) : Dev :=
  let gen := s.rf Reg.TAB_STATUS 0 0 8 16 + 1
  let s := s.wg Reg.TAB_STATUS 0 0 (1#32 ||| at_ 1 3 (src / 2) ||| at_ 8 16 gen)
  let s := { s with tab := { s.tab with sec := s.cue.sec, ns := s.cue.ns } }
  let s := s.eventIf s.sta.copying bSTA 2
  let s := { s with sta := { s.sta with copying := s.tabRange.2 != 0 } }.statSnap
  let c := s.rg Reg.PMC_CTRL 0 0
  let s := if bit c 2 then ({ s with pmcRun := false }).wf Reg.PMC_CTRL 0 0 0 1 0
    else if bit c 1 then ({ s with pmcRun := true }).wf Reg.PMC_CTRL 0 0 0 1 1 else s
  if bit (s.rg Reg.TAB_CTRL 0 0) 1 then s.emit .tableauOut else s

/-! ### Actions of cues (R75, R79). -/

/-- A due cue takes its final state: fired, fired late, or failed (R78, R79).
DESIGN CHOICE (log entry 116): a cue that fails takes state 4 with event 1 alone, however late it is. -/
def Dev.cueDone (s : Dev) (i : Nat) (ok : Bool) : Dev :=
  let x := s.slot i
  if !ok then (s.setSlot i { x with state := 4 }).event bCUE 1
  else
    let late := timeLe x.sec x.ns s.cue.sec s.cue.ns && decide (128 ≤ (s.cue.sec - x.sec) * 1000000000 + s.cue.ns - x.ns)
    if late then (s.setSlot i { x with state := 3 }).event bCUE 0 else s.setSlot i { x with state := 2 }

/-- The slots whose cues of an action are due at this tick, lower slots first (R78, R81). -/
def Dev.dueCues (s : Dev) (action : Nat) : List Nat :=
  if !s.timeValid then []
  else (s.cue.slots.filter fun e => e.2.state == 1 && e.2.action == action && timeLe e.2.sec e.2.ns s.cue.sec s.cue.ns).map Prod.fst

/-- Carry out the due cues of one action; while the device is stopped they fail (R441). -/
def Dev.runCues (s : Dev) (action : Nat) (act : Dev → W32 → Dev × Bool) : Dev :=
  (s.dueCues action).foldl (fun (s : Dev) i =>
    if s.stopped then s.cueDone i false
    else
      let r := act s (s.slot i).w3
      r.1.cueDone i r.2) s

/-- The triggers due at this tick: cues by slot, whether the register asked, how many pin edges. -/
def Dev.tabPins (s : Dev) : List Nat := s.tab.pinReq.filter fun t => decide (t + 128 ≤ s.cue.localNs)

/-- The tableau part of a tick: answers whether one was latched. -/
def Dev.tabTick (s : Dev) : Dev × Bool :=
  let cues := s.dueCues 4
  let pins := s.tabPins
  let reg := s.tab.regReq
  let n := cues.length + reg.toNat + pins.length
  let s := { s with tab := { s.tab with regReq := false, pinReq := s.tab.pinReq.filter fun t => !decide (t + 128 ≤ s.cue.localNs) } }
  if n == 0 then (s, false)
  else if s.tabHeld && !bit (s.rg Reg.TAB_CTRL 0 0) 2 then
    (cues.foldl (fun (s : Dev) i => s.cueDone i false) (s.bumpReg Reg.TAB_REFUSED 0 0 n), false)
  else
    let src := 2 * (!cues.isEmpty).toNat + 4 * reg.toNat + 8 * (!pins.isEmpty).toNat
    (cues.foldl (fun (s : Dev) i => s.cueDone i true) (s.tabLatch src), true)

/-! ### The tick (R67–R70, R79–R81). -/

/-- The clock advances by one tick, or takes a step; the rate offset and the slew move on. -/
def Dev.clockTick (s : Dev) (elapsed : Nat) : Dev :=
  let n := s.cue.ns + 128
  let slew : Int := if s.cue.slew.natAbs ≤ 128 then 0 else if 0 < s.cue.slew then s.cue.slew - 128 else s.cue.slew + 128
  let t := match s.cue.step with
    | some t => t
    | none => (if n < 1000000000 then s.cue.sec else (s.cue.sec + 1) % 2 ^ 48, n % 1000000000)
  let stepped := s.cue.step.isSome
  let s := { s with cue := { s.cue with sec := t.1, ns := t.2, tickNo := s.cue.tickNo + 1, localNs := s.cue.localNs + elapsed,
                                        freq := s.rg Reg.CUE_FREQ_ADJ 0 0, slew := slew, step := none },
                    pmcRun := bit (s.rg Reg.PMC_CTRL 0 0) 0 }
  let s := s.eventIf stepped bCUE 8
  if t.2 == 0 && bit (s.rg Reg.CUE_CTRL 0 0) 2 then
    let s := s.emit .ppsOut
    { s with cue := { s.cue with todDue := s.cue.todDue ++ s.cue.todOut, todOut := [] } }
  else s

/-- The epoch commands that the register has asked for: retirements, or commits. -/
def Dev.epochRegs (s : Dev) (op : Nat) : Dev :=
  s.cue.epochCmds.foldl (fun (s : Dev) c =>
    if c.1 != op then s
    else
      let r := if op == 2 then s.retire else s.commit c.2
      r.1.wf Reg.CUE_EPOCH 0 0 10 2 r.2) s

/-- Strobe firings of a tick: those that waited, the cues', the register's. -/
def Dev.strobeTick (s : Dev) : Dev :=
  let s := s.fireWaiting
  let req := s.cue.fireReq
  let s := { s with cue := { s.cue with fireReq := [] } }
  let s := s.runCues 1 fun s arg => s.fireMask arg
  req.foldl (fun (s : Dev) g => (s.fire g).1) s

/-- Switches of secure associations, asked for and automatic (R160–R162). -/
def Dev.switchTick (s : Dev) : Dev :=
  let s := s.runCues 5 fun s arg => s.applySwitch arg.toNat
  let req := s.lci.switchReq
  let s := { s with lci := { s.lci with switchReq := [] } }
  let s := req.foldl (fun (s : Dev) r => let t := s.applySwitch r; t.1.eventIf (!t.2) bLCI 5) s
  ((s.lci.slots.map fun e => ctxPort e.2.words) ++ s.lci.autoWarned).eraseDups.foldl (fun (s : Dev) p => s.autoSwitch p) s

/-- Everything due on a tick after the tableau, in the order of R79. -/
def Dev.tickRest (s : Dev) : Dev :=
  let s := s.runCues 3 fun s _ => ((s.retire).1, (s.retire).2 == 1)
  let s := (s.epochRegs 2).freeArmed.retention
  let s := s.strobeTick
  let s := s.runCues 2 fun s arg => ((s.commit (fld arg 0 4)).1, (s.commit (fld arg 0 4)).2 == 1)
  let s := s.epochRegs 1
  let s := { s with cue := { s.cue with epochCmds := [] } }
  let s := s.switchTick
  let s := s.runCues 6 fun s arg => s.rfBegin arg.toNat
  let s := s.runCues 7 fun s arg => s.pinMove arg.toNat
  let req := s.tm.moveReq
  let s := { s with tm := { s.tm with moveReq := [] } }
  req.foldl (fun (s : Dev) r => (s.pinMove r).1) s

/-- A cue tick: the fabric lanes send the cells of the time that has gone by (log entry 127), and the latched copy of a new tableau is the device as the tick found it. -/
def State.tick (s : State) (elapsed : Nat) : State :=
  let d := ((s.toDev.clockTick elapsed).laneSlots elapsed).houseExchange
  let r := d.tabTick
  s.put r.1.tickRest (if r.2 then some d else s.latched)

/-! ### Time validity and the oscillator check (R71, R72, R81). -/

/-- TIME_VALID clears: pending cues are voided when VOID_ON_INVALID is 1 (R81).
DESIGN CHOICE (log entry 116): they are voided by the clear itself, before any further tick, and a host write is judged by the VOID_ON_INVALID that it writes. -/
def Dev.timeClears (s : Dev) (was : Bool) : Dev :=
  let s := s.wf Reg.CUE_CTRL 0 0 0 1 0
  if !was || !bit (s.rg Reg.CUE_CTRL 0 0) 1 then s
  else
    let f (e : Nat × CueSlot) : Nat × CueSlot := if e.2.state == 1 then (e.1, { e.2 with state := 5 }) else e
    ({ s with cue := { s.cue with slots := s.cue.slots.map f } }).event bCUE 4

/-- OSC_OK. -/
def Dev.oscOk (s : Dev) : Bool := decide (4 ≤ s.cue.oscPass)

/-- A window of the oscillator check ends with a deviation of `ppb`. -/
def Dev.oscWindow (s : Dev) (ppb : Nat) : Dev :=
  if !bit (s.rg Reg.CUE_CTRL 0 0) 4 then s
  else
    let lim := max 10 (s.rf Reg.CUE_OSC_CHECK 0 0 0 8)
    if !s.cue.refclkLost && ppb ≤ lim * 1000 then { s with cue := { s.cue with oscPass := min 4 (s.cue.oscPass + 1) } }
    else
      let v := s.rg Reg.CUE_OSC_CHECK 0 0
      let s := s.wg Reg.CUE_OSC_CHECK 0 0 (setFld v 16 16 (satAdd 16 (fld v 16 16) 1))
      let s := { s with cue := { s.cue with oscPass := 0 } }
      let s := ((s.timeClears s.timeValid).event bCUE 2).event bCUE 3
      s.detect 14 (blkUnit bCUE)

/-- A write of CUE_CTRL with TIME_VALID as `on`. -/
def Dev.ctrlWrite (s : Dev) (v : W32) (on : Bool) : Dev :=
  let was := s.timeValid
  let s := s.storeRw Reg.CUE_CTRL 0 0 (setBit v 0 was)
  if on then (if s.oscOk then s.wf Reg.CUE_CTRL 0 0 0 1 1 else s) else s.timeClears was

/-! ### Submission through registers (R76). -/

/-- The requester is firmware on the Lead. -/
def Dev.isLead (s : Dev) (q : Req) : Bool := match q.complex with | some x => s.holder == x.val + 1 | none => false

/-- Cancel the cue of slot `i`: the CODE (R76). DESIGN CHOICE (log entry 116): 3 comes before 5 and 6. -/
def Dev.cancelCue (s : Dev) (i : Nat) (lead : Bool) : Dev × Nat :=
  if 224 ≤ i && !lead then (s, 3)
  else match (s.slot i).state.val with
    | 1 => (s.setSlot i { s.slot i with state := 0 }, 0)
    | 0 => (s, 5)
    | 5 => (s, 5)
    | _ => (s, 6)

/-- A write of CUE_SUBMIT_CMD. -/
def Dev.submitCmd (s : Dev) (q : Req) (i op : Nat) : Dev :=
  s.gateWrite q Reg.CUE_SUBMIT_CMD 0 0 fun s _ =>
    let s := s.wg Reg.CUE_SUBMIT_CMD 0 0 (at_ 0 8 i ||| at_ 8 2 op)
    let w (k : Nat) : W32 := s.rg Reg.CUE_SUBMIT_W 0 k
    let r := if op == 1 then s.submitCue i (w 0) (w 1) (w 2) (w 3) (s.isLead q)
      else if op == 2 then s.cancelCue i (s.isLead q) else (s, 0)
    r.1.wg Reg.CUE_SUBMIT_RESULT 0 0 (1#32 ||| at_ 4 4 r.2 ||| at_ 8 8 i)

/-- A character received on TOD_IN; when the FIFO is full a free value says whether it or the oldest one is lost (log entry 3). -/
def Dev.todChar (s : Dev) (b : Byte) : Dev :=
  if s.cue.todIn.length < 64 then { s with cue := { s.cue with todIn := s.cue.todIn ++ [b] } }
  else
    let r := s.fresh
    if bit r.1 0 then r.2 else { r.2 with cue := { r.2.cue with todIn := r.2.cue.todIn.drop 1 ++ [b] } }

/-- The TOD_OUT characters that were written before the latest PPS_OUT edge are sent (R70). -/
def Dev.todSend (s : Dev) : Dev :=
  if s.cue.todDue.isEmpty then s else ({ s with cue := { s.cue with todDue := [] } }).emit (.todOut s.cue.todDue)

/-- A rising edge of PPS_IN, `sub` nanoseconds after the latest tick. -/
def Dev.ppsEdge (s : Dev) (sub : Nat) : Dev :=
  let t := s.timeIn sub
  ({ s with cue := { s.cue with ppsSec := t.1, ppsNs := t.2, ppsCount := s.cue.ppsCount + 1 } }).event bCUE 9

/-! ### Commands. -/

/-- CUE_TICK (R67): `elapsed` nanoseconds of local time since the tick before. -/
def execCueTick (elapsed : BitVec 16) (s : State) : Host.Outcome State Fault Refusal := .next (s.tick elapsed.toNat)
/-- FREQ_ADJ_WRITE (R69). -/
def execFreqAdjWrite (q : Req) (v : W32) (s : State) : Host.Outcome State Fault Refusal :=
  s.on fun d => d.gateWrite q Reg.CUE_FREQ_ADJ 0 0 fun d _ => d.storeRw Reg.CUE_FREQ_ADJ 0 0 v
/-- PHASE_ADJ_WRITE (R69). -/
def execPhaseAdjWrite (q : Req) (v : W32) (s : State) : Host.Outcome State Fault Refusal :=
  s.on fun d => d.gateWrite q Reg.CUE_PHASE_ADJ 0 0 fun d _ =>
    { d with cue := { d.cue with slew := (v.truncate 24 : BitVec 24).toInt * 10000 } }
/-- PHASE_SLEW_END (R69). -/
def execPhaseSlewEnd (s : State) : Host.Outcome State Fault Refusal := s.on fun d => { d with cue := { d.cue with slew := 0 } }
/-- PPS_IN_EDGE (R70). -/
def execPpsInEdge (sub : Fin 128) (s : State) : Host.Outcome State Fault Refusal := s.on fun d => d.ppsEdge sub
/-- TOD_IN_CHARACTER (R70). -/
def execTodInCharacter (b : Byte) (s : State) : Host.Outcome State Fault Refusal := s.on fun d => d.todChar b
/-- TOD_OUT_SEND (R70). -/
def execTodOutSend (s : State) : Host.Outcome State Fault Refusal := s.on fun d => d.todSend
/-- SET_TIME_VALID (R71): a write of CUE_CTRL with TIME_VALID 1. -/
def execSetTimeValid (q : Req) (v : W32) (s : State) : Host.Outcome State Fault Refusal :=
  s.on fun d => d.gateWrite q Reg.CUE_CTRL 0 0 fun d _ => d.ctrlWrite v true
/-- CLEAR_TIME_VALID (R81): a write of CUE_CTRL with TIME_VALID 0. -/
def execClearTimeValid (q : Req) (v : W32) (s : State) : Host.Outcome State Fault Refusal :=
  s.on fun d => d.gateWrite q Reg.CUE_CTRL 0 0 fun d _ => d.ctrlWrite v false
/-- OSC_CHECK_WINDOW (R72). -/
def execOscCheckWindow (ppb : W32) (s : State) : Host.Outcome State Fault Refusal := s.on fun d => d.oscWindow ppb.toNat
/-- SYS_REFCLK_LOSS (R72). -/
def execSysRefclkLoss (s : State) : Host.Outcome State Fault Refusal := s.on fun d => { d with cue := { d.cue with refclkLost := true } }
/-- SYS_REFCLK_RETURN (R72). -/
def execSysRefclkReturn (s : State) : Host.Outcome State Fault Refusal := s.on fun d => { d with cue := { d.cue with refclkLost := false } }
/-- CUE_SUBMIT (R76). -/
def execCueSubmit (q : Req) (slot : Byte) (s : State) : Host.Outcome State Fault Refusal := s.on fun d => d.submitCmd q slot.toNat 1
/-- CUE_CANCEL (R76). -/
def execCueCancel (q : Req) (slot : Byte) (s : State) : Host.Outcome State Fault Refusal := s.on fun d => d.submitCmd q slot.toNat 2
/-- STROBE_FIRE (R84). -/
def execStrobeFire (q : Req) (groups : W32) (s : State) : Host.Outcome State Fault Refusal :=
  s.on fun d => d.gateWrite q Reg.CUE_STROBE_FIRE 0 0 fun d _ => d.strobeWrite groups
/-- STROBE_APPLICATION_COMPLETE (R83). -/
def execStrobeApplicationComplete (g : Fin 32) (s : State) : Host.Outcome State Fault Refusal := s.on fun d => d.applyEnd g
/-- A write of CUE_EPOCH_CMD: what it asks is done at the next tick. -/
def Dev.epochCmd (d : Dev) (q : Req) (op e : Nat) : Dev :=
  d.gateWrite q Reg.CUE_EPOCH_CMD 0 0 fun d _ =>
    let d := d.wg Reg.CUE_EPOCH_CMD 0 0 (at_ 0 4 e ||| at_ 4 2 op)
    if op == 1 || op == 2 then { d with cue := { d.cue with epochCmds := d.cue.epochCmds ++ [(op, e)] } } else d
/-- EPOCH_CMD_COMMIT (R85). -/
def execEpochCmdCommit (q : Req) (e : Fin 16) (s : State) : Host.Outcome State Fault Refusal := s.on fun d => d.epochCmd q 1 e
/-- EPOCH_CMD_RETIRE (R87). -/
def execEpochCmdRetire (q : Req) (e : Fin 16) (s : State) : Host.Outcome State Fault Refusal := s.on fun d => d.epochCmd q 2 e
/-- EPOCH_FREE (R87). -/
def execEpochFree (s : State) : Host.Outcome State Fault Refusal := s.on fun d => d.houseExchange.freeArmed
/-- RETENTION_LIMIT (R88). -/
def execRetentionLimit (s : State) : Host.Outcome State Fault Refusal := s.on fun d => d.houseExchange.retention
/-- RETAIN_WRITE (R88). -/
def execRetainWrite (q : Req) (v : W32) (s : State) : Host.Outcome State Fault Refusal :=
  s.on fun d => d.gateWrite q Reg.CUE_RETAIN 0 0 fun d _ => d.storeRw Reg.CUE_RETAIN 0 0 v
/-- QUARANTINE_END (R88). -/
def execQuarantineEnd (e : Fin 16) (s : State) : Host.Outcome State Fault Refusal := s.on fun d => d.quarantineEnd e
/-- STRAGGLER_SWEEP (R90). -/
def execStragglerSweep (s : State) : Host.Outcome State Fault Refusal := s.on fun d => d.sweepAll
/-- TRIGGER_GO (R92). -/
def execTriggerGo (q : Req) (go : Bool) (s : State) : Host.Outcome State Fault Refusal :=
  s.on fun d => d.gateWrite q Reg.TAB_TRIGGER 0 0 fun d _ => if go then { d with tab := { d.tab with regReq := true } } else d
/-- TABLEAU_IN_EDGE (R92): `sub` nanoseconds after the latest tick. -/
def execTableauInEdge (sub : Fin 128) (s : State) : Host.Outcome State Fault Refusal :=
  s.on fun d => if bit (d.rg Reg.TAB_CTRL 0 0) 0 then { d with tab := { d.tab with pinReq := d.tab.pinReq ++ [d.cue.localNs + sub.val] } } else d
/-- TABLEAU_RELEASE (R93). -/
def execTableauRelease (q : Req) (s : State) : Host.Outcome State Fault Refusal :=
  s.on fun d => d.gateWrite q Reg.TAB_STATUS 0 0 fun d _ => d.wf Reg.TAB_STATUS 0 0 0 1 0

end Sys2Proof.Machine
end

