-- ==== Sys2Proof/Machine/Ingress.lean ====
section
/-! DEFINITION. Received frames, head entry, the exit from the pipeline, the predictor (R113, R119, R174–R193, R243). -/
namespace Sys2Proof.Machine

/-! ### The MAC (R113, R114, R119, R163, R243). -/

/-- The largest frame of a port, FCS included (R111). -/
def Dev.maxFrame (s : Dev) (p : Nat) : Nat := max 1518 (min 9600 (s.pRf Reg.LNP_PORT_CFG p 8 14))

/-- Bytes in the receive buffer of cluster `c`: its frames with their FCS. -/
def Dev.rxFill (s : Dev) (c : Nat) : Nat := (mget [] s.ing.rx c).foldl (fun n f => n + f.bytes.length + 4) 0

/-- `n` more bytes find the receive buffer of cluster `c` full (R243). -/
def Dev.rxFull (s : Dev) (c n : Nat) : Bool := decide (131072 < s.rxFill c + n)

/-- A throttle drop (R243). -/
def Dev.throttleDrop (s : Dev) (c : Nat) : Dev := (s.bump bACS 3 c 0 1).event bACS 4

/-- A frame joins the receive buffer of its cluster. -/
def Dev.rxStore (s : Dev) (f : RxFrame) : Dev :=
  let c := f.port / 16
  { s with ing := { s.ing with rx := mset [] s.ing.rx c (mget [] s.ing.rx c ++ [f]) } }

/-- A length-errored frame (R113, R120). -/
def Dev.rxLength (s : Dev) (p : Nat) : Dev := s.bump bLNP 1 p 3 1

/-- The MAC of port `p` takes a frame from its receiver, given without its FCS: whether the FCS holds, whether FEC marked a block errored, after how many agreed bytes the cipher lanes disagree, if they do, and how many ns after the latest tick its first bit came. A byte that finds the receive buffer full comes before the frame's end, so it drops the frame before its checks (R243, log entry 126). The head of a longer frame of an unprotected port has entered the pipeline when its FCS fails at the tail (R311): such a frame goes on as one that is not good, whose lookups have no effects and which is never committed (log entry 126). -/
def Dev.macReceive (s : Dev) (p : Nat) (bytes : List Byte) (fcsOk fecErr : Bool) (disagree : Option Nat) (sub : Nat) : Dev :=
  if !s.portUp p || s.clusterIso (p / 16) then s
  else
    let len := bytes.length + 4
    let prot := s.protected p
    let lim := s.maxFrame p + (if prot then 32 else 0)
    if s.rxFull (p / 16) (min len lim) then s.throttleDrop (p / 16)
    else if fecErr then s.bump bLNP 2 p 2 1
    else if len < 64 || lim < len then s.rxLength p
    else
      let (sec, ns) := s.timeIn sub
      let on := bit (s.portCfg p) 30
      let tick (n : Nat) : Nat := if on then n else 0
      let fr (b : List Byte) (pc : Nat) (good : Bool) : RxFrame :=
        { port := p, bytes := b, tsNs := tick ns, tsSec := tick (sec % 2 ^ 32), prot := pc, good := good }
      let ok (s : Dev) : Dev := (s.bump bLNP 1 p 0 1).bump bLNP 1 p 1 len
      if !fcsOk then
        let s := s.bump bLNP 1 p 2 1
        if prot || len ≤ 512 then s else s.rxStore (fr bytes 0 false)
      else if !prot then (ok s).rxStore (fr bytes 0 true)
      else match s.unprotect p bytes disagree with
        | (s, .dropped) => ok s
        | (s, .pass b pc good) => if s.maxFrame p < b.length + 4 then s.rxLength p else (ok s).rxStore (fr b pc good)

/-- A frame arrives on the lanes of port `p` (R116): LOOP 1 takes the receiver off the line, LOOP 2 sends the data back. -/
def Dev.frameReceive (s : Dev) (p : Nat) (bytes : List Byte) (fcsOk fecErr : Bool) (disagree : Option Nat) (sub : Nat) : Dev :=
  if s.loopShut p then s
  else
    let s := if s.loopFar p then s.emit (.retimed p bytes fcsOk) else s
    s.macReceive p bytes fcsOk fecErr disagree sub

/-! ### Head entry (R174, R175, R177, R107, R441). -/

/-- The loader is in state NONE. -/
def Dev.noBook (s : Dev) : Bool := s.rf Reg.PBK_STATE 0 0 0 4 == 0

/-- Region `r` is drained (PBK_SPLIT). -/
def Dev.drained (s : Dev) (r : Nat) : Bool := bit (s.rg Reg.PBK_SPLIT 0 0) r

/-- The oldest head of cluster `c` enters its pipeline. -/
def Dev.headEntry (s : Dev) (c : Nat) : Dev :=
  match mget [] s.ing.rx c with
  | [] => s
  | f :: rest =>
    let s := { s with ing := { s.ing with rx := mset [] s.ing.rx c rest } }
    if s.clusterIso c || !s.pdOn c then s
    else if s.noBook then s.bumpReg Reg.PBK_DROP_NOBOOK 0 0 1
    else if s.drained (c / 8) then s.bumpReg Reg.PBK_DROP_DRAIN 0 0 1
    else
      let e := s.epochNow
      match s.bookOf e with
      | none => s.bumpReg Reg.PBK_DROP_NOBOOK 0 0 1
      | some b =>
        let s := s.houseIn e 1
        let (p, k) := s.ingressPass b e f (s.protected f.port)
        let s := p.dev.count bIPP 0x10 c 1 { tc := some (k.md.getD 2 0).toNat, port := some f.port }
        let s := if f.good then p.effects.foldl (fun s x => s.applyEff b (f.bytes.length + 4) x) s else s
        { s with ing := { s.ing with pipe := s.ing.pipe ++ [k] } }

/-! ### Exit (R14, R176, R192, R197). -/

/-- Train the predictor entry of a packet (R192). -/
def Dev.train (s : Dev) (k : IngPkt) (obs : Obs) : Dev :=
  let c := k.port / 16
  if !bit (s.rg Reg.IPP_PRED_CTRL c 0) 0 then s
  else
    let o : Obs := if obs.kind == 0 then {} else obs
    let n := match s.predEnt k.port k.frame with
      | some e => if e.obs == o then min 64 (e.count + 1) else 1
      | none => 1
    let e : PredEnt := { port := k.port, tag := fld (predHash k.port k.frame) 16 16, count := n, obs := o }
    { s with ing := { s.ing with pred := minsert s.ing.pred (predKey k.port k.frame) e } }

/-- A crossing joins the Dovetail queue of its cluster and class, or is an overflow drop (R14). -/
def Dev.toDovetail (s : Dev) (k : IngPkt) (t : Ticket) : Dev :=
  let c := k.port / 16
  let urgent := t.tc == 0
  let q := if urgent then mget [] s.tm.urgent c else mget [] s.tm.general c
  if (if urgent then 16 else 64) ≤ q.length then
    ((s.bump bIPP 4 c 0 1).event bIPP 2).houseOut k.epoch 1
  else
    let x : Crossing := { ticket := t.crossed s.carried, frame := k.frame, since := k.since, good := k.good }
    let s := { s with tm := if urgent then { s.tm with urgent := mset [] s.tm.urgent c (q ++ [x]) } else { s.tm with general := mset [] s.tm.general c (q ++ [x]) } }
    if k.good then s.bump bIPP 1 k.port 0 1 else s

/-- The oldest packet of port `p` leaves its pipeline. -/
def Dev.pipelineExit (s : Dev) (p : Nat) : Dev :=
  match s.ing.pipe.findIdx? fun k => k.port == p with
  | none => s
  | some i =>
    match s.ing.pipe[i]? with
    | none => s
    | some k =>
      let s := { s with ing := { s.ing with pipe := s.ing.pipe.eraseIdx i } }
      if s.clusterIso (p / 16) then s.houseOut k.epoch 1
      else match s.bookOf k.epoch with
        | none => s.houseOut k.epoch 1
        | some b =>
          match s.buildTicket b k with
          | (s, .dropped) => (s.train k {}).houseOut k.epoch 1
          | (s, .ticket t) => (s.train k k.obs).toDovetail k t

/-! ### Commands. -/

/-- FRAME_RECEIVE (R113, R114, R119, R163, R243). -/
def execFrameReceive (p : Fin 256) (bytes : List Byte) (fcsOk fecErr : Bool) (disagree : Option (BitVec 14)) (sub : Fin 128) (s : State) : Host.Outcome State Fault Refusal :=
  s.on fun d => d.frameReceive p bytes fcsOk fecErr (disagree.map BitVec.toNat) sub

/-- HEAD_ENTRY (R174, R177). -/
def execHeadEntry (c : Fin 16) (s : State) : Host.Outcome State Fault Refusal := s.on fun d => d.headEntry c

/-- PIPELINE_EXIT (R176). -/
def execPipelineExit (p : Fin 256) (s : State) : Host.Outcome State Fault Refusal := s.on fun d => d.pipelineExit p

/-- PREDICTOR_FLUSH (R193): a write of IPP_PRED_CTRL. -/
def execPredictorFlush (q : Req) (c : Fin 16) (en flush : Bool) (s : State) : Host.Outcome State Fault Refusal :=
  s.on fun d => d.gateWrite q Reg.IPP_PRED_CTRL c 0 fun d _ =>
    let d := d.wg Reg.IPP_PRED_CTRL c 0 (atB 0 en)
    if flush then d.predFlush c else d

end Sys2Proof.Machine
end

