-- ==== Sys2Proof/Machine/Detect.lean ====
section
/-! DEFINITION. The detection mechanisms of the integrity collector and the ends of isolation: SRAM scrub, replica digests, shadows, walk-on probes, INT_RELEASE, resynchronisation (chapter 19). -/
namespace Sys2Proof.Machine

/-! ### Replicated tables (R432, R433). -/

/-- Region `r` is resynchronising (INT_ISO.RESYNC). -/
def Dev.resyncing (s : Dev) (r : Nat) : Bool := bit (s.rg Reg.INT_ISO 0 0) (20 + r)

/-- Region `r` has loaded table `t` (R433). -/
def Dev.isLoaded (s : Dev) (r t : Nat) : Bool := s.int.loaded.contains (r * 128 + t)

/-- Digests of table `t` are compared now (R433). -/
def Dev.compares (s : Dev) (t : Nat) : Bool :=
  s.isLoaded 0 t && s.isLoaded 1 t && !s.fIso 0 && !s.fIso 1 && !s.stopped && !s.splitNames t

/-- The table that an entry of a kind (as in `badKey`) belongs to. -/
def Dev.tableOf (s : Dev) (kind pos : Nat) : Option Nat :=
  if kind == 0 then s.fib?.map TShape.id
  else if kind ≤ 3 then s.nht?.map TShape.id
  else if kind == 4 then some (pos / 2 ^ 22)
  else ((s.pbk.inForce.map Book.tables).getD []).find? (fun t => t.tkind == 1 && t.banks.contains (pos / 4096)) |>.map TShape.id

/-- The block that holds entries of a kind; its unit in a region. -/
def kindBlk (kind : Nat) : Nat := if kind ≤ 3 then bFIB else if kind == 4 then bEXM else bACS
def repUnit (blk r : Nat) : UnitId := { blk := blk, reg := r, die := 0 }

/-- Change one region's replica. -/
def Dev.setRep (s : Dev) (r : Nat) (x : Rep) : Dev := if r == 0 then { s with rep0 := x } else { s with rep1 := x }

/-- The entry of `r` at a place becomes that of `o` (R432). -/
def Rep.copyEntry (r o : Rep) (kind pos : Nat) : Rep :=
  let pick {α : Type} (mine theirs : List (Nat × α)) : List (Nat × α) :=
    match theirs.find? fun e => e.1 == pos with
    | some e => minsert mine pos e.2
    | none => merase mine pos
  let r := r.unmark kind pos
  if kind == 0 then { r with routes := pick r.routes o.routes }
  else if kind == 1 then { r with nh := pick r.nh o.nh }
  else if kind == 2 then { r with ecmp := pick r.ecmp o.ecmp }
  else if kind == 3 then { r with members := pick r.members o.members }
  else if kind == 4 then { r with exm := pick r.exm o.exm }
  else { r with acs := pick r.acs o.acs }

/-- An uncorrectable error in a replicated entry (class 2): rewritten from the other region where R432 allows, else marked unreadable. -/
def Dev.entryError (s : Dev) (r kind pos : Nat) (index syndrome : W32) : Dev :=
  let o := 1 - r
  let ok := match s.tableOf kind pos with
    | some t => s.isLoaded o t && !s.fIso o && !s.resyncing o && !s.splitNames t && !(s.rep o).isBad kind pos
    | none => false
  let x := s.rep r
  let s := if ok then s.setRep r (x.copyEntry (s.rep o) kind pos)
    else s.setRep r { x with bad := addKey x.bad (badKey kind pos) }
  s.detect 2 (repUnit (kindBlk kind) r) index (setBit syndrome 31 (!ok))

/-- One error that the scrub meets (R431). -/
def Dev.sramError (s : Dev) (e : SramErr) : Dev :=
  match e with
  | .correctable u i y => s.detect 1 (UnitId.ofCode u) i (setBit y 31 false)
  | .entry r k p i y => s.entryError r k p i y
  | .other u i y => s.detect 3 (UnitId.ofCode u) i (setBit y 31 false)

/-! ### Digests (R434, R435, R465; log entry 49). -/

/-- The digest of segment `seg` of a table in a replica: HIT bits and the GEN bit are left out. -/
def Rep.digest (r : Rep) (t : TShape) (seg : Nat) : W32 :=
  let term (kind pos at' : Nat) (content : List Nat) : W32 := if at' / 4096 == seg then crc32c (Config.digestBytes kind pos content) else 0
  let sum {α : Type} (l : List α) (f : α → W32) : W32 := l.foldl (fun acc e => acc ^^^ f e) 0
  if t.tkind == 1 then
    sum r.acs fun (e : Nat × AcsEnt) => if t.banks.contains (e.1 / 4096) && e.2.valid then term 5 e.1 e.1 (e.2.value ++ e.2.care ++ [e.2.mask, e.2.prog, e.2.data]) else 0
  else if t.tkind == 2 then
    sum r.exm fun (e : Nat × ExmEnt) => if e.1 / 2 ^ 22 == t.id then
      term 4 e.1 (e.1 % 2 ^ 20 + e.1 / 2 ^ 20 % 4 * (t.alloc / 4)) [e.2.key, e.2.data, e.2.prog, e.2.static.toNat] else 0
  else if t.tkind == 3 then
    sum r.routes fun (e : Nat × (Nat × Nat)) => term 0 e.1 (Config.fibUnit e.1) [e.1, e.2.1, e.2.2]
  else
    let ws (l : List W32) : List Nat := l.map BitVec.toNat
    (sum r.nh fun (e : Nat × List W32) => term 1 e.1 e.1 (ws e.2))
      ^^^ (sum r.ecmp fun (e : Nat × List W32) => term 2 e.1 (t.alloc + e.1) (ws e.2))
      ^^^ (sum r.members fun (e : Nat × W32) => term 3 e.1 (t.alloc + t.alloc2 + e.1) [e.2.toNat])

/-- The three digests of a segment on one tick; `f0` and `f1` are what faulty state does to the digests that the engine computes. -/
def Dev.digests (s : Dev) (t : TShape) (seg : Nat) (f0 f1 : W32) : W32 × W32 × W32 :=
  (s.rep0.digest t seg ^^^ f0, s.rep1.digest t seg ^^^ f1, s.intent.digest t seg)

/-- Keep a comparison for FIB object 0x04 (R465). -/
def Dev.keepDigests (s : Dev) (key : Nat) (d : W32 × W32 × W32) : Dev :=
  { s with int := { s.int with digests := minsert s.int.digests key [d.1, d.2.1, d.2.2, s.timeUs] } }

/-- A comparison of segment `seg` of table `t`: a first difference schedules a recomputation. -/
def Dev.digestCompare (s : Dev) (t seg : Nat) (f0 f1 : W32) : Dev :=
  match s.shape? t 0 with
  | none => s
  | some x =>
    if !s.compares t then s
    else
      let d := s.digests x seg f0 f1
      let s := s.keepDigests (t * 4096 + seg) d
      if d.1 == d.2.1 then s else { s with int := { s.int with differ := addKey s.int.differ (t * 4096 + seg) } }

/-- The recomputation: a second difference is class 4, in the region or regions that differ from the intended digest. -/
def Dev.digestRecompute (s : Dev) (t seg : Nat) (f0 f1 : W32) : Dev :=
  let key := t * 4096 + seg
  if !s.int.differ.contains key then s
  else
    let s := { s with int := { s.int with differ := delKey s.int.differ key } }
    match s.shape? t 0 with
    | none => s
    | some x =>
      if !s.compares t then s
      else
        let d := s.digests x seg f0 f1
        let s := s.keepDigests key d
        if d.1 == d.2.1 then s
        else
          let bad0 := d.1 != d.2.2
          let bad1 := d.2.1 != d.2.2
          let blk := if x.tkind == 1 then bACS else if x.tkind == 2 then bEXM else bFIB
          let u := repUnit blk (if bad0 && bad1 then 3 else if bad0 then 0 else 1)
          let r := s.reactOf 4
          s.detectWith 4 u (at_ 0 7 t ||| at_ 8 20 seg) (atB 0 bad0 ||| atB 1 bad1) (if r == 0 then 0 else max 3 r)

/-! ### Walk-on probes (R437, R438). -/

/-- A probe record as its control words and frame give it. -/
def Dev.probeCtl (s : Dev) (c p : Nat) : List W32 := s.obj bINT 3 (c * 8 + p)
def Dev.probeFrame (s : Dev) (c p len : Nat) : List Byte :=
  slice ((List.range 4).flatMap fun q => wordsBytes (s.obj bINT 2 ((c * 8 + p) * 4 + q))) 0 len

/-- Probe `p` of cluster `c` runs under the current epoch: VALID, its EPOCH_MASK bit, a PORT of the cluster, a legal LEN. -/
def Dev.probeOn (s : Dev) (c p : Nat) : Bool :=
  let w := s.probeCtl c p
  bit (word w 6) 31 && bit (word w 0) (16 + s.epochNow) && wfld w 0 0 8 / 16 == c && decide (60 ≤ wfld w 0 8 8) && decide (wfld w 0 8 8 ≤ 128)

/-- The first ticket word that a record compares and `t` does not meet; without a ticket, the first that is compared. -/
def probeMiss (w : List W32) (t : Option Ticket) : Option Nat :=
  let cmp : List (Nat × W32 × W32) :=
    [(0, word w 1, word w 2)] ++ (if bit (word w 6) 0 then [(1, word w 3, ones)] else [])
      ++ (if bit (word w 6) 1 then [(2, word w 4, ones)] else []) ++ (if bit (word w 6) 2 then [(7, word w 5, ones)] else [])
  (cmp.find? fun x => match t with
    | some k => (word k.fixed x.1 ^^^ x.2.1) &&& x.2.2 != 0
    | none => x.2.2 != 0).map Prod.fst

/-- The ticket that the pipeline builds for a probe. Nothing of the pass stays but the free values it drew. -/
def Dev.probeTicket (s : Dev) (c p : Nat) : Dev × Option Ticket :=
  let w := s.probeCtl c p
  match s.bookOf s.epochNow with
  | none => (s, none)
  | some b =>
    let f : RxFrame := { port := wfld w 0 0 8, bytes := s.probeFrame c p (wfld w 0 8 8), tsNs := 0, tsSec := 0, prot := 0, good := true }
    let (q, k) := s.ingressPass b s.epochNow f true
    let (d, t) := q.dev.buildTicket b k
    ({ s with freeCtr := d.freeCtr }, match t with | .ticket t => some t | .dropped => none)

/-- One run of a probe. -/
def Dev.probeRun (s : Dev) (c p : Nat) : Dev :=
  let (s, t) := s.probeTicket c p
  let s := s.bump bINT 6 c 0 1
  let key := c * 8 + p
  match probeMiss (s.probeCtl c p) t with
  | none => { s with int := { s.int with probeFails := mset 0 s.int.probeFails key 0 } }
  | some word =>
    let s := s.bump bINT 6 c 1 1
    let n := min 15 (mget 0 s.int.probeFails key + 1)
    let s := { s with int := { s.int with probeFails := mset 0 s.int.probeFails key n } }
    if max 1 (s.rf Reg.INT_PROBE_CTRL 0 0 4 4) ≤ n then s.detect 6 (clusterUnit bIPP c 0) (at_ 0 3 p ||| at_ 4 4 word) 0 else s

/-- The probes of cluster `c`, or event 15 once per epoch when it has none enabled. -/
def Dev.probeCluster (s : Dev) (c : Nat) : Dev :=
  if !s.pdOn c || s.clusterIso c || s.noBook || s.drained (c / 8) then s
  else
    let on := (List.range 8).filter fun p => s.probeOn c p
    if on.isEmpty then
      let key := c * 16 + s.epochNow
      if s.int.noCover.contains key then s else { s with int := { s.int with noCover := addKey s.int.noCover key } }.event bINT 15
    else on.foldl (fun s p => if s.clusterIso c then s else s.probeRun c p) s

/-- The runs of one millisecond. -/
def Dev.probes (s : Dev) : Dev :=
  if !bit (s.rg Reg.INT_PROBE_CTRL 0 0) 0 then s
  else
    let s := { s with int := { s.int with noCover := s.int.noCover.filter fun k => k % 16 == s.epochNow } }
    (List.range 16).foldl (fun s c => s.probeCluster c) s

/-! ### Release (R442). -/

/-- Ports of a cluster that is in service again lose CAUSE 9, unless one of their lanes is isolated alone. -/
def Dev.freePorts (s : Dev) (c : Nat) : Dev :=
  if s.clusterIso c || !s.pdOn c then s
  else (List.range 16).foldl (fun s i =>
    let p := 16 * c + i
    let held := (List.range (max 1 (cfgWidth (s.portCfg p)))).any fun j => s.int.units.contains (clusterUnit bLNP c (i + j)).code.toNat
    let x := s.port p
    if held then s else s.setPort p { x with causes := setBit x.causes 9 false }) s

def Dev.releaseCluster (s : Dev) (c : Nat) : Dev :=
  if s.stopped || 16 ≤ c then s else (s.wf Reg.INT_ISO 0 0 c 1 0).freePorts c

def Dev.releaseF (s : Dev) (r : Nat) : Dev :=
  if s.stopped || 2 ≤ r || !s.fIso r || s.resyncing r then s
  else s.wf Reg.INT_ISO 0 0 (20 + r) 1 1

/-- A stack comes back untrained: it must reach READY again (R346). -/
def Dev.restack (s : Dev) (k : Nat) : Dev := if s.stackState k == 0 then s else s.setStack k 1

def Dev.releaseT (s : Dev) (r : Nat) : Dev :=
  if s.stopped || 2 ≤ r || !s.tIso r then s
  else (List.range 4).foldl (fun s k => if s.variant.hasStack (4 * r + k) then s.restack (4 * r + k) else s) (s.wf Reg.INT_ISO 0 0 (18 + r) 1 0)

/-- The unit of object 0x05 returns to service. -/
def Dev.releaseUnit (s : Dev) : Dev :=
  let code := wordN (s.obj bINT 5 0) 0
  let u := UnitId.ofCode (w32 code)
  if s.stopped || !s.int.units.contains code then s
  else
    let s := { s with int := { s.int with units := delKey s.int.units code } }
    if u.blk == bLNP && u.cl < 16 then s.freePorts u.cl
    else if u.blk == bQAD then s.setQueue u.inst { s.queue u.inst with isolated := false }
    else if u.blk == bSCH then s.setQueue (nQ + u.inst) { s.queue (nQ + u.inst) with isolated := false }
    else if u.blk == bHBM && u.reg < 2 then s.restack (4 * u.reg + u.inst)
    else s

/-- The copy of region `r` is complete: its clusters return, its replica is loaded as the primary is. Region `r` serves no lookup and no read while it is copied, so that a write meanwhile goes to the primary and reaches `r` here, whether its segment was copied before or after it (R442; log entry 131). -/
def Dev.resyncDone (s : Dev) (r : Nat) : Dev :=
  if !s.resyncing r || s.stopped then s
  else
    let o := 1 - r
    let s := s.setRep r (s.rep o)
    let v := s.rg Reg.INT_ISO 0 0
    let s := s.wg Reg.INT_ISO 0 0 (setBit (setBit v (16 + r) false) (20 + r) false)
    let mine := (s.int.loaded.filter fun k => k / 128 == o).map fun k => r * 128 + k % 128
    let s := { s with int := { s.int with loaded := (s.int.loaded.filter fun k => k / 128 == o) ++ mine } }
    ((List.range 8).foldl (fun s i => s.freePorts (8 * r + i)) s).event bINT 14

/-- A write of INT_RELEASE with GO. -/
def Dev.intRelease (s : Dev) (q : Req) (go : Bool) (act : Dev → Dev) : Dev :=
  s.gateWrite q Reg.INT_RELEASE 0 0 fun s _ => if go then act s else s

/-! ### Commands. -/

/-- SRAM_SCRUB (R431, R432): the errors that a pass meets. -/
def execSramScrub (errs : List SramErr) (s : State) : Host.Outcome State Fault Refusal := s.on fun d => errs.foldl (fun d e => d.sramError e) d
/-- DIGEST_COMPARISON (R434): `f0`, `f1` what faulty state does to the regions' digests. -/
def execDigestComparison (t : BitVec 7) (seg : BitVec 12) (f0 f1 : W32) (s : State) : Host.Outcome State Fault Refusal :=
  s.on fun d => d.digestCompare t.toNat seg.toNat f0 f1
/-- DIGEST_RECOMPUTE (R434, R435). -/
def execDigestRecompute (t : BitVec 7) (seg : BitVec 12) (f0 f1 : W32) (s : State) : Host.Outcome State Fault Refusal :=
  s.on fun d => d.digestRecompute t.toNat seg.toNat f0 f1
/-- SHADOW_SCRUB (R436): entries that differed from their shadows, by region and bank × 4,096 + index, with a syndrome; each is rewritten, so that the replica holds what its shadow does. -/
def execShadowScrub (diffs : List (Fin 2 × BitVec 18 × W32)) (s : State) : Host.Outcome State Fault Refusal :=
  s.on fun d => if !d.pdOn 19 then d else diffs.foldl (fun d x => d.detect 5 (repUnit bACS x.1) (w32 x.2.1.toNat) (setBit x.2.2 31 false)) d
/-- PROBE_RUN (R437). -/
def execProbeRun (s : State) : Host.Outcome State Fault Refusal := s.on fun d => d.probes
/-- RELEASE_CLUSTER (R442): INT_RELEASE KIND 1. -/
def execReleaseCluster (q : Req) (index : BitVec 17) (go : Bool) (s : State) : Host.Outcome State Fault Refusal :=
  s.on fun d => d.intRelease q go fun d => d.releaseCluster index.toNat
/-- RELEASE_F_REGION (R442): KIND 2. -/
def execReleaseFRegion (q : Req) (index : BitVec 17) (go : Bool) (s : State) : Host.Outcome State Fault Refusal :=
  s.on fun d => d.intRelease q go fun d => d.releaseF index.toNat
/-- RELEASE_T_REGION (R442): KIND 3. -/
def execReleaseTRegion (q : Req) (index : BitVec 17) (go : Bool) (s : State) : Host.Outcome State Fault Refusal :=
  s.on fun d => d.intRelease q go fun d => d.releaseT index.toNat
/-- RELEASE_UNIT (R442): KIND 4, the unit of mailbox object 0x05. -/
def execReleaseUnit (q : Req) (index : BitVec 17) (go : Bool) (s : State) : Host.Outcome State Fault Refusal :=
  s.on fun d => d.intRelease q go fun d => if index.toNat == (UnitId.ofCode (word (d.obj bINT 5 0) 0)).inst then d.releaseUnit else d
/-- RESYNC_COMPLETE (R442). -/
def execResyncComplete (r : Fin 2) (s : State) : Host.Outcome State Fault Refusal := s.on fun d => d.resyncDone r

end Sys2Proof.Machine
end

