-- ==== Sys2Proof/Machine/Spdm.lean ====
section
/-! DEFINITION. The SPDM 1.2 responder over DOE and the DOE Discovery protocol (R362, R425–R427). Message layouts are those of DMTF DSP0274 1.2, which the spec names (log entry 51). -/
namespace Sys2Proof.Machine

/-! ### Measurements (R427). -/

/-- 48 zero bytes. -/
def zeros48 : List Byte := List.replicate 48 0

/-- The firmware image of a complex. -/
def Dev.fwDigest (s : Dev) (x : Nat) : List Byte := Config.sha384 (s.flash (s.ccSlot x)).image

/-- The enrolled signing keys and installed KEY_IDs, in slot and entry order. -/
def Dev.keyItems (s : Dev) : List (List Byte) :=
  ((List.range 4).filterMap fun k => (s.setting? 1 0 k).map Setting.data)
    ++ ((List.range 8).filterMap fun e => (s.setting? 2 0 e).map fun r => r.data.take 8)

/-- The measurement of an index, 1 to 8. -/
def Dev.measure (s : Dev) (i : Nat) : List Byte :=
  let lead := s.holder - 1
  let under := 1 - lead
  if i == 1 then Config.sha384 (Config.unitBytes 6)
  else if i == 2 then s.fwDigest lead
  else if i == 3 then (if s.ccRuns under && s.ccState under == 2 then s.fwDigest under else zeros48)
  else if i == 4 then ((s.bookOf s.epochNow).map Book.digest).getD zeros48
  else if i == 5 then (if s.retiring.isSome then (s.pbk.old.map Book.digest).getD zeros48 else zeros48)
  else if i == 6 then Config.sha384 (Config.encodeItems 6
    [[BitVec.ofNat 8 s.upd.fwFloor], [BitVec.ofNat 8 s.upd.bookFloor], [BitVec.ofNat 8 s.upd.revoked], [BitVec.ofNat 8 s.variant.index],
      leBytes 4 (s.rg Reg.ID 0 0).toNat, slice (Config.unitBytes 1) 0 8])
  else if i == 7 then Config.sha384 (Config.encodeItems 7 s.keyItems)
  else Config.sha384 (wordsBytes s.upd.boot.words)

/-- What the DMTF measurement value type says of an index: 0 immutable ROM, 1 mutable firmware, 2 hardware configuration, 3 firmware configuration. -/
def measureType (i : Nat) : Byte := if i == 1 then 0 else if i == 2 || i == 3 then 1 else if i == 6 then 2 else 3

/-- A measurement block in the DMTF format. -/
def Dev.measureBlock (s : Dev) (i : Nat) : List Byte :=
  let v := s.measure i
  let body := measureType i :: (leBytes 2 v.length ++ v)
  [BitVec.ofNat 8 i, 1] ++ leBytes 2 body.length ++ body

def Dev.measureBlocks (s : Dev) : List Byte := (List.range 8).flatMap fun i => s.measureBlock (i + 1)

/-! ### Messages. -/

/-- Byte `i` of a message, as a number. -/
def msgByte (m : List Byte) (i : Nat) : Nat := (m.getD i 0).toNat

def asciiBytes (t : String) : List Byte := t.toList.map fun c => BitVec.ofNat 8 c.toNat

/-- What is signed: the combined prefix and the digest of the messages covered. -/
def spdmToSign (context : String) (msgs : List Byte) : List Byte :=
  let c := asciiBytes context
  (List.range 4).flatMap (fun _ => asciiBytes "dmtf-spdm-v1.2.*") ++ List.replicate (36 - c.length) 0 ++ c ++ Config.sha384 msgs

/-- The signature with the identity key. -/
def spdmSign (context : String) (msgs : List Byte) : List Byte := Config.ecdsaSign 0 (spdmToSign context msgs)

/-- `n` bytes that the responder draws at random. -/
def Dev.nonce : Nat → Dev → List Byte × Dev
  | 0, s => ([], s)
  | n + 1, s =>
    let (v, s) := s.fresh
    let (l, s) := Dev.nonce n s
    (leBytes 8 v.toNat ++ l, s)

/-- An ERROR response with its code: 0x01 invalid request, 0x04 unexpected request, 0x41 version mismatch. -/
def Dev.spdmError (s : Dev) (code : Nat) : Dev :=
  s.emit (.doe [if s.upd.spdm == 0 then 0x10 else 0x12, 0x7F, BitVec.ofNat 8 code, 0])

/-- The certificate chain. -/
def certChain : List Byte := Config.unitBytes 0
def certDigest : List Byte := Config.sha384 certChain

/-- Answer, and add the exchange to the messages that a challenge covers. -/
def Dev.spdmReplyB (s : Dev) (m r : List Byte) : Dev :=
  { s with upd := { s.upd with spdmB := s.upd.spdmB ++ m ++ r, spdmL := [] } }.emit (.doe r)

/-- Answer, and add the exchange to the messages of the agreement. -/
def Dev.spdmReplyA (s : Dev) (state : Nat) (m r : List Byte) : Dev :=
  { s with upd := { s.upd with spdm := state, spdmA := s.upd.spdmA ++ m ++ r, spdmB := [], spdmL := [] } }.emit (.doe r)

def Dev.spdmVersion (s : Dev) (m : List Byte) : Dev :=
  let r : List Byte := [0x10, 0x04, 0, 0, 0, 1, 0x00, 0x12]
  if msgByte m 0 != 0x10 then s.spdmError 0x41
  else if m.length != 4 then s.spdmError 1
  else { s with upd := { s.upd with spdm := 1, spdmA := m ++ r, spdmB := [], spdmL := [] } }.emit (.doe r)

/-- CERT_CAP, CHAL_CAP, MEAS_CAP with signatures. -/
def Dev.spdmCapabilities (s : Dev) (m : List Byte) : Dev :=
  let dts := ofLe (slice m 12 4)
  let v := slice (Config.unitBytes 7) 0 9
  if s.upd.spdm != 1 then s.spdmError 4
  else if m.length != 20 || dts < 42 || ofLe (slice m 16 4) < dts then s.spdmError 1
  else s.spdmReplyA 2 m ([0x12, 0x61, 0, 0, 0] ++ v.take 1 ++ [0, 0] ++ leBytes 4 0x16 ++ v.drop 1)

/-- SHA-384 measurements, ECDSA P-384, SHA-384, as far as the request offers them. -/
def Dev.spdmAlgorithms (s : Dev) (m : List Byte) : Dev :=
  let has (off k : Nat) : Bool := ofLe (slice m off 4) / 2 ^ k % 2 == 1
  let meas := msgByte m 6 % 2
  let r : List Byte := [0x12, 0x63, 0, 0] ++ leBytes 2 36 ++ [BitVec.ofNat 8 meas, 0] ++ leBytes 4 (if meas == 1 then 4 else 0)
    ++ leBytes 4 (if has 8 7 then 0x80 else 0) ++ leBytes 4 (if has 12 1 then 2 else 0) ++ List.replicate 16 0
  if s.upd.spdm != 2 then s.spdmError 4
  else if m.length < 32 || ofLe (slice m 4 2) != m.length then s.spdmError 1
  else s.spdmReplyA 3 m r

def Dev.spdmDigests (s : Dev) (m : List Byte) : Dev :=
  if s.upd.spdm != 3 then s.spdmError 4
  else if m.length != 4 then s.spdmError 1
  else s.spdmReplyB m ([0x12, 0x01, 0, 1] ++ certDigest)

def Dev.spdmCertificate (s : Dev) (m : List Byte) : Dev :=
  let off := ofLe (slice m 4 2)
  let part := (certChain.drop off).take (ofLe (slice m 6 2))
  if s.upd.spdm != 3 then s.spdmError 4
  else if m.length != 8 || msgByte m 2 % 16 != 0 || certChain.length ≤ off then s.spdmError 1
  else s.spdmReplyB m ([0x12, 0x02, 0, 0] ++ leBytes 2 part.length ++ leBytes 2 (certChain.length - off - part.length) ++ part)

/-- CHALLENGE: measurement summary none, TCB (which indices belong to it the spec does not say: a free value), or all. -/
def Dev.spdmChallenge (s : Dev) (m : List Byte) : Dev :=
  let kind := msgByte m 3
  if s.upd.spdm != 3 then s.spdmError 4
  else if m.length != 36 || msgByte m 2 != 0 || !(kind == 0 || kind == 1 || kind == 0xFF) then s.spdmError 1
  else
    let (sum, s) := if kind == 1 then s.nonce 6 else (if kind == 0 then [] else Config.sha384 s.measureBlocks, s)
    let (n, s) := s.nonce 4
    let c := [0x12, 0x03, 0, 1] ++ certDigest ++ n ++ sum ++ [0, 0]
    let r := c ++ spdmSign "responder-challenge_auth signing" (s.upd.spdmA ++ s.upd.spdmB ++ m ++ c)
    { s with upd := { s.upd with spdmB := [], spdmL := [] } }.emit (.doe r)

/-- GET_MEASUREMENTS: the number of indices, one index, or all; signed when asked. -/
def Dev.spdmMeasurements (s : Dev) (m : List Byte) : Dev :=
  let sign := msgByte m 2 % 2 == 1
  let op := msgByte m 3
  if s.upd.spdm != 3 then s.spdmError 4
  else if m.length != (if sign then 37 else 4) || (8 < op && op != 0xFF) || (sign && msgByte m 36 % 16 != 0) then
    { s with upd := { s.upd with spdmL := [] } }.spdmError 1
  else
    let rec_ := if op == 0 then [] else if op == 0xFF then s.measureBlocks else s.measureBlock op
    let blocks : Byte := if op == 0 then 0 else if op == 0xFF then 8 else 1
    let (n, s) := s.nonce 4
    let r := [0x12, 0x60, if op == 0 then 8 else 0, 0, blocks] ++ leBytes 3 rec_.length ++ rec_ ++ n ++ [0, 0]
    let l := s.upd.spdmL ++ m ++ r
    if sign then
      { s with upd := { s.upd with spdmL := [] } }.emit (.doe (r ++ spdmSign "responder-measurements signing" (s.upd.spdmA ++ l)))
    else { s with upd := { s.upd with spdmL := l } }.emit (.doe r)

/-- Answer a request. After GET_VERSION every request carries version 1.2. -/
def Dev.spdmAnswer (s : Dev) (m : List Byte) : Dev :=
  let code := msgByte m 1
  if code == 0x84 then s.spdmVersion m
  else if msgByte m 0 != 0x12 then s.spdmError 0x41
  else if code == 0xE1 then s.spdmCapabilities m
  else if code == 0xE3 then s.spdmAlgorithms m
  else if code == 0x81 then s.spdmDigests m
  else if code == 0x82 then s.spdmCertificate m
  else if code == 0x83 then s.spdmChallenge m
  else s.spdmMeasurements m

/-! ### The DOE mailbox (R362, R426). -/

/-- The DOE mailbox can be reached: a link, no reset of the host interface. -/
def Dev.doeOpen (s : Dev) : Bool := s.pci.link != 0 && !s.pci.flr && !s.pci.perst && s.pci.doeWait.isNone

/-- A request arrives: it is answered while a complex leads, and waits otherwise. -/
def Dev.spdmRequest (s : Dev) (code : Nat) (ver : Byte) (body : List Byte) : Dev :=
  let m := ver :: BitVec.ofNat 8 code :: body
  if !s.doeOpen then s
  else if s.leadRuns then s.spdmAnswer m
  else { s with pci := { s.pci with doeWait := some m } }

/-- The request that waited is answered. -/
def Dev.spdmResume (s : Dev) : Dev :=
  match s.pci.doeWait with
  | some m => if s.leadRuns then { s with pci := { s.pci with doeWait := none } }.spdmAnswer m else s
  | none => s

/-- DOE Discovery: index 0 is the Discovery protocol, index 1 SPDM; both of vendor 0x0001. -/
def Dev.doeDiscovery (s : Dev) (index : Nat) : Dev :=
  if !s.doeOpen then s
  else if index == 0 then s.emit (.doe [0x01, 0x00, 0x00, 0x01])
  else if index == 1 then s.emit (.doe [0x01, 0x00, 0x01, 0x00])
  else s.emit (.doe [0xFF, 0xFF, 0xFF, 0x00])

/-! ### Commands: each takes the SPDM version byte and the request's bytes from Param1 on. -/

/-- GET_VERSION (R426). -/
def execGetVersion (ver : Byte) (body : List Byte) (s : State) : Host.Outcome State Fault Refusal := s.on fun d => d.spdmRequest 0x84 ver body
/-- GET_CAPABILITIES (R426). -/
def execGetCapabilities (ver : Byte) (body : List Byte) (s : State) : Host.Outcome State Fault Refusal := s.on fun d => d.spdmRequest 0xE1 ver body
/-- NEGOTIATE_ALGORITHMS (R426). -/
def execNegotiateAlgorithms (ver : Byte) (body : List Byte) (s : State) : Host.Outcome State Fault Refusal := s.on fun d => d.spdmRequest 0xE3 ver body
/-- GET_DIGESTS (R426). -/
def execGetDigests (ver : Byte) (body : List Byte) (s : State) : Host.Outcome State Fault Refusal := s.on fun d => d.spdmRequest 0x81 ver body
/-- GET_CERTIFICATE (R426). -/
def execGetCertificate (ver : Byte) (body : List Byte) (s : State) : Host.Outcome State Fault Refusal := s.on fun d => d.spdmRequest 0x82 ver body
/-- CHALLENGE (R426). -/
def execChallenge (ver : Byte) (body : List Byte) (s : State) : Host.Outcome State Fault Refusal := s.on fun d => d.spdmRequest 0x83 ver body
/-- GET_MEASUREMENTS (R427). -/
def execGetMeasurements (ver : Byte) (body : List Byte) (s : State) : Host.Outcome State Fault Refusal := s.on fun d => d.spdmRequest 0xE0 ver body
/-- DOE_DISCOVERY (R362): the index asked for. -/
def execDoeDiscovery (index : Byte) (s : State) : Host.Outcome State Fault Refusal := s.on fun d => d.doeDiscovery index.toNat
/-- DOE_ABORT (R362): the exchange in progress is discarded. -/
def execDoeAbort (s : State) : Host.Outcome State Fault Refusal := s.on fun d => { d with pci := { d.pci with doeWait := none } }

end Sys2Proof.Machine
end

