-- ==== Sys2Proof/Machine/Power.lean ====
section
/-! DEFINITION. Power domains, resets, bring-up with the Lead's service cycle, thermal supervision, rails and the test access port (chapters 21, 22). -/
namespace Sys2Proof.Machine

/-! ### Domains (R466–R469). -/

/-- Domain `d` requires PD16. -/
def needs16 (d : Nat) : Bool := d < 16 || d == 17 || d == 18 || d == 19

/-- Domain `d` is on, or turning on. -/
def Dev.pdLive (s : Dev) (d : Nat) : Bool := (s.pdOn d && !s.pwr.goal.contains (d, false)) || s.pwr.goal.contains (d, true)

def Dev.setStatus (s : Dev) (d : Nat) (on : Bool) : Dev := s.wf Reg.PWR_PD_STATUS 0 0 d 1 on.toNat
def Dev.setGoal (s : Dev) (d : Nat) (on : Bool) : Dev :=
  { s.wf Reg.PWR_PD_BUSY 0 0 d 1 1 with pwr := { s.pwr with goal := minsert s.pwr.goal d on } }
def Dev.endGoal (s : Dev) (d : Nat) : Dev :=
  { s.wf Reg.PWR_PD_BUSY 0 0 d 1 0 with pwr := { s.pwr with goal := merase s.pwr.goal d } }

/-- The books whose epochs are live. -/
def Dev.liveBooks (s : Dev) : List Book := [s.pbk.inForce, s.pbk.old].filterMap id

/-- Why switching domain `d` is refused, by CODE (R468). -/
def Dev.pdRefusal (s : Dev) (d : Nat) (on : Bool) : Option Nat :=
  if on then (if needs16 d && !s.pdOn 16 then some 1 else none)
  else if d == 16 && (List.range 20).any (fun e => needs16 e && s.pdLive e) then some 1
  else if (d == 30 || d == 31) && (!s.pdOn (61 - d) || !s.ccRuns (31 - d)) then some 2
  else if 20 ≤ d && d < 28 && (s.spillEn || s.liveBooks.any (fun b => b.hbmUse / 2 ^ (d - 20) % 2 == 1) || (d == 20 && !s.lci.store.isEmpty)) then some 3
  else if d == 17 && (List.range 256).any (fun p => s.protected p) then some 4
  else if d == 18 && s.liveBooks.any (fun b => b.requires / 2 % 2 == 1) then some 4
  else if d == 19 && s.liveBooks.any (fun b => b.tables.any fun t => t.tkind == 1) then some 4
  else none

/-- An offset lies in domain `d`. -/
def inDomain (d a : Nat) : Bool := domainOf (a / windowSize) (a % windowSize) == some d

/-- The blocks whose objects and counters are lost with a domain. -/
def domainBlk (d b : Nat) : Bool := (d == 16 && (b == bFIB || b == bEXM || b == bPOL)) || (d == 19 && b == bACS)

/-- The logic of a domain starts from its reset values; the registers of clusters are retained (R467, R469). -/
def Dev.domainFresh (s : Dev) (d : Nat) : Dev :=
  if d < 16 then s
  else
    let keepO {α : Type} (m : List (Nat × α)) : List (Nat × α) := m.filter fun e => !domainBlk d (keyBlk e.1)
    let s := { s with regs := s.regs.filter fun e => !inDomain d e.1, wings := s.wings.filter fun e => !inDomain d e.1,
                      objs := keepO s.objs, objWings := keepO s.objWings, ctr := s.ctr.filter fun e => !domainBlk d (keyBlk (e.1 / 8)) }
    if d == 16 then
      let s := s.rehashesOver
      let t : TblSt := { s.tbl with hostDead := [], seeds := [], rehash := [], gens := [], filter := [], rateMs := 0, rateN := 0, learnCap := none }
      { s with rep0 := { acs := s.rep0.acs }, rep1 := { acs := s.rep1.acs }, intent := { acs := s.intent.acs }, tbl := t,
               int := { s.int with loaded := [], differ := [], digests := [] }, tm := { s.tm with polC := [], polP := [] } }
    else if d == 17 then
      let s := (List.range 16).foldl (fun (s : Dev) c => (s.validSlots c).foldl (fun (s : Dev) k => s.dropCtx c k) s) s
      { s with lci := { s.lci with keks := [], load := [], busy := none } }
    else if d == 19 then
      { s with rep0 := { s.rep0 with acs := [] }, rep1 := { s.rep1 with acs := [] }, intent := { s.intent with acs := [] },
               tbl := { s.tbl with asm := [], stepKey := [], stepTable := 0, stepRegion := 0, stepEpoch := 0, stepLast := none, stepOn := false, cools := [], stepAt := s.cue.localNs } }
    else s

/-- The ports of a cluster go down, its predictor is emptied, and what its pipeline holds is lost (R28, R441, R469). -/
def Dev.clusterDark (s : Dev) (c : Nat) : Dev :=
  let s := (List.range 16).foldl (fun s i => if s.portState (16 * c + i) == 0 then s else s.portDown (16 * c + i) 9) s
  let s := s.predFlush c
  let mine := s.ing.pipe.filter fun k => k.port / 16 == c
  let s := mine.foldl (fun s k => s.houseOut k.epoch 1) s
  { s with ing := { s.ing with rx := merase s.ing.rx c, pipe := s.ing.pipe.filter fun k => k.port / 16 != c } }

/-- HBM_EN falls; the regulator then lowers the stack's rails. -/
def Dev.hbmDown (s : Dev) (k : Nat) : Dev := { s with pwr := { s.pwr with pg := delKey s.pwr.pg k } }.emit (.hbmEn k false)

/-- A stack goes OFF (R346, R441, R489). -/
def Dev.stackOff (s : Dev) (k : Nat) : Dev :=
  let s := ((s.setStack k 0).closeBanks k).stackOut k
  { s with hbm := { s.hbm with seen := delKey s.hbm.seen k, hot := delKey s.hbm.hot k, shut := merase s.hbm.shut k } }

/-- What switching domain `d` off does to traffic (R469). -/
def Dev.domainLost (s : Dev) (d : Nat) : Dev :=
  if d < 16 then s.clusterDark d
  else if d < 20 then s.domainFresh d
  else if d < 28 then s.stackOff (d - 20)
  else if d < 30 then (List.range 160).foldl (fun s l => s.laneFail (160 * (d - 28) + l)) s
  else s.ccStop (d - 30) 0

/-- A transition begins (R467). -/
def Dev.pdStart (s : Dev) (d : Nat) (on : Bool) : Dev :=
  if on then
    let s := s.setGoal d true
    if 20 ≤ d && d < 28 then s.emit (.hbmEn (d - 20) true) else s
  else ((s.setGoal d false).setStatus d false).domainLost d

/-- The domain takes the state that PWR_PD_CTRL asks for, unless it has it. -/
def Dev.pdFollow (s : Dev) (d : Nat) : Dev :=
  let want := bit s.pdCtrl d
  if s.pdBusy d || want == s.pdOn d then s else s.pdStart d want

/-- A refused switch: PWR_PD_RESULT and PWR event 2. -/
def Dev.pdRefused (s : Dev) (d code : Nat) : Dev := (s.wg Reg.PWR_PD_RESULT 0 0 (at_ 0 5 d ||| at_ 8 4 code)).event bPWR 2

/-- Thermal shutdown holds (PWR_TEMP.HOLD). -/
def Dev.tempHold (s : Dev) : Bool := bit (s.rg Reg.PWR_TEMP 0 0) 18

/-- A write of PWR_PD_CTRL (R467, R468, R476): each change is judged as the write finds the device. While thermal shutdown holds every write is refused, for the lowest domain that it would change, or for domain 0 when it would change none (log entry 98). -/
def Dev.pdWrite (s : Dev) (v : W32) : Dev :=
  let changed := (List.range 32).filter fun d => s.variant.hasDomain d && bit v d != bit s.pdCtrl d
  if s.tempHold then s.pdRefused (changed.headD 0) 6
  else
    let bad (d : Nat) : Option Nat := s.pdRefusal d (bit v d)
    let first := changed.find? fun d => (bad d).isSome
    let good := changed.filter fun d => (bad d).isNone
    let s := match first with
      | some d => s.pdRefused d ((bad d).getD 0)
      | none => s
    let s := good.foldl (fun s d => s.setPdCtrl (setBit s.pdCtrl d (bit v d))) s
    good.foldl (fun s d => s.pdFollow d) s

/-- A transition ends (R467). A stack's domain turns on only with HBM_PG high. -/
def Dev.pdComplete (s : Dev) (d : Nat) : Dev :=
  let stack := 20 ≤ d && d < 28
  match s.pwr.goal.find? fun e => e.1 == d with
  | none => s
  | some (_, true) =>
    if stack && !s.pwr.pg.contains (d - 20) then s
    else
      let s := ((s.endGoal d).domainFresh d).setStatus d true
      let s := if d < 16 then s.freePorts d else if stack then s.setStack (d - 20) 1 else s
      (s.event bPWR 0).pdFollow d
  | some (_, false) =>
    let s := s.endGoal d
    let s := if stack then s.hbmDown (d - 20) else s
    (s.event bPWR 1).pdFollow d

/-- HBM_PG rises (R346). -/
def Dev.pgRise (s : Dev) (k : Nat) : Dev :=
  let s := { s with pwr := { s.pwr with pg := addKey s.pwr.pg k } }
  if s.pdOn (20 + k) && s.stackState k == 0 then s.setStack k 1 else s

/-- HBM_PG has not risen within 20 ms (R467). -/
def Dev.pgTimeout (s : Dev) (k : Nat) : Dev :=
  if !s.pwr.goal.contains (20 + k, true) || s.pwr.pg.contains k then s
  else
    let s := (s.endGoal (20 + k)).hbmDown k
    (s.setPdCtrl (setBit s.pdCtrl (20 + k) false)).pdRefused (20 + k) 5

/-- HBM_PG falls (R489). -/
def Dev.pgLoss (s : Dev) (k : Nat) : Dev :=
  let s := { s with pwr := { s.pwr with pg := delKey s.pwr.pg k } }
  if s.pdOn (20 + k) then s.stackOff k else s

/-! ### Stop device that only a device reset ends (R475, R489, R495). -/

def Dev.stopHard (s : Dev) : Dev := { s with pwr := { s.pwr with hardStop := true } }.stopDevice

/-- Stop device ends (R471). -/
def Dev.stopEnd (s : Dev) : Dev :=
  let s := s.wf Reg.INT_ISO 0 0 31 1 0
  let s := (List.range 16).foldl (fun s c => s.freePorts c) s
  (List.range 320).foldl (fun s l => if s.laneUp l then s.emit (.ctrlSlot l (s.ctrlHdr l)) else s) s

/-! ### Resets (R470, R471). -/

/-- The entries of a store that belong to T-die blocks, by register offset and by object key. -/
def tRegs {α : Type} (m : List (Nat × α)) : List (Nat × α) := m.filter fun e => !onFDie (e.1 / windowSize)
def tObjs {α : Type} (m : List (Nat × α)) : List (Nat × α) := m.filter fun e => !onFDie (keyBlk e.1)

/-- Packets that the F-die holds, and crossings that have not wholly left it, are lost. -/
def Dev.fPackets (s : Dev) : Dev :=
  let out (s : Dev) (k : Ticket) : Dev := s.houseOut k.epoch.toNat 1
  let got := s.dvtFT.delivered
  let s := s.ing.pipe.foldl (fun (s : Dev) k => s.houseOut k.epoch 1) s
  let s := (s.tm.urgent ++ s.tm.general).foldl (fun (s : Dev) e => e.2.foldl (fun (s : Dev) x => out s x.ticket) s) s
  let s := s.tm.packed.foldl (fun (s : Dev) x => out s x.1.ticket) s
  let s := s.tm.toEgress.foldl (fun (s : Dev) e => out s e.ticket) s
  let s := s.tm.toLine.foldl (fun (s : Dev) t => out s t.ticket) s
  let s := (s.tm.arriving.filter fun a => a.key.isNone && decide (got < a.fin)).foldl (fun (s : Dev) a => s.commitArriving { a with good := false }) s
  { s with ing := {}, tm := { s.tm with urgent := [], general := [], packed := [], toEgress := [], toLine := [], polC := [], polP := [],
                                        arriving := s.tm.arriving.map fun (a : Arriving) => { a with fin := 0 } } }

/-- Every cage that has power or ramps loses it. -/
def Dev.cagesDark (s : Dev) : Dev :=
  (List.range 64).foldl (fun s c => if s.pstate c == 2 || s.pstate c == 3 then s.emit (.cagePwren c false) else s) s

/-- The F-die starts from its first-use state (R471, R473). -/
def Dev.fDieClear (s : Dev) : Dev :=
  let s := s.fPackets.cagesDark.rehashesOver
  let t : TblSt := { groups := s.tbl.groups, pool := s.tbl.pool, mirrors := s.tbl.mirrors, stepAt := s.cue.localNs }
  let s := { s with
    regs := tRegs s.regs, wings := tRegs s.wings, objs := tObjs s.objs, objWings := tObjs s.objWings,
    ctr := s.ctr.filter fun e => !onFDie (keyBlk (e.1 / 8)), mbx := s.mbx.filter fun e => !onFDie e.1,
    cue := { s.cue with oldRegs := s.cue.oldRegs.filter fun o => !onFDie (o.key / windowSize),
                        oldObjs := s.cue.oldObjs.filter fun o => !onFDie (keyBlk o.key) },
    i2c := [], cageWait := [], ports := [], otf := [], lci := { devKey := s.lci.devKey + 1 },
    rep0 := {}, rep1 := {}, intent := {}, tbl := t,
    int := { s.int with loaded := [], differ := [], digests := [], probeFails := [], noCover := [] },
    dvtFT := {}, dvtTF := {} }
  let v := s.rg Reg.PWR_PD_STATUS 0 0
  let b := s.rg Reg.PWR_PD_BUSY 0 0
  let s := (s.wg Reg.PWR_PD_STATUS 0 0 (v &&& 0xFFF00000#32)).wg Reg.PWR_PD_BUSY 0 0 (b &&& 0xFFF00000#32)
  let s := { s with pwr := { s.pwr with goal := s.pwr.goal.filter fun e => decide (20 ≤ e.1) } }
  let s := s.wf Reg.INT_ISO 0 0 20 2 0
  (s.wg Reg.DVT_LINK_STATUS 0 0 1).wg Reg.DVT_LINK_STATUS 0 1 1

/-- LAST_RESET of TOP_BOOT. -/
def Dev.lastReset (s : Dev) (n : Nat) : Dev := s.wf Reg.TOP_BOOT 0 0 8 4 n

/-- F-die reset (R471): the loader, on the T-die, gives up what it was doing and keeps the book in force; the Lead then repeats steps 7 and 10 of bring-up. -/
def Dev.fDieReset (s : Dev) : Dev :=
  if !s.bases then s
  else
    let s := s.stopDevice.fDieClear
    let s := { s with pwr := { s.pwr with fDie := true, installing := false },
                      pbk := { s.pbk with checked := none, result := none, old := none, busyOp := 0, phase := 0, changed := [], former := none } }
    ((s.wf Reg.PBK_SPLIT 0 0 8 3 0).setPbk s.pbkStable 0 0 false).lastReset 2

/-- The loader is ACTIVE again after an F-die reset: the stop ends unless only a device reset ends it. -/
def Dev.fDieDone (s : Dev) : Dev :=
  if !s.pwr.fDie || !s.pwr.installing || s.pbkBusy || (s.pbkState != 1 && s.pbk.inForce.isSome) then s
  else
    let s := { s with pwr := { s.pwr with fDie := false, installing := false } }
    (if s.pwr.hardStop then s else s.stopEnd).event bPWR 6

/-- What survives every reset of the update agent: flash and fuses. -/
def UpdSt.kept (u : UpdSt) : UpdSt :=
  { slots := u.slots, boot := u.boot, store0 := u.store0, store1 := u.store1, crash := u.crash, crashSeq := u.crashSeq,
    fwFloor := u.fwFloor, bookFloor := u.bookFloor, revoked := u.revoked }

/-- Both bases ramp: STAGE 1, and the complexes' domains turn on (R472 steps 2 and 3). -/
def Dev.basesUp (s : Dev) : Dev :=
  let s := { s with bases := true }.wf Reg.TOP_BOOT 0 0 0 3 1
  (s.pdFollow 30).pdFollow 31

/-- The registers that lie in AON and that a device reset keeps: clock and oscillator registers, thermal thresholds, rails (R470; log entry 52). -/
def inAon (a : Nat) : Bool :=
  (a / windowSize == bCUE && 0x100 ≤ a % windowSize && a % windowSize < 0x140)
    || (a / windowSize == bPWR && (a % windowSize == 0x120 || a % windowSize == 0x128))

/-- Device reset (R470): both dies; the Cue Clock, the PCIe link and configuration space, the fuses and the flash stay. -/
def Dev.deviceReset (s : Dev) : Dev :=
  let s := s.cagesDark
  let s := (List.range 8).foldl (fun s k => if s.pdLive (20 + k) then s.hbmDown k else s) s
  let c : CueSt := { s.cue with slots := [], groups := [], fireReq := [], oldRegs := [], oldObjs := [], mapWaits := [], epochCmds := [],
                                retireFrom := 0, house := [], houseFab := [], houseX := [], stepLoad := none }
  let d : Dev := { Dev.reset s.variant with
    regs := s.regs.filter fun e => inAon e.1, cue := c, tbl := { stepAt := s.cue.localNs }, pci := { s.pci with doeWait := none }, upd := s.upd.kept,
    pwr := { pg := s.pwr.pg, low := s.pwr.low }, hbm := { gen := s.hbm.gen }, lci := { devKey := s.lci.devKey + 1 },
    freeCtr := s.freeCtr, out := s.out }
  (d.lastReset 1).basesUp

/-- TOP_RESET.DEVICE is refused while thermal shutdown holds (R476). -/
def Dev.deviceResetAsked (s : Dev) : Dev := if s.tempHold then s.event bTOP 1 else s.deviceReset

/-- AON power-on: everything but flash and fuses (R470). -/
def Dev.aonPowerOn (s : Dev) : Dev :=
  { Dev.reset s.variant with upd := s.upd.kept, hbm := { gen := s.hbm.gen }, lci := { devKey := s.lci.devKey + 1 }, freeCtr := s.freeCtr, out := s.out }

/-- What a reset of block `b` brings beyond its registers: ports, ciphers, rings, lanes, cages (log entry 53). -/
def Dev.blockHooks (s : Dev) (b : Nat) (old : Dev) : Dev :=
  if b == bLNP then
    (List.range 256).foldl (fun s p => if old.portCfg p == s.portCfg p then s else s.portChanged p (old.portCfg p) (s.portCfg p)) s
  else if b == bLCI then
    (List.range 256).foldl (fun s p => if old.protected p then
      ((s.lci.slots.filter fun e => e.1 / 256 == p / 16 && ctxPort e.2.words == p).map Prod.fst).foldl (fun s k => s.dropCtx (k / 256) (k % 256)) s else s) s
  else if b == bDMA then
    (List.range 1120).foldl (fun s r => if s.ringState r == 1 then s.setRing r ((s.ringStop r 0 0).ring r) |>.ringWg Reg.DMA_DEV_IDX r (setFld (s.ringRg Reg.DMA_DEV_IDX r) 16 3 0) else s) s
  else if b == bFAB then (List.range 320).foldl (fun s l => s.laneFail l) s
  else if b == bCAG then (List.range 64).foldl (fun s c => if s.pstate c == 0 then s else s.cageOff c 0 0) s
  else if b == bQAD || b == bBPM then s.refreshShared
  else if b == bCCX then s
  else s

/-- Every bit of a block's registers that software can write or clear takes its reset value; status bits go on showing the state that stays. -/
def Dev.blockRegs (s : Dev) (b : Nat) : Dev :=
  let s := { s with wings := s.wings.filter fun e => e.1 / windowSize != b }
  ((s.regs.map Prod.fst).filter fun a => a / windowSize == b).foldl (fun (s : Dev) a =>
    match regAt a with
    | none => s
    | some (d, c, i) =>
      let m := d.rw ||| d.rs ||| d.w1c ||| d.kw ||| d.rc
      s.wg d c i ((s.rg d c i &&& ~~~m) ||| (d.reset i &&& m))) s

/-- TOP_RESET.BLOCK (R470, R471). -/
def Dev.blockReset (s : Dev) (b : Nat) : Dev :=
  if b == bTOP || b == bPWR || b == bCUE || b == bCCX || b == bINT then s.event bTOP 1
  else if nBlocks ≤ b || s.absentAt (b * windowSize) then s
  else
    let old := s
    let s := s.blockRegs b
    let s := (s.wg Reg.MBX_STATUS 0 b 0).wg Reg.WING_PEND 0 b 0
    let s := { s with mbx := merase s.mbx b }
    s.blockHooks b old

/-- A write of TOP_RESET (R470, R471). -/
def Dev.topReset (s : Dev) (v : W32) : Dev :=
  let f := bit v 0
  let d := bit v 1
  let g := bit v 13
  if d || (f && g) then s.deviceResetAsked
  else
    let s := if bit v 2 then s.ccReset 0 else s
    let s := if bit v 3 then s.ccReset 1 else s
    if f then s.fDieReset else if g then s.blockReset (fld v 8 5) else s

/-! ### Bring-up and the Lead's service cycle (R392, R472). -/

def Dev.stage (s : Dev) : Nat := s.rf Reg.TOP_BOOT 0 0 0 3
def Dev.setStage (s : Dev) (n : Nat) : Dev := s.wf Reg.TOP_BOOT 0 0 0 3 n

/-- The domains of step 7, in order, that this device has and PWR_PD_CTRL asks for. -/
def Dev.stepDomains (s : Dev) : List Nat :=
  ([16, 19, 17, 18] ++ List.range 16 ++ [28, 29]).filter fun d => s.variant.hasDomain d && bit s.pdCtrl d

/-- Step 7: the domains one after another; answers whether all are on. -/
def Dev.domainsOn (s : Dev) : Dev × Bool :=
  match s.stepDomains.find? fun d => !s.pdOn d with
  | none => (s, true)
  | some d => (if (s.stepDomains.any fun e => s.pdBusy e) then s else s.pdStart d true, false)

/-- The Dovetail has trained: every bundle that is not isolated is in the rotation (R19). -/
def Dev.dvtUp (s : Dev) : Dev :=
  [0, 1].foldl (fun (s : Dev) dir =>
    let out := (List.range 16).filter fun b => s.int.units.contains (bundleUnit dir b).code.toNat
    let up := (List.range 16).foldl (fun (v : W32) b => if out.contains b then v else setBit v (16 + b) true) 0
    (s.setDvt dir { s.dvt dir with out := out }).wg Reg.DVT_LINK_STATUS 0 dir (setFld up 0 3 (if out.isEmpty then 2 else if out.length ≤ 2 then 3 else 4))) s

/-- The Dovetail is up in both directions. -/
def Dev.dvtIsUp (s : Dev) : Bool := [0, 1].all fun i => s.rf Reg.DVT_LINK_STATUS 0 i 0 3 == 2 || s.rf Reg.DVT_LINK_STATUS 0 i 0 3 == 3

/-- Present stacks that PWR_PD_CTRL asks for. -/
def Dev.stepStacks (s : Dev) : List Nat := (List.range 8).filter fun k => s.variant.hasStack k && bit s.pdCtrl (20 + k)

/-- Bring-up from the Call on, as far as this cycle can take it. `dvt`: whether the Dovetail has trained by now, none while it trains. -/
def Dev.bringUp (s : Dev) (dvt : Option Bool) : Dev :=
  let s := if s.stage == 1 then s.setStage 2 else s
  let st := s.stage
  if st == 2 then
    let (s, all) := s.domainsOn
    if !all then s
    else
      let s := if s.dvtIsUp then s else if dvt == some true then s.dvtUp else s
      if !s.dvtIsUp then (if dvt == some false then s.bootFail 3 else s)
      else if s.stepStacks.all fun k => s.pdOn (20 + k) then
        (s.stepStacks.foldl (fun s k => if s.stackState k == 1 then s.stackTrain k false else s) s).setStage 3
      else s.stepStacks.foldl (fun s k => s.pdFollow (20 + k)) s
  else if st == 3 && !s.pwr.installing then
    if s.stepStacks.any fun k => s.stackState k == 2 || s.stackState k == 3 then s
    else
      let s := if s.stepStacks.any fun k => s.stackState k == 5 then s.wf Reg.TOP_BOOT 0 0 4 4 4 else s
      let s := { s with pwr := { s.pwr with installing := true } }
      (s.wf Reg.PBK_LOAD_CTRL 0 0 0 2 s.upd.bookSlot).pbkCold
  else if st == 3 then
    if s.pbkBusy then s
    else if s.pbkState == 1 then { s with pwr := { s.pwr with installing := false } }.setStage 4
    else s.bootFail 5
  else if st == 4 then ((s.setStage 5).wf Reg.TOP_BOOT 0 0 12 1 1).event bTOP 2
  else s

/-- The Lead's part of an F-die reset: the domains, the Dovetail, the installation. -/
def Dev.fDieBringUp (s : Dev) (dvt : Option Bool) : Dev :=
  if !s.pwr.fDie || s.pwr.installing then s
  else
    let (s, all) := s.domainsOn
    if !all then s
    else
      let s := if s.dvtIsUp then s else if dvt == some true then s.dvtUp else s
      if !s.dvtIsUp || (s.pbk.inForce.isSome && !s.canReinstall) then s else { s with pwr := { s.pwr with installing := true } }.reinstall

/-- After PD16 was off, the Lead has the book installed again (R469). -/
def Dev.reload (s : Dev) : Dev := if s.pdOn 16 && s.int.loaded.isEmpty && !s.pwr.fDie && s.stage == 5 then s.reinstall else s

/-- A service cycle with bring-up, a held update command and a waiting SPDM request. -/
def Dev.leadCycle (s : Dev) (overrun acked : Bool) (alts : List (Fin 4096 × BitVec 9)) (dvt : Option Bool) : Dev :=
  if !s.leadRuns then s
  else
    let s := (s.serviceCycle overrun acked alts).bringUp dvt
    ((s.fDieBringUp dvt).reload.updResume).spdmResume

/-- PERST_N is released (R472): the first release starts bring-up. -/
def Dev.perstRelease (s : Dev) : Dev :=
  let first := !s.pci.released
  let s := { s with pci := { s.pci with perst := false, released := true } }
  if first then s.basesUp else s

/-- The PCIe link trains. -/
def Dev.linkTrained (s : Dev) : Dev :=
  if s.pci.perst || !s.pci.released || s.pci.link != 0 then s else { s with pci := { s.pci with link := 1 } }

/-- No complex has taken the Call within 10 s. -/
def Dev.noCall (s : Dev) : Dev := if s.bases && s.stage == 1 && s.holder == 0 then s.bootFail 2 else s

/-! ### Thermal supervision (R474–R476). -/

/-- Thresholds in force. -/
def Dev.tshut (s : Dev) : Nat := min 125 (s.rf Reg.PWR_THERM 0 0 8 8)
def Dev.hbmTshut (s : Dev) : Nat := min 105 (s.rf Reg.PWR_THERM 0 0 16 8)
def Dev.thermEn (s : Dev) : Bool := bit (s.rg Reg.PWR_THERM 0 0) 24

/-- Thermal shutdown: every switched domain but PD30 and PD31 off, transitions abandoned. -/
def Dev.shutdown (s : Dev) : Dev :=
  if s.tempHold then s
  else
    let s := s.stopHard
    let s := (List.range 30).foldl (fun (s : Dev) d =>
      let was := s.pdLive d || s.pdBusy d
      let s := ((s.endGoal d).setStatus d false)
      let s := s.setPdCtrl (setBit s.pdCtrl d (!s.variant.hasDomain d && bit s.pdCtrl d))
      if was then
        let s := s.domainLost d
        if 20 ≤ d && d < 28 then s.hbmDown (d - 20) else s
      else s) s
    ((s.wf Reg.PWR_TEMP 0 0 18 1 1).lastReset 3).event bPWR 4

/-- HOLD ends once both dies' valid samples are 15 °C, and every stack 10 °C, below their thresholds. -/
def Dev.cooled (s : Dev) : Dev :=
  let t := s.rg Reg.PWR_TEMP 0 0
  let dies := bit t 16 && bit t 17 && decide (fld t 0 8 + 15 ≤ s.tshut) && decide (fld t 8 8 + 15 ≤ s.tshut)
  let below := (List.range 8).all fun k => !s.variant.hasStack k || s.rf Reg.HBM_STACK_STATUS 0 k 6 1 == 0
    || decide (s.rf Reg.HBM_STACK_STATUS 0 k 8 8 + 10 ≤ s.hbmTshut)
  if s.tempHold && dies && below then s.wf Reg.PWR_TEMP 0 0 18 1 0 else s

/-- The hottest valid sample. -/
def hottest (l : List (Option Byte)) : Option Nat :=
  l.foldl (fun m t => match m, t with
    | some a, some b => some (max a b.toNat)
    | none, some b => some b.toNat
    | m, none => m) none

/-- The samples of one die: PWR_TEMP, the warning, and whether two in a row are at or above TSHUT. -/
def Dev.dieSample (s : Dev) (t : Bool) (m : Option Nat) : Dev × Bool :=
  let lo := if t then 8 else 0
  match m with
  | none => (s.wf Reg.PWR_TEMP 0 0 (if t then 17 else 16) 1 0, false)
  | some v =>
    let s := (s.wf Reg.PWR_TEMP 0 0 lo 8 v).wf Reg.PWR_TEMP 0 0 (if t then 17 else 16) 1 1
    let warm := decide (s.rf Reg.PWR_THERM 0 0 0 8 ≤ v)
    let hot := decide (s.tshut ≤ v)
    let was := if t then s.pwr.warmT else s.pwr.warmF
    let n := if hot then min 2 ((if t then s.pwr.hotT else s.pwr.hotF) + 1) else 0
    let s := { s with pwr := if t then { s.pwr with warmT := warm, hotT := n } else { s.pwr with warmF := warm, hotF := n } }
    (s.eventIf (warm && !was) bPWR 3, decide (2 ≤ n))

/-- The sensors of both dies are sampled (R474, R475). -/
def Dev.thermalSample (s : Dev) (f t : List (Option Byte)) : Dev :=
  if !s.bases then s
  else
    let f := f.take 24
    let t := t.take 16
    let s := s.eventIf (f.any Option.isNone || t.any Option.isNone) bPWR 5
    let (s, h0) := s.dieSample false (hottest f)
    let (s, h1) := s.dieSample true (hottest t)
    if (h0 || h1) && s.thermEn then s.shutdown else s.cooled

/-- A die has had no valid sample for 10 ms: shutdown, whatever EN holds (R475). -/
def Dev.silence (s : Dev) (t : Bool) : Dev :=
  if !s.bases || bit (s.rg Reg.PWR_TEMP 0 0) (if t then 17 else 16) then s else s.shutdown

/-- The stacks' readings: derating, then shutdown after two in a row at or above HBM_TSHUT (R354, R475). -/
def Dev.stackReadings (s : Dev) (ts : List (Option Byte)) : Dev :=
  let s := s.derateReading ts
  let s := (List.range 8).foldl (fun (s : Dev) k =>
    match ts.getD k none with
    | none => s
    | some t =>
      let n := if s.hbmTshut ≤ t.toNat then min 2 (mget 0 s.hbm.shut k + 1) else 0
      { s with hbm := { s.hbm with shut := mset 0 s.hbm.shut k n } }) s
  if s.thermEn && s.hbm.shut.any (fun e => s.variant.hasStack e.1 && decide (2 ≤ e.2)) then s.shutdown else s.cooled

/-! ### Rails and boundary scan (R489, R495). -/

/-- A rail falls below its minimum: 0 to 6 as in PWR_RAIL_STATUS, 7 VDD_CCA, 8 VDD_CCB, 9 VDD_AON. -/
def Dev.railLoss (s : Dev) (r : Nat) : Dev :=
  if r == 9 then s.aonPowerOn
  else
    let s := { s with pwr := { s.pwr with low := addKey s.pwr.low r } }
    let s := if r < 7 then s.wf Reg.PWR_RAIL_STATUS 0 0 r 1 1 else s
    if r < 3 then s.stopDevice
    else if r < 6 then s.stopHard
    else if r == 7 || r == 8 then s.ccStop (r - 7) 0
    else s

/-- A rail has been in tolerance for 1 ms: after the last of the F-die's rails an F-die reset follows. -/
def Dev.railBack (s : Dev) (r : Nat) : Dev :=
  if !s.pwr.low.contains r then s
  else
    let s := { s with pwr := { s.pwr with low := delKey s.pwr.low r } }
    if r < 3 && !(s.pwr.low.any fun x => x < 3) then s.fDieReset else s

/-- An instruction of the test access port. -/
def Dev.tap (s : Dev) (i : Tap) : Dev := if i == .bypass || i == .idcode || i == .samplePreload then s else s.stopHard

/-! ### Commands. -/

/-- SERVICE_CYCLE (R392, R472). -/
def execServiceCycle (overrun acked : Bool) (alts : List (Fin 4096 × BitVec 9)) (dvt : Option Bool) (s : State) : Host.Outcome State Fault Refusal :=
  s.on fun d => d.leadCycle overrun acked alts dvt
/-- HBM_TEMPERATURE_READING (R354, R475). -/
def execHbmTemperatureReading (ts : List (Option Byte)) (s : State) : Host.Outcome State Fault Refusal := s.on fun d => d.stackReadings ts
/-- HBM_PG_RISE (R346). -/
def execHbmPgRise (k : Fin 8) (s : State) : Host.Outcome State Fault Refusal := s.on fun d => d.pgRise k
/-- HBM_PG_LOSS (R489). -/
def execHbmPgLoss (k : Fin 8) (s : State) : Host.Outcome State Fault Refusal := s.on fun d => d.pgLoss k
/-- PWR_PD_CTRL_WRITE (R467, R468). -/
def execPwrPdCtrlWrite (q : Req) (v : W32) (s : State) : Host.Outcome State Fault Refusal :=
  s.on fun d => d.gateKw q Reg.PWR_PD_CTRL 0 0 fun d => d.pdWrite v
/-- DOMAIN_TRANSITION_COMPLETE (R467). -/
def execDomainTransitionComplete (n : Fin 32) (s : State) : Host.Outcome State Fault Refusal := s.on fun d => d.pdComplete n
/-- HBM_PG_TIMEOUT (R467). -/
def execHbmPgTimeout (k : Fin 8) (s : State) : Host.Outcome State Fault Refusal := s.on fun d => d.pgTimeout k
/-- F_DIE_RESET (R471): a write of TOP_RESET with F_DIE 1. -/
def execFDieReset (q : Req) (v : W32) (s : State) : Host.Outcome State Fault Refusal :=
  s.on fun d => d.gateKw q Reg.TOP_RESET 0 0 fun d => d.topReset (setBit v 0 true)
/-- F_DIE_RESET_COMPLETE (R471). -/
def execFDieResetComplete (s : State) : Host.Outcome State Fault Refusal := s.on fun d => d.fDieDone
/-- DEVICE_RESET (R470): a write with DEVICE 1; a held tableau is lost with the T-die. -/
def execDeviceReset (q : Req) (v : W32) (s : State) : Host.Outcome State Fault Refusal :=
  s.on fun d => d.gateKw q Reg.TOP_RESET 0 0 fun d => d.topReset (setBit v 1 true)
/-- CCA_RESET (R470): a write with CCA 1. -/
def execCcaReset (q : Req) (v : W32) (s : State) : Host.Outcome State Fault Refusal :=
  s.on fun d => d.gateKw q Reg.TOP_RESET 0 0 fun d => d.topReset (setBit v 2 true)
/-- CCB_RESET (R470): a write with CCB 1. -/
def execCcbReset (q : Req) (v : W32) (s : State) : Host.Outcome State Fault Refusal :=
  s.on fun d => d.gateKw q Reg.TOP_RESET 0 0 fun d => d.topReset (setBit v 3 true)
/-- BLOCK_RESET (R470): a write with BLOCK_GO 1. -/
def execBlockReset (q : Req) (v : W32) (s : State) : Host.Outcome State Fault Refusal :=
  s.on fun d => d.gateKw q Reg.TOP_RESET 0 0 fun d => d.topReset (setBit v 13 true)
/-- COMPLEX_WATCHDOG (R470). -/
def execComplexWatchdog (x : Fin 2) (s : State) : Host.Outcome State Fault Refusal := s.on fun d => if d.ccRuns x then d.ccReset x else d
/-- AON_POWER_ON (R470): nothing stays latched. -/
def execAonPowerOn (s : State) : Host.Outcome State Fault Refusal := s.on fun d => d.aonPowerOn
/-- PERST_N_RELEASE (R472). -/
def execPerstNRelease (s : State) : Host.Outcome State Fault Refusal := s.on fun d => d.perstRelease
/-- THERMAL_SAMPLE (R474–R476): 24 samples of the F-die, 16 of the T-die, none for an invalid one. -/
def execThermalSample (f t : List (Option Byte)) (s : State) : Host.Outcome State Fault Refusal := s.on fun d => d.thermalSample f t
/-- SENSOR_SILENCE (R475): of the F-die (false) or the T-die. -/
def execSensorSilence (t : Bool) (s : State) : Host.Outcome State Fault Refusal := s.on fun d => d.silence t
/-- RAIL_LOSS (R489). -/
def execRailLoss (r : Fin 10) (s : State) : Host.Outcome State Fault Refusal := s.on fun d => d.railLoss r
/-- TAP_INSTRUCTION (R495). -/
def execTapInstruction (i : Tap) (s : State) : Host.Outcome State Fault Refusal := s.on fun d => d.tap i
/-- RAIL_IN_TOLERANCE (R489). -/
def execRailInTolerance (r : Fin 10) (s : State) : Host.Outcome State Fault Refusal := s.on fun d => d.railBack r
/-- PCIE_LINK_TRAINED (R472). -/
def execPcieLinkTrained (s : State) : Host.Outcome State Fault Refusal := s.on fun d => d.linkTrained
/-- NO_CALL_TIMEOUT (R472). -/
def execNoCallTimeout (s : State) : Host.Outcome State Fault Refusal := s.on fun d => d.noCall

end Sys2Proof.Machine
end

