-- ==== Sys2Proof/Machine/RegRead.lean ====
section
/-! DEFINITION. What a read of a register returns: the value in force or the wing, and the registers that a read computes from the state they report (R42, R45). -/
namespace Sys2Proof.Machine

/-- Two descriptions name the same register or array of registers. -/
def RegDesc.is (d e : RegDesc) : Bool := d.blk == e.blk && d.off == e.off

/-! ### Registers that report other state. -/

/-- CUE_STATUS (R71, R72). -/
def Dev.cueStatus (s : Dev) : W32 :=
  atB 0 s.timeValid ||| atB 1 s.oscOk ||| atB 2 (s.cue.slew != 0) ||| atB 3 s.cue.step.isSome
    ||| at_ 8 9 (s.cue.slots.filter fun e => e.2.state == 1).length

/-- CUE_PHASE_ADJ: what a slew still has to absorb, in ns away from zero (R69; log entry 55). -/
def Dev.phaseLeft (s : Dev) : W32 :=
  let n : Int := (s.cue.slew.natAbs + 9999) / 10000
  (BitVec.ofInt 24 (if s.cue.slew < 0 then -n else n)).zeroExtend 32

/-- CCX_CALL with LEASE_US (R394, R395). -/
def Dev.callReg (s : Dev) : W32 :=
  let left := if s.holder == 0 then 0 else (s.ccx.leaseFrom + 2000000 - s.cue.localNs) / 1000
  setFld (s.rg Reg.CCX_CALL 0 0) 8 11 (min 2000 left)

/-- UPD_SLOTS, UPD_BOOT and UPD_FLOOR: 0 until a boot ROM has filled them. -/
def Dev.updSlots (s : Dev) : W32 :=
  (List.range 4).foldl (fun (w : W32) k => w ||| at_ (2 * k) 2 (s.flash k).state) 0
def Dev.updBoot (s : Dev) : W32 := s.upd.boot.word2 ||| atB 31 (s.upd.phase != 0)
def Dev.updFloor (s : Dev) : W32 := at_ 0 6 s.upd.fwFloor ||| at_ 8 6 s.upd.bookFloor ||| at_ 16 2 s.upd.revoked

/-- INT_ISO: the clusters of an isolated F-die region are isolated too (R441). -/
def Dev.isoReg (s : Dev) : W32 :=
  let v := s.rg Reg.INT_ISO 0 0
  (List.range 16).foldl (fun (w : W32) c => if bit v (16 + c / 8) || bit v (20 + c / 8) then setBit w c true else w) v

/-- IPP_PRED_STATUS of a cluster (R189). -/
def Dev.predStatus (s : Dev) (c : Nat) : W32 :=
  let l := s.ing.pred.filter fun e => e.1 / 1024 == c
  at_ 0 11 l.length ||| at_ 16 11 (l.filter fun e => e.2.count == 64 && e.2.obs.kind != 0).length

/-- L of R241: associative-search slots of the book in force, at most 8. -/
def Dev.searchSlots (s : Dev) : Nat :=
  min 8 (((s.pbk.inForce.map Book.imap).getD []).filter fun e => e.kind == 1).length

/-- EXM_TBL_STATUS of a table (R223). -/
def Dev.tblStatus (s : Dev) (t : Nat) : W32 :=
  let n := ((s.rep s.primary).exm.filter fun e => e.1 / 2 ^ 22 == t).length
  s.rg Reg.EXM_TBL_STATUS 0 t ||| at_ 0 23 n ||| atB 23 (s.rehash? t).isSome

/-- Bit `b` of CAG_CAGE_STATUS of cages 32 × `i` on, gathered into a word. -/
def Dev.cageBits (s : Dev) (i b : Nat) : W32 :=
  (List.range 32).foldl (fun (w : W32) k => if s.cageF (32 * i + k) b 1 == 1 then setBit w k true else w) 0

/-- The registers that a read computes: none for the others. `q` is the reader.
DESIGN CHOICE (log entry 130): on UM-F512C the LNP fields that serve only FlexO and Rate Follow (PORT_CFG.WIDTH and CLASS of a FlexO port, RF_EN, RF_CTRL, RF_SETUP) are not taken for registers of the absent OTN framer: they stay writable and have their reset values. -/
def Dev.derived (s : Dev) (q : Req) (d : RegDesc) (i : Nat) (c : Nat) : Option W32 :=
  if d.blk == 0 then
    if d.is Reg.CAPS then some (if i == 0 then s.variant.caps else 0)
    else if d.is Reg.TOP_UNLOCK then some (atB 24 (s.arming.get q))
    else none
  else if d.is Reg.PWR_PD_CTRL then some s.pdCtrl
  else if d.is Reg.UPD_SLOTS then some (if s.upd.filled then s.updSlots else 0)
  else if d.is Reg.UPD_BOOT then some (if s.upd.filled then s.updBoot else 0)
  else if d.is Reg.UPD_FLOOR then some (if s.upd.filled then s.updFloor else 0)
  else if d.is Reg.CUE_STATUS then some s.cueStatus
  else if d.is Reg.CUE_PHASE_ADJ then some s.phaseLeft
  else if d.is Reg.CUE_STROBE_BUSY then some s.strobeBusy
  else if d.is Reg.CUE_RETAIN then some (w32 s.retainMs)
  else if d.is Reg.CCX_CALL then some s.callReg
  else if d.is Reg.CCX_CC_STATUS then some (if s.pdOn (30 + i) then s.rg Reg.CCX_CC_STATUS 0 i else 0)
  else if d.is Reg.BPM_HBM_REGION then some (if s.variant.hasStack i then s.rg Reg.BPM_HBM_REGION 0 i else 0)
  else if d.is Reg.INT_ISO then some s.isoReg
  else if d.is Reg.IPP_PRED_STATUS then some (s.predStatus c)
  else if d.is Reg.ACS_STATUS then some (s.rg Reg.ACS_STATUS 0 0 ||| at_ 16 4 s.searchSlots)
  else if d.is Reg.EXM_TBL_STATUS then some (s.tblStatus i)
  else if d.is Reg.QAD_SHARED then some s.sharedReg
  else if d.is Reg.STA_STATUS then some (atB 0 s.sta.copying)
  else if d.is Reg.CAG_PRESENT then some (s.cageBits i 0)
  else if d.is Reg.CAG_ATTN then some (s.cageBits i 5)
  else none

/-- What a read of a register returns: `active` for the active view (R42, R45). -/
def Dev.regValue (s : Dev) (q : Req) (d : RegDesc) (c i : Nat) (active : Bool) : W32 :=
  match s.derived q d i c with
  | some v => v
  | none =>
    let v := s.rg d c i &&& ~~~d.wo
    if active then v else (v &&& ~~~d.rs) ||| (s.wing d c i &&& d.rs)

/-- MBX_DATA of a block while MBX_STATUS.VALID is 0 (R60). -/
def Dev.mbxVoid (s : Dev) (d : RegDesc) (b : Nat) : Bool :=
  d.blk == 0 && decide (0x20 ≤ d.off) && decide (d.off < 0x40) && !bit (s.rg Reg.MBX_STATUS 0 b) 0

/-- A read of a register: its value, and the RC fields cleared by a read in the normal view (R42, R45). MBX_DATA without VALID returns a free value (log entry 3). -/
def Dev.regRead (s : Dev) (q : Req) (d : RegDesc) (c i : Nat) (active : Bool) : Dev × W32 :=
  if s.mbxVoid d i then (s.fresh.2, s.fresh.1.truncate 32)
  else
    let v := s.regValue q d c i active
    (if active || d.rc == 0 then s else s.wg d c i (s.rg d c i &&& ~~~d.rc), v)

end Sys2Proof.Machine
end

