-- ==== Sys2Proof/Machine/Stats.lean ====
section
/-! DEFINITION. The statistics engine's write-backs, the end of a snapshot copy, overflow sampling (chapter 20). -/
namespace Sys2Proof.Machine

/-- A pair whose HBM access failed is rewritten as zero and marked invalid (R355 REQ 3, R451). -/
def Dev.statInvalid (s : Dev) (pair cause : Nat) : Dev := (s.hbmErr cause 3 (s.statAddr pair)).statLost pair

/-- The cached delta of a pair is written back; `err` says that the HBM read is uncorrectable (R449, R451). -/
def Dev.writeback (s : Dev) (pair : Nat) (err : Bool) : Dev :=
  if (s.sta.cache.find? fun e => e.1 == pair).isNone then s
  else if err && s.statServes pair then
    (((s.bump bSTA 3 0 2 1).count bSTA 0x12 0 1).hbmRead (s.statAddr pair) 16 false).statInvalid pair 1
  else s.statSpill pair

/-- SAMPLE of a counter by its identifier (R458). -/
def Dev.sampling (s : Dev) (id : Nat) : Bool :=
  if id < 256 then bit (s.rg (Reg.PMC_SEL (id % 8)) 0 (id / 8)) 17 else bit (s.rg Reg.PMC_FC_SEL 0 (id - 256)) 17

/-- A sampling counter past 2^48 − 1 is reloaded and writes its record, or counts it as lost (R458, R459). `pkt` gives ticket words 0, 3 and 4 of the packet in the sampling stage. -/
def Dev.overflow (s : Dev) (id cluster stage : Nat) (pkt : Option (W32 × W32 × W32)) : Dev :=
  let k := mget ({} : PmcCtr) s.pmc id
  if !s.sampling id || k.value < 2 ^ 48 || 320 ≤ id then s
  else
    let k := { k with value := k.value - k.period }
    let lose (s : Dev) (k : PmcCtr) : Dev :=
      ({ s with pmc := mset {} s.pmc id { k with lost := k.lost + 1 } }.bump bPMC 4 0 1 1).event bPMC 0
    let now := s.cue.localNs
    if (match k.last with | some t => decide (now < t + 1000) | none => false) then lose s k
    else
      let p := pkt.getD (0, 0, 0)
      let ws : List W32 := [0x30#32 ||| at_ 8 5 (if id < 256 then id / 8 else s.rf Reg.PMC_FC_SEL 0 (id - 256) 0 5) ||| at_ 16 6 (if id < 256 then id % 8 else id - 256)
          ||| atB 22 (256 ≤ id) ||| atB 23 pkt.isSome ||| at_ 24 4 cluster,
        w32 s.cue.ns, w32 s.cue.sec, p.1, p.2.1, p.2.2, at_ 0 8 stage, at_ 0 16 (min 65535 k.lost)]
      let (s, dropped) := s.record (s.rf Reg.PMC_CTRL 0 0 8 6) ws
      if dropped then lose s k
      else { s with pmc := mset {} s.pmc id { k with lost := 0, last := some now } }.bump bPMC 4 0 0 1

/-! ### Commands. -/

/-- STATS_WRITEBACK (R449, R451). -/
def execStatsWriteback (pair : BitVec 26) (err : Bool) (s : State) : Host.Outcome State Fault Refusal := s.on fun d => d.writeback pair.toNat err
/-- SNAPSHOT_COPY_COMPLETE (R452). -/
def execSnapshotCopyComplete (s : State) : Host.Outcome State Fault Refusal :=
  s.on fun d => if d.sta.copying then { d with sta := { d.sta with copying := false } }.event bSTA 1 else d
/-- COUNTER_OVERFLOW (R458, R459). -/
def execCounterOverflow (id : Fin 320) (cluster : Fin 16) (stage : Byte) (pkt : Option (W32 × W32 × W32)) (s : State) : Host.Outcome State Fault Refusal :=
  s.on fun d => d.overflow id cluster stage.toNat pkt

end Sys2Proof.Machine
end

