-- ==== Sys2Proof/Machine/Objects.lean ====
section
/-! DEFINITION. The objects of every block's mailbox: which operations and counts each takes, its indices, what a read returns and a write does (R59, R73, R93, R105, R120, R148, R172, R199, R219, R229, R244, R266, R267, R292, R293, R316, R336, R358, R384, R390, R405, R428, R444, R453, R462, R465). -/
namespace Sys2Proof.Machine

/-! ### What an object accepts. -/

/-- An object: whether it can be read and written, and the word counts that it accepts. -/
structure ObjSpec where
  rd : Bool
  wr : Bool
  counts : List Nat
  deriving DecidableEq, Repr

/-- Read only, write only, read and write, of one word count. -/
def oR (n : Nat) : Option ObjSpec := some { rd := true, wr := false, counts := [n] }
def oRW (n : Nat) : Option ObjSpec := some { rd := true, wr := true, counts := [n] }
def oW (n : Nat) : Option ObjSpec := some { rd := false, wr := true, counts := [n] }
def oneToEight : List Nat := [1, 2, 3, 4, 5, 6, 7, 8]

/-- The objects of the T-die's blocks. -/
def objSpecT (b o : Nat) : Option ObjSpec :=
  if b == bCUE then
    if o == 1 then oR 3 else if o == 2 then oW 3 else if o == 3 then oR 4
    else if o == 4 then some { rd := true, wr := false, counts := oneToEight }
    else if o == 5 then some { rd := false, wr := true, counts := oneToEight }
    else if o == 0x10 then oR 5 else if o == 0x20 then oR 2 else none
  else if b == bTAB then (if o == 1 then oR 3 else none)
  else if b == bPBK then (if o == 1 then oR 5 else none)
  else if b == bUPD then
    if o == 1 || o == 4 || o == 0x10 then oR 8 else if o == 2 then oRW 3 else if o == 3 then oR 3 else if o == 0x11 then oR 4 else none
  else if b == bCCX then (if o == 1 then oR 8 else none)
  else if b == bINT then
    if o == 1 then oR 8 else if o == 2 || o == 3 then oRW 8 else if o == 4 || o == 6 then oR 4 else if o == 5 then oRW 1 else none
  else if b == bBPM then (if o == 1 then oR 8 else if o == 2 then oR 2 else none)
  else if b == bQAD then
    if o == 1 || o == 2 then oRW 1 else if o == 0x10 then oRW 4 else if o == 0x11 then oRW 6 else if o == 0x20 then oR 4
    else if o == 0x21 then oR 2 else if o == 0x30 || o == 0x31 then oR 8 else none
  else if b == bSCH then
    if o == 1 || o == 4 then oRW 2 else if o == 2 then oRW 6 else if o == 3 || o == 0x20 then oR 4 else if o == 5 then oRW 4
    else if o == 6 then oR 2 else if o == 0x10 || o == 0x11 then oR 8 else none
  else if b == bFAB then
    if o == 1 then oRW 2 else if o == 2 || o == 3 then oR 8 else if o == 4 then oR 2 else if o == 5 then oR 6 else if o == 0x10 then oRW 1 else none
  else if b == bHBM then (if o == 1 || o == 3 then oR 8 else if o == 2 then oR 4 else if o == 4 then oR 2 else none)
  else if b == bDMA then (if o == 1 then oR 4 else none)
  else if b == bSTA then
    if o == 1 then some { rd := true, wr := true, counts := [4, 8] } else if o == 2 then oR 4 else if o == 3 then oR 8 else none
  else if b == bPMC then (if o == 1 || o == 3 then oRW 2 else if o == 4 then oR 4 else none)
  else none

/-- The objects of the F-die's blocks. Some accept other operations or counts at other indices. -/
def objSpecF (b o i : Nat) : Option ObjSpec :=
  if b == bLNP then
    if o == 1 || o == 2 then oR 8 else if o == 3 then oR 6 else if o == 0x10 || o == 0x20 then oRW 2 else if o == 0x30 then oR 4 else none
  else if b == bOTF then
    if o == 1 || o == 2 then oR 8 else if o == 3 then oR 4
    else if o == 0x10 || o == 0x11 then (if i % 4 < 2 then oRW 8 else oR 8)
    else if o == 0x12 || o == 0x13 then oRW 8 else if o == 0x20 then oR 2 else if o == 0x21 then oRW 2 else none
  else if b == bLCI then (if o == 1 || o == 2 || o == 3 then oR 8 else if o == 0x10 then oRW 1 else none)
  else if b == bIPP then (if o == 1 || o == 2 then oR 8 else if o == 3 then oR 3 else if o == 4 then oR 2 else none)
  else if b == bSPL then (if o == 1 then oRW 8 else if o == 2 then oRW 3 else if o == 3 then oR 4 else none)
  else if b == bFIB then (if o == 1 || o == 3 then oR 8 else if o == 2 || o == 4 then oR 4 else none)
  else if b == bEXM then
    if o == 1 then oR 8
    else if o == 2 then (if i == 0 then oR 8 else if i == 1 then oR 4 else some { rd := true, wr := false, counts := [4, 8] })
    else if o == 3 then oR 3 else none
  else if b == bACS then (if o == 1 then oRW 8 else if o == 2 then oR 6 else if o == 3 then oR 2 else if o == 4 then oR 8 else none)
  else if b == bEPP then
    if o == 1 || o == 2 then oR 8
    else if o == 0x10 then (if i == 0 then oR 8 else if i == 1 then oR 4 else some { rd := true, wr := false, counts := [4, 8] })
    else none
  else if b == bPOL then (if o == 1 then oRW 6 else if o == 2 then oR 2 else if o == 3 then oR 8 else if o == 4 then oR 6 else none)
  else if b == bCAG then (if o == 1 then oRW 8 else if o == 2 then oR 8 else none)
  else none

/-- What object `o` of block `b` accepts at index `i`; none where the block does not define it. -/
def objSpec (b o i : Nat) : Option ObjSpec := if onFDie b then objSpecF b o i else objSpecT b o

/-- The number of indices of an object, counted from 0; the exceptions are in `Dev.objIndex`. -/
def objSize (s : Dev) (b o : Nat) : Nat :=
  if b == bCUE then (if o == 0x10 then 256 else if o == 0x20 then 16 else 1)
  else if b == bPBK || b == bCCX then 2
  else if b == bUPD then (if o == 1 || o == 4 then 4 else if o == 3 then 8 else if o == 0x10 then 32768 else 1)
  else if b == bINT then (if o == 1 then 1024 else if o == 2 then 512 else if o == 3 then 128 else if o == 6 then 16 else 1)
  else if b == bLNP || b == bOTF then
    if o == 0x10 then (if b == bLNP then 4096 else 1024) else if o == 0x11 then 1024 else if o == 0x12 || o == 0x13 then 512 else 256
  else if b == bLCI then (if o == 1 || o == 0x10 then 4096 else 256)
  else if b == bIPP then (if o == 1 then 256 else if o == 3 then 16384 else 16)
  else if b == bSPL then (if o == 3 then 16 else 4096)
  else if b == bFIB then (if o == 1 then 66 else if o == 3 then 16 else 524288)
  else if b == bEXM then (if o == 2 then 2 else 128)
  else if b == bACS then (if o == 1 then 3 else if o == 2 then 128 else if o == 3 then 16 else 1)
  else if b == bEPP then (if o == 0x10 then 2 else 256)
  else if b == bBPM then (if o == 1 then 2 else 64)
  else if b == bQAD then
    if o == 1 || o == 2 then nQ else if o == 0x10 || o == 0x11 then 64 else if o == 0x20 then 2 * nQ else if o == 0x21 then 16 else 1
  else if b == bSCH then (if o == 1 then 16384 else if o == 4 || o == 6 || o == 0x10 || o == 0x11 then nQ else if o == 5 then 256 else 1)
  else if b == bPOL then 262144
  else if b == bFAB then (if o == 1 || o == 0x10 then 4096 else if o == 2 then 320 else if o == 4 then 256 else 1)
  else if b == bHBM then (if o == 2 then 64 else if o == 4 then 2048 else 8)
  else if b == bDMA then 1024
  else if b == bSTA then (if o == 3 then 1 else s.sta.alloc)
  else if b == bPMC then (if o == 4 then 1 else 320)
  else if b == bCAG then 16
  else 1

/-- An index of the node objects names a node (R282, R292). -/
def nodeIndex (i : Nat) : Bool :=
  let n := i % 2 ^ 17
  decide (i < 2 ^ 19) && (if i / 2 ^ 17 == 0 then decide (n < 256) else if i / 2 ^ 17 == 1 then decide (n < 4096) else if i / 2 ^ 17 == 2 then decide (n < 16384) else true)

/-- A table ID is a replicated table of the book in force (R29, R465). -/
def Dev.isReplicated (s : Dev) (t : Nat) : Bool :=
  match s.pbk.inForce with
  | none => false
  | some b => b.tables.any fun x => x.id == t && !b.egressIds.contains t

/-- A table ID is an exact-match table of the book in force (R229). -/
def Dev.isExm (s : Dev) (t : Nat) : Bool := ((s.pbk.inForce.map Book.tables).getD []).any fun x => x.id == t && x.tkind == 2

/-- The block of a counter identifier is absent (R462). -/
def Dev.pmcAbsent (s : Dev) (i : Nat) : Bool :=
  (i / 8 == bOTF && !s.variant.hasOtn) || (i / 8 == bSPL && !s.variant.hasSpl) || (i / 8 == bFAB && !s.variant.hasFab)

/-- An index of an object is refused: ECODE 6 in an absent unit, then ECODE 3 out of range or naming nothing (R59). -/
def Dev.objIndex (s : Dev) (b o i n : Nat) : Option Nat :=
  let bad : Bool :=
    if b == bSCH && (o == 2 || o == 3) then !nodeIndex i
    else if b == bFIB && o == 2 then !(decide (1 ≤ i) && decide (i ≤ 7))
    else if b == bFIB && o == 4 then !s.isReplicated (i / 4096)
    else if b == bEXM && (o == 1 || o == 3) then !s.isExm i
    else if b == bEXM && o == 2 && i == 1 then s.tbl.learnCap.isNone
    else if b == bEPP && o == 0x10 && i == 1 then s.tm.replCap.isNone
    else if b == bINT && o == 4 then !(decide (1 ≤ i) && decide (i ≤ 14))
    else if b == bPBK && i == 0 then s.pbk.inForce.isNone
    else if b == bPBK && i == 1 then s.pbk.checked.isNone
    else if b == bPMC && o != 4 then decide (320 ≤ i) || (decide (i < 256) && decide (nBlocks ≤ i / 8))
    else if b == bSTA && o == 1 && n == 8 then decide (objSize s b o ≤ i + 1)
    else decide (objSize s b o ≤ i)
  if b == bHBM && (o == 1 || o == 3) && decide (i < 8) && !s.variant.hasStack i then some 6
  else if b == bHBM && o == 4 && decide (i < 2048) && !s.variant.hasStack (i / 256) then some 6
  else if b == bPMC && o != 4 && decide (i < 256) && s.pmcAbsent i then some 6
  else if bad then some 3 else none

/-! ### Reads. -/

/-- A 64-bit counter as two words. -/
def c64 (n : Nat) : List W32 := [w32 n, w32 (n / 2 ^ 32)]

/-- `n` counters of an object. -/
def Dev.ctrs (s : Dev) (b o i n : Nat) : List W32 := (List.range n).flatMap fun k => c64 (s.counter b o i k)

/-- The accepted trail trace of a framer, half `h` (R148). -/
def ttiHalf (t : Option (List Byte)) (h : Nat) : List W32 := bytesWords 8 (slice (t.getD []) (32 * h) 32)

/-- Objects that the block keeps as plain words: those in force, or the wing of a staged object (R59, R42; log entry 54). -/
def Dev.objNormal (s : Dev) (b o i : Nat) : List W32 := if (objSub b o).isSome then s.objWing b o i else s.obj b o i

/-- TOD_IN bytes as object 0x04 gives them: the count, then the bytes, in `n` words (R73). -/
def Dev.todRead (s : Dev) (n : Nat) : Dev × List W32 :=
  let k := min s.cue.todIn.length (min 28 (4 * (n - 1)))
  ({ s with cue := { s.cue with todIn := s.cue.todIn.drop k } },
    w32 k :: bytesWords (n - 1) (slice (s.cue.todIn.take k) 0 (4 * (n - 1))))

/-- CUE objects (R73). `sub` nanoseconds have passed since the latest tick. -/
def Dev.readCue (s : Dev) (o i n sub : Nat) : Dev × List W32 :=
  if o == 1 then
    let t := s.timeIn sub
    (s, timeWords t.1 t.2)
  else if o == 3 then (s, timeWords s.cue.ppsSec s.cue.ppsNs ++ [w32 s.cue.ppsCount])
  else if o == 4 then s.todRead n
  else if o == 0x10 then
    let x := s.slot i
    (s, [x.w0, x.w1, x.w2, x.w3, w32 x.state.val])
  else (s, [w32 (s.houseOf i), w32 (s.houseFabOf i)])

/-- PBK object 0x01 (R105; log entry 56): the book in force is bound to the current epoch, a checked one to none. -/
def Dev.readPbk (s : Dev) (i : Nat) : List W32 :=
  match (if i == 0 then s.pbk.inForce else s.pbk.checked) with
  | none => List.replicate 5 0
  | some b => c64 b.id ++ [w32 b.secVersion, at_ 0 16 b.toolVer ||| at_ 16 7 b.xsize, if i == 0 then at_ 0 4 s.epochNow ||| atB 4 true else 0]

/-- A crash-log entry's words 8 × chunk on; an entry never written holds erased words (R408, R424). -/
def Dev.crashWords (s : Dev) (i : Nat) : List W32 :=
  match s.upd.crash.find? fun c => c.seq % 256 == i / 128 with
  | none => List.replicate 8 ones
  | some c =>
    let ws : List W32 := [0x48535243#32, w32 c.seq, at_ 0 2 c.complex ||| at_ 8 8 c.cause, w32 c.ns, w32 c.sec]
      ++ bytesWords 1018 (slice c.payload 0 4072) ++ [0x0000A55A#32]
    (List.range 8).map fun k => word ws (8 * (i % 128) + k)

/-- UPD objects (R428). -/
def Dev.readUpd (s : Dev) (o i : Nat) : List W32 :=
  if o == 1 then
    let f := s.flash i
    if f.state == 0 then List.replicate 8 0
    else [1, 3, 7, 4, 5, 18, 19, 20].map fun k => word (envWords f.image) k
  else if o == 2 then s.obj bUPD 2 0
  else if o == 3 then
    match s.setting? 2 0 i with
    | some r => 1#32 :: bytesWords 2 (slice r.data 0 8)
    | none => [0, 0, 0]
  else if o == 4 then
    match s.bookKeySlot i with
    | some k => 1#32 :: bytesWords 7 (slice (Config.sha384 k) 0 28)
    | none => List.replicate 8 0
  else if o == 0x10 then s.crashWords i
  else s.ctrs bUPD 0x11 0 2

/-- The first eight words of a list of words. -/
def eight (ws : List W32) : List W32 := (List.range 8).map fun k => word ws k

/-- INT objects (R438, R443, R444). -/
def Dev.readInt (s : Dev) (o i : Nat) : List W32 :=
  if o == 1 then eight (s.int.log.getD i [])
  else if o == 4 || o == 6 then s.ctrs bINT o i 2
  else s.objNormal bINT o i

/-- FEC counter `k` of lane `i` grows by what its line brought since the last read, a free value (R120; log entry 57). -/
def Dev.fecGrow (s : Dev) (i k : Nat) : Dev := let a := s.fresh; a.2.bump bLNP 3 i k (a.1.toNat % 2 ^ 32)

/-- LNP objects (R119, R120). -/
def Dev.readLnp (s : Dev) (o i : Nat) : Dev × List W32 :=
  if o == 3 then
    let s := ((s.fecGrow i 0).fecGrow i 1).fecGrow i 2
    (s, s.ctrs bLNP 3 i 3)
  else if o == 0x10 then (s, s.obj bLNP 0x10 i)
  else if o == 0x20 then (s, s.obj bLNP (if s.pRf Reg.LNP_LANE_CTRL i 0 2 == 0 then 0x20 else 0x21) i)
  else if o == 0x30 then
    let x := s.port i
    match x.stamps with
    | [] => (s, [0, 0, 0, 0])
    | t :: rest => (s.setPort i { x with stamps := rest },
        [w32 t.1, w32 t.2.1, at_ 0 16 (t.2.1 / 2 ^ 32) ||| at_ 16 16 t.2.2, 1#32])
  else (s, s.ctrs bLNP o i 4)

/-- OTF objects (R148). -/
def Dev.readOtf (s : Dev) (o i : Nat) : List W32 :=
  if o == 1 || o == 2 then s.ctrs bOTF o i 4
  else if o == 3 then s.ctrs bOTF o i 2
  else if o == 0x20 then
    let x : OtfSt := mget {} s.otf i
    [at_ 0 20 x.gid, at_ 0 8 x.pid]
  else if (o == 0x10 || o == 0x11) && 2 ≤ i % 4 then
    let x : OtfSt := mget {} s.otf (i / 4)
    ttiHalf (if o == 0x10 then x.ttiSm.accepted else x.ttiPm.accepted) (i % 4 - 2)
  else s.obj bOTF o i

/-- LCI objects (R172). -/
def Dev.readLci (s : Dev) (o i : Nat) : List W32 :=
  if o == 1 then
    match s.ctx? (i / 256) (i % 256) with
    | none => List.replicate 8 0
    | some x => (ctxWith x.words x.pn 0).take 7 ++ [atB 0 true ||| atB 1 (x.remaining == 0) ||| atB 2 x.warned ||| at_ 16 14 x.index]
  else if o == 0x10 then s.obj bLCI 0x10 i
  else s.ctrs bLCI o i 4

/-- A predictor entry as words (R189). -/
def Dev.readPred (s : Dev) (i : Nat) : List W32 :=
  match s.ing.pred.find? fun e => e.1 == i with
  | none => [0, 0, 0]
  | some e => [at_ 0 16 e.2.tag ||| at_ 16 8 e.2.port ||| at_ 24 3 e.2.obs.kind ||| atB 31 true,
      at_ 0 8 e.2.obs.offset ||| at_ 8 7 e.2.count, w32 e.2.obs.pfx]

/-- FIB objects (R217, R219, R465). -/
def Dev.readFib (s : Dev) (o i : Nat) : List W32 :=
  if o == 1 then
    (List.range 8).map fun k => (List.range 32).foldl (fun (w : W32) j => if s.watchLive (256 * i + 32 * k + j) then setBit w j true else w) 0
  else if o == 2 then
    match s.fib?.bind fun t => t.ksRec? i with
    | none => [0, 0, 0, 0]
    | some r =>
      let wide := bit (word r 0) 8
      let mine := (s.rep s.primary).routes.filter fun e => rkKs e.1 == i
      let long := (mine.filter fun e => wide && decide (64 < rkLen e.1)).length
      [w32 ((s.rep s.primary).fibUnits i wide), w32 (wfld r 1 0 25), w32 (mine.length - long), w32 long]
  else if o == 3 then s.ctrs bFIB 3 i 4
  else mget [0, 0, 0, 0] s.int.digests i

/-- EXM objects (R229). -/
def Dev.readExm (s : Dev) (o i : Nat) : Dev × List W32 :=
  if o == 1 then (s, s.ctrs bEXM 1 i 4)
  else if o == 2 then
    if i == 0 then
      ({ s with tbl := { s.tbl with learnCap := some (s.counter bEXM 2 0 4, s.counter bEXM 2 0 5) } }, s.ctrs bEXM 2 0 4)
    else
      let p := s.tbl.learnCap.getD (0, 0)
      (s, c64 p.1 ++ c64 p.2)
  else
    -- the book's default seed is never returned, as the active seed or as the target
    let seed := (s.tbl.seeds.find? fun e => e.1 == i).map Prod.snd
    let hidden (w : W32) : W32 := if (s.shape? i s.primary).any fun t => t.seed == w then 0 else w
    (s, [seed.getD 0, hidden (((s.rehash? i).map Rehash.target).getD 0), atB 0 seed.isNone])

/-- ACS objects (R244). The times at the steps are kept in ns. -/
def Dev.readAcs (s : Dev) (o i : Nat) : List W32 :=
  if o == 1 then s.obj bACS 1 i
  else if o == 2 then s.ctrs bACS 2 i 3
  else if o == 3 then s.ctrs bACS 3 i 1
  else (List.range 4).flatMap fun k => c64 (s.stepNs k / 1000000)

/-- EPP objects (R336). -/
def Dev.readEpp (s : Dev) (o i : Nat) : Dev × List W32 :=
  if o == 0x10 then
    if i == 0 then
      ({ s with tm := { s.tm with replCap := some (s.counter bEPP 0x10 0 4, s.counter bEPP 0x10 0 5) } }, s.ctrs bEPP 0x10 0 4)
    else
      let p := s.tm.replCap.getD (0, 0)
      (s, c64 p.1 ++ c64 p.2)
  else (s, s.ctrs bEPP o i 4)

/-- QAD objects (R258, R266). A read of object 0x21 starts the peak anew. -/
def Dev.readQad (s : Dev) (o i : Nat) : Dev × List W32 :=
  if o == 0x20 then
    let x := s.queue i
    (s, [w32 x.pkts.length, w32 x.depth, w32 x.onDie, w32 x.hbm])
  else if o == 0x21 then
    let u := s.poolUse i
    ({ s with tm := { s.tm with peakU := mset 0 s.tm.peakU i u } }, [w32 u, w32 (max u (mget 0 s.tm.peakU i))])
  else if o == 0x30 || o == 0x31 then (s, s.ctrs bQAD o 0 4)
  else (s, s.objNormal bQAD o i)

/-- SCH objects (R276, R277, R292). -/
def Dev.readSch (s : Dev) (o i : Nat) : List W32 :=
  if o == 3 then
    [tokWord (s.nodeCommitted i), tokWord (s.nodePeak i), BitVec.ofInt 32 (s.deficit 2 i), BitVec.ofInt 32 (s.deficit 3 i)]
  else if o == 6 then
    let held := !(s.queue i).pkts.isEmpty
    let credited := (s.voqDest i).isSome
    let bal := mget 0 s.tm.credit i
    [BitVec.ofInt 32 bal, atB 0 (credited && held) ||| atB 1 (held && (if credited then decide (0 < bal) else decide (0 < s.voqTokens i)))]
  else if o == 0x10 || o == 0x11 then s.ctrs bSCH o i 4
  else if o == 0x20 then s.ctrs bSCH 0x20 0 2
  else s.objNormal bSCH o i

/-- POL objects (R293). -/
def Dev.readPol (s : Dev) (o i : Nat) : List W32 :=
  if o == 2 then [tokWord (s.polTc i), tokWord (s.polTp i)]
  else if o == 3 then s.ctrs bPOL 3 i 4
  else if o == 4 then s.ctrs bPOL 4 i 3
  else s.objNormal bPOL o i

/-- FAB objects (R316). -/
def Dev.readFab (s : Dev) (o i : Nat) : List W32 :=
  if o == 1 then
    let e := s.pin i
    [at_ 0 9 e.lane ||| at_ 16 9 e.alt, at_ 0 16 e.inflight ||| atB 16 e.held]
  else if o == 2 || o == 3 then s.ctrs bFAB o i 4
  else if o == 4 then
    (List.range 2).map fun k => (List.range 32).foldl (fun (w : W32) j => if s.reachable (64 * i + 32 * k + j) then setBit w j true else w) 0
  else if o == 5 then s.ctrs bFAB 5 0 3
  else s.obj bFAB o i

/-- HBM objects (R358). -/
def Dev.readHbm (s : Dev) (o i : Nat) : List W32 :=
  if o == 2 then (List.range 4).map fun k => word (s.hbm.log.getD i []) k
  else if o == 4 then
    let x := s.hlane (i / 256) (i % 256)
    [at_ 0 8 x.rd.toNat ||| at_ 8 8 x.wr.toNat, at_ 0 8 x.rr.toNat ||| at_ 8 8 x.wrr.toNat]
  else s.ctrs bHBM o i 4

/-- A statistics pair as four words (R453). -/
def pairWords (v : Nat × Nat) : List W32 := c64 v.1 ++ c64 v.2

/-- PMC objects (R462). -/
def Dev.readPmc (s : Dev) (o i : Nat) : List W32 :=
  let k : PmcCtr := mget {} s.pmc i
  if o == 1 then c64 (k.value % 2 ^ 48) else if o == 3 then c64 k.period else s.ctrs bPMC 4 0 2

/-- What a read of an object returns, and what it changes; STA objects 0x01 and 0x02 apart. -/
def Dev.objRead (s : Dev) (b o i n sub : Nat) : Dev × List W32 :=
  if b == bCUE then s.readCue o i n sub
  else if b == bTAB then (s, timeWords s.tab.sec s.tab.ns)
  else if b == bPBK then (s, s.readPbk i)
  else if b == bUPD then (s, s.readUpd o i)
  else if b == bCCX then (s, s.ctrs bCCX 1 i 4)
  else if b == bINT then (s, s.readInt o i)
  else if b == bLNP then s.readLnp o i
  else if b == bOTF then (s, s.readOtf o i)
  else if b == bLCI then (s, s.readLci o i)
  else if b == bIPP then (s, if o == 3 then s.readPred i else s.ctrs bIPP o i (if o == 4 then 1 else 4))
  else if b == bSPL then (s, if o == 3 then s.ctrs bSPL 3 i 2 else s.objNormal bSPL o i)
  else if b == bFIB then (s, s.readFib o i)
  else if b == bEXM then s.readExm o i
  else if b == bACS then (s, s.readAcs o i)
  else if b == bEPP then s.readEpp o i
  else if b == bBPM then (s, if o == 1 then s.ctrs bBPM 1 i 4 else (List.range 2).map fun k => word (s.tm.ptrLog.getD i []) k)
  else if b == bQAD then s.readQad o i
  else if b == bSCH then (s, s.readSch o i)
  else if b == bPOL then (s, s.readPol o i)
  else if b == bFAB then (s, s.readFab o i)
  else if b == bHBM then (s, s.readHbm o i)
  else if b == bDMA then (s, s.ctrs bDMA 1 i 2)
  else if b == bSTA then (s, [w32 s.sta.alloc, w32 s.sta.snap] ++ (List.range 3).flatMap fun k => c64 (s.counter bSTA 3 0 (k + 1)))
  else if b == bPMC then (s, s.readPmc o i)
  else (s, s.obj b o i)

/-- A read of a statistics pair: ECODE 4 for an invalid pair, and for one whose HBM read fails (R450, R451). `clear` sets it to zero. -/
def Dev.readPair (s : Dev) (i : Nat) (clear err : Bool) : Dev × Except Nat (List W32) :=
  if s.sta.invalid.contains i then (s, .error 4)
  else if !s.statServes i then (s.statInvalid i 2, .error 4)
  else
    let s := s.hbmRead (s.statAddr i) 16 false
    if err then (s.statInvalid i 1, .error 4)
    else
      let v := s.statValue i
      (if clear then (s.hbmWrite (s.statAddr i) 16 false).statSet i (0, 0) else s, .ok (pairWords v))

/-- A read of `n` words of an object at an index that it accepts: the words, or ECODE 4. `err` says that its memory is uncorrectable. -/
def Dev.mbxRead (s : Dev) (b o i n sub : Nat) (err : Bool) : Dev × Except Nat (List W32) :=
  if b == bSTA && o == 2 then s.readPair i true err
  else if b == bSTA && o == 1 then
    let x := s.readPair i false err
    if n == 4 then x
    else
      let y := x.1.readPair (i + 1) false false
      match x.2, y.2 with
      | .ok v, .ok w => (y.1, .ok (v ++ w))
      | _, _ => (y.1, .error 4)
  else if err then (s, .error 4)
  else
    let r := s.objRead b o i n sub
    (r.1, .ok r.2)

/-! ### Writes. -/

/-- The bits of an object's words that a write sets; the others keep reading 0. -/
def objMask (b o : Nat) : List W32 :=
  if b == bLNP && o == 0x20 then [ones, 0xFF#32]
  else if b == bOTF && o == 0x21 then [0xFFFFF#32, 0xFF#32]
  else if b == bQAD && (o == 1 || o == 2) then [0x3F0F#32]
  else if b == bQAD && o == 0x10 then [0x0FFFFFFF#32, 0x0FFFFFFF#32, 0x10FFF#32, 0]
  else if b == bQAD && o == 0x11 then List.replicate 6 0x0FFFFFFF#32
  else if b == bSCH && o == 1 then [0x1FFFF3#32, 0xFFFF#32]
  else if b == bSCH && o == 2 then [ones, ones, ones, ones, 0xFFF#32, 0]
  else if b == bSCH && o == 5 then [0xFFFFF#32, ones, 0xFFFFFFF0#32, 0x1FFF8#32]
  else if b == bPOL && o == 1 then [ones, ones, ones, ones, 3#32, 0]
  else List.replicate 8 ones

/-- Words cut to the bits that an object has. -/
def maskWords (b o : Nat) (ws : List W32) : List W32 := ws.zipWith (fun w m => w &&& m) (objMask b o)

/-- The words are refused by the object's chapter: a time out of range (R73), a PERIOD outside 1 to 2^48 − 1 (R462; log entry 58). -/
def objRefuses (b o : Nat) (ws : List W32) : Bool :=
  if (b == bCUE || b == bUPD) && o == 2 then badTime ws
  else if b == bPMC && o == 3 then
    let v := wordN ws 0 + 2 ^ 32 * wordN ws 1
    v == 0 || decide (2 ^ 48 ≤ v)
  else false

/-- Characters for TOD_OUT (R70, R73): those beyond 64 queued are discarded. -/
def Dev.todWrite (s : Dev) (ws : List W32) : Dev :=
  let k := min (min (wordN ws 0) 28) (4 * (ws.length - 1))
  { s with cue := { s.cue with todOut := (s.cue.todOut ++ (wordsBytes (ws.drop 1)).take k).take (64 - s.cue.todDue.length) } }

/-- Write a statistics pair: its delta and its mark go (R450, R451). -/
def Dev.writePair (s : Dev) (i : Nat) (ws : List W32) : Dev :=
  let s := (s.hbmWrite (s.statAddr i) 16 false).statSet i (wordN ws 0 + 2 ^ 32 * wordN ws 1, wordN ws 2 + 2 ^ 32 * wordN ws 3)
  { s with sta := { s.sta with invalid := delKey s.sta.invalid i } }

/-- Write an object at once; a staged one lands in its wing (R50, R59). -/
def Dev.objWrite (s : Dev) (b o i : Nat) (ws : List W32) : Dev :=
  if b == bCUE && o == 2 then
    { s with cue := { s.cue with stepLoad := some (wordN ws 1 + 2 ^ 32 * wfld ws 2 0 16, wordN ws 0 / 128 * 128) } }
  else if b == bCUE then s.todWrite ws
  else if b == bSTA then
    let s := s.writePair i ws
    if ws.length == 8 then s.writePair (i + 1) (ws.drop 4) else s
  else if b == bPMC then
    let k : PmcCtr := mget {} s.pmc i
    let v := wordN ws 0 + 2 ^ 32 * wordN ws 1
    let k' : PmcCtr := if o == 1 then { k with value := v % 2 ^ 48 } else { k with period := v }
    { s with pmc := mset {} s.pmc i k' }
  else if b == bFAB && o == 1 then s.setPin i { s.pin i with alt := wfld ws 0 16 9 }
  else
    match objSub b o with
    | some k => (s.setObjWing b o i (maskWords b o ws)).wf Reg.WING_PEND 0 b k 1 1
    | none => s.setObj b o i (maskWords b o ws)

/-! ### Latched objects and registers (R463, R464). -/

/-- The objects that a tableau latches. -/
def latchedObj (b o : Nat) : Bool :=
  if b == bCUE then o == 1 || o == 0x20
  else if b == bCCX || b == bBPM || b == bDMA || b == bPMC then o == 1
  else if b == bINT then o == 4 || o == 6
  else if b == bLNP || b == bOTF || b == bPOL then (if b == bPOL then o == 2 || o == 3 || o == 4 else o == 1 || o == 2 || o == 3)
  else if b == bLCI then o == 2 || o == 3
  else if b == bIPP then o == 1 || o == 2 || o == 4
  else if b == bSPL then o == 3
  else if b == bFIB then o == 1 || o == 2 || o == 3 || o == 4
  else if b == bEXM then o == 1 || o == 2
  else if b == bACS then o == 2 || o == 3 || o == 4
  else if b == bEPP then o == 1 || o == 2 || o == 0x10
  else if b == bQAD then o == 0x20 || o == 0x21 || o == 0x30 || o == 0x31
  else if b == bSCH then o == 3 || o == 6 || o == 0x10 || o == 0x11 || o == 0x20
  else if b == bFAB then o == 1 || o == 2 || o == 3 || o == 4 || o == 5
  else if b == bHBM then o == 1 || o == 3
  else false

/-- The registers that a tableau latches. -/
def latchedRegs : List RegDesc :=
  [Reg.CUE_STATUS, Reg.CUE_EPOCH, Reg.CUE_STRAGGLER, Reg.PBK_STATE, Reg.CCX_CALL, Reg.CCX_CC_STATUS, Reg.INT_ISO,
    Reg.LNP_PORT_STATUS, Reg.LNP_LANE_STATUS, Reg.LNP_RF_STATUS, Reg.OTF_DEFECT, Reg.OTF_RX_PSI, Reg.LCI_PORT_TX, Reg.LCI_CLUSTER_STATUS,
    Reg.IPP_PRED_STATUS, Reg.EXM_TBL_STATUS, Reg.ACS_STATUS, Reg.DVT_LINK_STATUS, Reg.DVT_CNT_CRC, Reg.DVT_CNT_REPLAY, Reg.DVT_CNT_RETRAIN,
    Reg.BPM_ONDIE_FREE, Reg.BPM_HBM_FREE, Reg.QAD_SHARED, Reg.FAB_LANE_INSVC, Reg.HBM_STACK_STATUS, Reg.CAG_CAGE_STATUS]
  ++ (List.range 4).map Reg.DMA_DEV_IDX

/-- The register that index `i` of object 0xFE of block `b` names, when it is latched. -/
def latchedReg (b i : Nat) : Option (RegDesc × Nat × Nat) :=
  if 0x400000 ≤ 4 * i then none
  else match regAt (b * windowSize + 4 * i) with
    | some x => if latchedRegs.any fun d => d.is x.1 then some x else none
    | none => none

/-- A read of a latched object or register of block `b`, from the held device `l`: the words or the ECODE, and how many free values it drew. -/
def Dev.latchedRead (l : Dev) (b o i n : Nat) : Except Nat (List W32) × Nat :=
  let k := l.freeCtr
  if o == 0xFE then
    match latchedReg b i with
    | none => (.error 2, k)
    | some (d, c, j) => if n == 1 then (.ok [l.regValue .host d c j false], k) else (.error 1, k)
  else if b == bSTA && o == 0x81 then
    if n != 4 then (.error 1, k)
    else if i < l.tabRange.1 || l.tabRange.1 + l.tabRange.2 ≤ i then (.error 3, k)
    else if l.sta.invalid.contains i then (.error 4, k)
    else (.ok (pairWords (l.statValue i)), k)
  else
    let ob := o - 0x80
    -- the second halves of the captured objects are those of the tick
    let l : Dev := { l with tbl := { l.tbl with learnCap := some (l.counter bEXM 2 0 4, l.counter bEXM 2 0 5) },
                            tm := { l.tm with replCap := some (l.counter bEPP 0x10 0 4, l.counter bEPP 0x10 0 5) } }
    match objSpec b ob i with
    | none => (.error 2, k)
    | some x =>
      if !latchedObj b ob then (.error 2, k)
      else if !x.counts.contains n then (.error 1, k)
      else match l.objIndex b ob i n with
        | some e => (.error e, k)
        | none =>
          let r := l.objRead b ob i n 0
          (.ok r.2, r.1.freeCtr)

end Sys2Proof.Machine
end

