-- ==== Sys2Proof/Machine/CfgSpace.lean ====
section
/-! DEFINITION. The configuration space, the MSI-X table and the user counter page as the host reads and writes them (R361–R368, R460, R461). What R361 leaves to PCI Express Base 5.0 is log entry 59. -/
namespace Sys2Proof.Machine

/-! ### Configuration space. -/

/-- The writable bits of the configuration register at byte offset `o`, of plain storage. -/
def cfgRw (o : Nat) : W32 :=
  match o with
  | 0x04 => 0x140#32
  | 0x0C => 0xFF#32
  | 0x10 => 0xF0000000#32
  | 0x14 => ones
  | 0x1C => 0xFFFFFFF0#32
  | 0x20 => 0xFFFF0000#32
  | 0x24 => ones
  | 0x3C => 0xFF#32
  | 0x78 => 0x79EF#32
  | 0x80 => 0x2CB#32
  | 0x98 => 0x1200#32
  | 0xA0 => 0xFFBF#32
  | 0x108 => 0x0017F010#32
  | 0x10C => 0x0017F010#32
  | 0x114 => 0x31C1#32
  | 0x15C => 3#32
  | _ => 0

/-- The bits of a configuration register that a 1 clears. -/
def cfgW1c (o : Nat) : W32 :=
  match o with
  | 0x78 => 0x000F0000#32
  | 0x104 => 0x0017F010#32
  | 0x110 => 0x31C1#32
  | _ => 0

/-- The read-only registers of AER that the device fills. -/
def cfgHeld (o : Nat) : Bool := o == 0x118 || o == 0x11C || o == 0x120 || o == 0x124 || o == 0x128

/-- Reset value of the stored bits of a configuration register. -/
def cfgReset (o : Nat) : W32 :=
  match o with
  | 0x78 => devCtlReset
  | 0xA0 => 5#32
  | 0x10C => aerSevReset
  | 0x114 => aerCorMaskReset
  | _ => 0

/-- The bits of a configuration register that are constant, or that report other state. -/
def Dev.cfgFixed (s : Dev) (o : Nat) : W32 :=
  match o with
  | 0x00 => 0x05121F3C#32 + at_ 16 2 s.variant.index
  | 0x04 => 0x00100400#32 ||| atB 1 s.pci.memSpace ||| atB 2 s.pci.busMaster
  | 0x08 => 0x02800001#32
  | 0x10 => 0x4#32
  | 0x18 => 0xC#32
  | 0x20 => 0x4#32
  | 0x2C => 0x00001F3C#32
  | 0x34 => 0x40#32
  | 0x40 => 0xC8035001#32
  | 0x44 => (if s.pci.d3hot then 0xB#32 else 0x8#32) ||| atB 8 s.pci.pmeEn ||| atB 15 s.pci.pmeStatus
  | 0x50 => 0x07FF7011#32 ||| atB 30 s.pci.msixMask ||| atB 31 s.pci.msixEn
  | 0x54 => 0x0C010000#32
  | 0x58 => 0x0C018000#32
  | 0x70 => 0x00020010#32
  | 0x74 => 0x10008022#32
  | 0x78 => atB 4 s.pci.relaxedEn ||| atB 21 s.readsOut
  | 0x7C => 0x00420885#32
  | 0x80 => 0x00850000#32
  | 0x94 => 0x00030000#32
  | 0x98 => atB 8 s.pci.idoEn
  | 0x9C => 0x3E#32
  | 0x100 => 0x14820001#32
  | 0x148 => 0x15810003#32
  | 0x14C => w32 (ofLe (slice (Config.unitBytes 1) 0 4))
  | 0x150 => w32 (ofLe (slice (Config.unitBytes 1) 4 4))
  | 0x158 => 0x17810019#32
  | 0x178 => 0x1A010026#32
  | 0x1A0 => 0x1C81002A#32
  | 0x1C8 => 0x1F010027#32
  | 0x1F0 => 0x2081002E#32
  | 0x1FC => atB 0 s.pci.doeWait.isSome
  | 0x208 => 0x0001000B#32
  | 0x20C => 0x04010001#32
  | 0x210 => if s.bases then s.cageBits 0 0 else 0
  | 0x214 => if s.bases then s.cageBits 1 0 else 0
  | 0x218 => if s.bases then s.cageBits 0 4 else 0
  | 0x21C => if s.bases then s.cageBits 1 4 else 0
  | 0x220 => if s.bases then s.cageBits 0 5 else 0
  | 0x224 => if s.bases then s.cageBits 1 5 else 0
  | _ => 0

/-- The configuration register at byte offset `o`, a multiple of 4. -/
def Dev.cfgWord (s : Dev) (o : Nat) : W32 :=
  s.cfgFixed o ||| (s.pciCfg (cfgReset o) o &&& (cfgRw o ||| cfgW1c o ||| (if cfgHeld o then ones else 0)))

/-- Write 1 to the ATTN bits of cages 32 × `i` on (R364, R388). -/
def Dev.attnClear (s : Dev) (i : Nat) (v : W32) : Dev :=
  (List.range 32).foldl (fun (s : Dev) k => if bit v k then s.wf Reg.CAG_CAGE_STATUS 0 (32 * i + k) 5 1 0 else s) s

/-- The pending vectors that may now be sent are (R366, R378). -/
def Dev.pbaFlush (s : Dev) : Dev :=
  s.pci.pba.reverse.foldl (fun (s : Dev) v => { s with pci := { s.pci with pba := delKey s.pci.pba v } }.raiseVector v) s

/-- PMCSR is written: the power state (R367), PME_En and PME_Status (R368). -/
def Dev.pmcsrWrite (s : Dev) (v m : W32) : Dev :=
  let s := if bit m 0 then (if fld v 0 2 == 3 then s.d3Enter else if fld v 0 2 == 0 then { s with pci := { s.pci with d3hot := false } } else s) else s
  if !bit m 8 then s
  else
    let s := { s with pci := { s.pci with pmeEn := bit v 8 } }
    if bit v 15 && s.pci.pmeStatus then { s with pci := { s.pci with pmeStatus := false } }.emit (.wakeN false) else s

/-- Write the bits `m` of the configuration register at `o`. -/
def Dev.cfgWrite (s : Dev) (o : Nat) (v m : W32) : Dev :=
  -- stored bits
  let old := s.pciCfg (cfgReset o) o
  let w := cfgRw o &&& m
  let s := s.setPciCfg (cfgReset o) o (((old &&& ~~~w) ||| (v &&& w)) &&& ~~~(v &&& m &&& cfgW1c o))
  -- registers with an effect
  if o == 0x04 && bit m 0 then
    let s := { s with pci := { s.pci with memSpace := bit v 1 } }
    if bit v 2 then { s with pci := { s.pci with busMaster := true } } else if s.pci.busMaster then s.masterClear else s
  else if o == 0x44 then s.pmcsrWrite v m
  else if o == 0x50 && bit m 24 then ({ s with pci := { s.pci with msixMask := bit v 30, msixEn := bit v 31 } }).pbaFlush
  else if o == 0x78 then
    let s := if bit m 0 then { s with pci := { s.pci with relaxedEn := bit v 4 } } else s
    if bit (v &&& m) 15 then s.flrStart else s
  else if o == 0x98 && bit m 8 then { s with pci := { s.pci with idoEn := bit v 8 } }
  else if o == 0x1F8 && bit (v &&& m) 0 then { s with pci := { s.pci with doeWait := none } }
  else if (o == 0x220 || o == 0x224) && s.bases then s.attnClear (if o == 0x220 then 0 else 1) (v &&& m)
  else s

/-- The byte lanes of an access of `len` bytes at byte `k` of a word. -/
def laneMask (k len : Nat) : W32 := BitVec.ofNat 32 ((2 ^ (8 * len) - 1) * 2 ^ (8 * k))

/-- Configuration requests reach the function: a link, no PERST_N (R373). -/
def Dev.cfgReach (s : Dev) : Bool := s.pci.link != 0 && !s.pci.perst

/-- A configuration write of the host (R361): an FLR in progress answers Unsupported Request (R371). -/
def Dev.configWrite (s : Dev) (x : Access) (v : W32) : Dev :=
  let a := x.addr.toNat
  if x.req != .host || 4096 ≤ a || !s.cfgReach then s
  else if s.pci.flr then s.emit (.unsupported .host true)
  else s.cfgWrite (a / 4 * 4) (v <<< (8 * (a % 4))) (laneMask (a % 4) x.len)

/-- A configuration read of the host. -/
def Dev.configRead (s : Dev) (x : Access) : Dev :=
  let a := x.addr.toNat
  if x.req != .host || 4096 ≤ a || !s.cfgReach then s
  else if s.pci.flr then s.emit (.unsupported .host false)
  else s.emit (.readData .host (BitVec.ofNat 64 (((s.cfgWord (a / 4 * 4)).toNat / 2 ^ (8 * (a % 4))) % 2 ^ (8 * x.len.val))))

/-! ### The MSI-X table and PBA (R366). -/

/-- A normal-view BAR0 offset lies in the MSI-X table or the PBA. -/
def inMsix (a : Nat) : Bool := decide (0x0C010000 ≤ a) && decide (a < 0x0C018100)

/-- An access to them is accepted: one aligned word, or two in the normal view. -/
def msixFits (x : Access) : Bool :=
  x.full && ((x.len.val == 4 && x.addr.toNat % 4 == 0) || (x.len.val == 8 && x.addr.toNat % 8 == 0))

/-- One word of the table or the PBA. -/
def Dev.msixWord (s : Dev) (a : Nat) : W32 :=
  if a < 0x0C018000 then
    let k := (a - 0x0C010000) / 4
    mget (if k % 4 == 3 then 1#32 else 0#32) s.pci.msix k
  else
    let w := (a - 0x0C018000) / 4
    (List.range 32).foldl (fun (r : W32) j => if s.pci.pba.contains (32 * w + j) then setBit r j true else r) 0

/-- Write one word; a vector that becomes unmasked while it is pending is sent. -/
def Dev.msixStore (s : Dev) (a : Nat) (v : W32) : Dev :=
  if 0x0C018000 ≤ a then s
  else
    let k := (a - 0x0C010000) / 4
    let d : W32 := if k % 4 == 3 then 1#32 else 0#32
    let m : W32 := if k % 4 == 3 then 1#32 else if k % 4 == 0 then 0xFFFFFFFC#32 else ones
    let was := s.msixWord a
    let s := { s with pci := { s.pci with msix := mset d s.pci.msix k (v &&& m) } }
    if k % 4 == 3 && bit was 0 && !bit v 0 && s.pci.pba.contains (k / 4) then
      { s with pci := { s.pci with pba := delKey s.pci.pba (k / 4) } }.raiseVector (k / 4)
    else s

/-! ### The user counter page (R460, R461). -/

/-- The word at offset `o` of the BAR4 page. -/
def Dev.userWord (s : Dev) (o : Nat) : W32 :=
  let low (id : Nat) : W32 := w32 (mget ({} : PmcCtr) s.pmc id).value
  let allow := s.rf Reg.PMC_USER 0 0 0 1
  if o == 0xF00 then at_ 0 1 allow ||| at_ 1 1 (s.rf Reg.PMC_CTRL 0 0 0 1) ||| at_ 16 16 (s.rf Reg.TAB_STATUS 0 0 8 16)
  else if allow == 0 then 0
  else if o < 0x100 then low (256 + o / 4)
  else if o < 0x100 + 4 * 8 * nBlocks then low ((o - 0x100) / 4)
  else 0

/-- A read of the page: an aligned 32-bit one, or Unsupported Request. -/
def Dev.userRead (s : Dev) (x : Access) : Dev :=
  let o := x.addr.toNat
  if x.req != .host then s
  else if s.hostShut .host || !s.bases || x.len.val != 4 || !x.full || o % 4 != 0 || 0x10000 ≤ o then s.emit (.unsupported .host false)
  else s.emit (.readData .host ((s.userWord o).zeroExtend 64))

/-- A write of the page is answered with Unsupported Request. -/
def Dev.userWrite (s : Dev) (x : Access) : Dev := if x.req == .host then s.emit (.unsupported .host true) else s

end Sys2Proof.Machine
end

