-- ==== Sys2Proof/Machine/Access.lean ====
section
/-! DEFINITION. Register reads and writes by address, wings, strobe maps, mailbox operations, the unlock (chapter 02). -/
namespace Sys2Proof.Machine

/-! ### Writes by address (R45, R57). -/

/-- The offset of an access in the normal view. -/
def Access.normal (x : Access) : Nat := x.addr.toNat / windowSize * windowSize + x.addr.toNat % windowSize % 0x400000

/-- What a plain register's write brings beyond its value: LCI load words, attention bits, cage ports, the audit. -/
def Dev.writeHook (s : Dev) (d : RegDesc) (i : Nat) (v : W32) : Dev :=
  if d.is Reg.LCI_LOAD_W then { s with lci := { s.lci with load := mset 0 s.lci.load i v } }
  else if d.is Reg.CAG_ATTN then s.attnClear i v
  else if d.is Reg.CAG_CAGE_CFG then s.cageSweep
  else if d.is Reg.BPM_AUDIT_CTRL && bit v 16 then s.auditStart
  else s

/-- What a write leaves in a plain register: its wing (R48, R50), or its value (R45). Class 9 keeps REACT 4 (R440); MBX_DATA of a busy mailbox and the status of another complex stay (R60, R400); a complex that reports the loss of its synchronisation sets CCX event 6 (R401). -/
def Dev.plainWrite (s : Dev) (q : Req) (d : RegDesc) (c i : Nat) (v : W32) (armed : Bool) : Dev :=
  if d.rs != 0 then (s.setWing d c i ((s.wing d c i &&& ~~~d.rs) ||| (v &&& d.rs))).wf Reg.WING_PEND 0 d.blk d.sub 1 1
  else if d.is Reg.CCX_CC_STATUS then (if q == (if i == 0 then .ccA else .ccB) then (s.wg d c i (v &&& 0x00FFFF1F#32)).eventIf (s.ccSynced i && !bit v 3) bCCX 6 else s)
  else if d.blk == 0 && 0x20 ≤ d.off && d.off < 0x40 && s.rf Reg.MBX_STATUS 0 i 1 1 == 1 then s
  else if d.is Reg.INT_CLASS_CFG && i == 8 then s.wg d c i (setFld (writeValue d (s.rg d c i) v armed) 0 3 4)
  else
    let s := if d.is Reg.LCI_PORT_TX && !bit v 24 then { s with lci := { s.lci with autoWarned := delKey s.lci.autoWarned (16 * c + i) } } else s
    (s.wg d c i (writeValue d (s.rg d c i) v armed)).writeHook d i v

/-- A write that passed the gate to a register without a command of its own. -/
def Dev.gatePlain (s : Dev) (q : Req) (d : RegDesc) (c i : Nat) (v : W32) : Dev :=
  s.gateWrite q d c i fun s armed => s.plainWrite q d c i v armed

/-! ### The unlock (R63, R64). -/

/-- A write of TOP_UNLOCK. -/
def Dev.unlockWrite (s : Dev) (q : Req) (key : Nat) : Dev :=
  s.gateWrite q Reg.TOP_UNLOCK 0 0 fun s _ =>
    if key == 0xC4D3 then { s with arming := s.arming.set q true }
    else s.logErr 8 (Reg.TOP_UNLOCK.addr 0 0) true false q

/-! ### Mailboxes (R59–R62). -/

/-- The first ECODE of an operation that is refused at its start, and the words that it captured; `held` is the device of the held tableau. -/
def Dev.mbxStart (s : Dev) (held : Option Dev) (b op n o i sub : Nat) (ws : List W32) (err : Bool) : Dev × Nat × List W32 :=
  if op != 1 && op != 2 then (s, 1, [])
  else if 0x80 ≤ o then
    match held with
    | none => (s, 2, [])
    | some l =>
      let r := ({ l with freeCtr := s.freeCtr }).latchedRead b o i n
      if op == 2 then (s, (match r.1 with | .error 2 => 2 | _ => 1), [])
      else match r.1 with
        | .error e => (s, e, [])
        | .ok w => ({ s with freeCtr := r.2 }, 0, w)
  -- the tableau time reads as latched objects do while nothing is held (R93)
  else if b == bTAB && o == 1 && op == 1 && held.isNone then (s, 2, [])
  else match objSpec b o i with
    | none => (s, 2, [])
    | some x =>
      if !(if op == 1 then x.rd else x.wr) || !x.counts.contains n then (s, 1, [])
      else match s.objIndex b o i n with
        | some e => (s, e, [])
        | none =>
          if op == 1 then
            match s.mbxRead b o i n sub err with
            | (s, .ok w) => (s, 0, w)
            | (s, .error e) => (s, e, [])
          else if objRefuses b o ws then (s, 7, [])
          else (s.objWrite b o i ws, 0, [])

/-- A write of MBX_CMD (R60): the words of a read are captured, and those of a write applied, at this instant. `sub` nanoseconds have passed since the latest tick; `err` says that the memory read is uncorrectable. -/
def Dev.mbxCmd (s : Dev) (held : Option Dev) (q : Req) (b : Nat) (v : W32) (sub : Nat) (err : Bool) : Dev :=
  s.gateWrite q Reg.MBX_CMD 0 b fun s _ =>
    if s.rf Reg.MBX_STATUS 0 b 1 1 == 1 then s.wf Reg.MBX_STATUS 0 b 3 1 1
    else
      let s := s.storeRw Reg.MBX_CMD 0 b v
      let s := s.wf Reg.MBX_STATUS 0 b 0 3 2
      let n := fld v 4 3 + 1
      let op := fld v 0 4
      let ws := (List.range n).map fun k => s.rg (Reg.MBX_DATA k) 0 b
      let r := s.mbxStart held b op n (fld v 8 8) (s.rg Reg.MBX_INDEX 0 b).toNat sub ws err
      let x : MbxOp := { host := q == .host, ecode := r.2.1, words := r.2.2, tag := fld v 16 8, write := op == 2 }
      { r.1 with mbx := minsert (merase r.1.mbx b) b x }

/-- A write of the step object has ended: the step waits for its tick, or is discarded with the write (R61, R69). -/
def Dev.stepLoaded (s : Dev) (ecode : Nat) : Dev :=
  match s.cue.stepLoad with
  | none => s
  | some t => { s with cue := { s.cue with stepLoad := none, step := if ecode == 0 then some t else s.cue.step } }

/-- The operation of a block's mailbox ends with an ECODE and words (R60, R61). -/
def Dev.mbxEnd (s : Dev) (b ecode : Nat) : Dev :=
  match s.mbx.find? fun e => e.1 == b with
  | none => s
  | some e =>
    let x := e.2
    let s := { s with mbx := merase s.mbx b }
    let s := if b == bCUE && x.write then s.stepLoaded ecode else s
    let st := s.rg Reg.MBX_STATUS 0 b
    let s := s.wg Reg.MBX_STATUS 0 b (atB 0 (ecode == 0) ||| atB 2 (ecode != 0) ||| (st &&& 8#32) ||| at_ 4 4 ecode ||| at_ 16 8 x.tag)
    if ecode != 0 || x.write then s
    else (List.range x.words.length).foldl (fun (s : Dev) k => s.wg (Reg.MBX_DATA k) 0 b (word x.words k)) s

/-! ### Registers that have commands of their own, reached by address. -/

/-- A write whose effect lies in the clock, cue and tableau blocks, the Prompt Book, the Call and the integrity collector; none for other registers. -/
def Dev.ownT (s : Dev) (q : Req) (d : RegDesc) (i : Nat) (v : W32) : Option Dev :=
  if d.is Reg.CUE_PHASE_ADJ then some (s.gateWrite q d 0 0 fun s _ => { s with cue := { s.cue with slew := (v.truncate 24 : BitVec 24).toInt * 10000 } })
  else if d.is Reg.CUE_CTRL then some (s.gateWrite q d 0 0 fun s _ => s.ctrlWrite v (bit v 0))
  else if d.is Reg.CUE_SUBMIT_CMD then some (s.submitCmd q (fld v 0 8) (fld v 8 2))
  else if d.is Reg.CUE_STROBE_FIRE then some (s.gateWrite q d 0 0 fun s _ => s.strobeWrite v)
  else if d.is Reg.CUE_EPOCH_CMD then some (s.epochCmd q (fld v 4 2) (fld v 0 4))
  else if d.is Reg.TAB_TRIGGER then
    some (s.gateWrite q d 0 0 fun s _ => if bit v 0 then { s with tab := { s.tab with regReq := true } } else s)
  else if d.is Reg.PBK_CMD then
    some (s.pbkCmd q fun s =>
      match fld v 0 4 with
      | 1 => s.pbkCheck
      | 2 => s.pbkStage
      | 3 => s.pbkAbort
      | 4 => s.pbkCold
      | 5 => s.pbkReshape (fld v 4 1)
      | 6 => s.pbkEndSplit
      | op => s.pbkOther op)
  else if d.is Reg.CCX_CALL_CMD then
    some (s.callCmd q fun s x => match fld v 0 2 with | 1 => s.claim x false | 2 => s.renew x | 3 => s.callDrop x | _ => s)
  else if d.is Reg.CCX_CALL_FORCE then some (s.gateKw q d 0 0 fun s => s.forceWrite q v)
  else if d.is Reg.INT_RELEASE then
    let i := fld v 0 17
    some (s.intRelease q (bit v 31) fun s =>
      match fld v 17 3 with
      | 1 => s.releaseCluster i
      | 2 => s.releaseF i
      | 3 => s.releaseT i
      | 4 => if i == (UnitId.ofCode (word (s.obj bINT 5 0) 0)).inst then s.releaseUnit else s
      | _ => s)
  else if d.is Reg.UPD_CMD then some (s.updWrite q (fld v 0 4) v)
  else if d.is Reg.TOP_FUSE_PROG then some (s.gateKw q d 0 0 fun s => s.fuseWrite v)
  else if d.is Reg.PWR_PD_CTRL then some (s.gateKw q d 0 0 fun s => s.pdWrite v)
  else if d.is Reg.TOP_RESET then some (s.gateKw q d 0 0 fun s => s.topReset v)
  else if d.is Reg.TOP_UNLOCK then some (s.unlockWrite q (fld v 0 16))
  else if d.is Reg.STROBE_MAP && d.blk == 0 then some (s.gateWrite q d 0 i fun s _ => s.mapSet i v)
  else none

/-- The same for the queues, the fabric, the memories and the host interface. -/
def Dev.ownTm (s : Dev) (q : Req) (d : RegDesc) (i : Nat) (v : W32) : Option Dev :=
  if d.is Reg.BPM_CTRL then
    some (s.gateWrite q d 0 0 fun s _ =>
      let was := s.spillEn
      let s := s.storeRw d 0 0 v
      (if !was && s.spillEn then s.spillOn else s).refreshShared)
  else if d.is Reg.BPM_HBM_REGION then
    some (s.gateWrite q d 0 i fun s _ => if s.spillEn then s.event bBPM 3 else if !s.variant.hasStack i then s else s.storeRw d 0 i v)
  else if d.is Reg.FAB_PIN_MOVE then
    some (s.gateWrite q d 0 0 fun s _ => if bit v 31 then { s with tm := { s.tm with moveReq := s.tm.moveReq ++ [fld v 0 12] } } else s)
  else if d.is Reg.FAB_PIN_FORCE then
    some (s.gateKw q d 0 0 fun s =>
      let s := s.wg d 0 0 (v &&& d.kw)
      if bit v 31 && fld v 16 9 < 320 then s.setPin (fld v 0 12) { s.pin (fld v 0 12) with lane := fld v 16 9 } else s)
  else if d.is Reg.TOP_DEVICE_ID then
    some (s.gateKw q d 0 0 fun s =>
      if s.rf Reg.FAB_CFG 0 0 0 2 == 1 || s.rf Reg.FAB_CFG 0 0 0 2 == 2 then s.event bFAB 4 else s.wg d 0 0 (v &&& d.kw))
  else if d.is Reg.FAB_CFG then some (s.gateWrite q d 0 0 fun s _ => if s.anyLane then s.event bFAB 4 else s.storeRw d 0 0 v)
  else if d.is Reg.HBM_STACK_CTRL then
    some (s.stackCtrl q i (bit v 16) fun s =>
      match fld v 0 2 with | 1 => s.stackTrain i false | 2 => s.stackTrain i true | 3 => s.stackReset i | _ => s)
  else if d.is Reg.HBM_THERM then some (s.gateWrite q d 0 0 fun s _ => s.thermWrite v)
  else if d.blk == bDMA && d.off % 0x40 == 0x10 then
    let r := (if d.off / 0x10000 == 1 then 0 else if d.off / 0x10000 == 2 then 512 else if d.off < 0x31000 then 1024 else 1088) + i
    some (s.gateWrite q d 0 i fun s _ => if bit v 0 then s.ringEnable r v else s.ringDisable r v)
  else if d.blk == bDMA && d.off % 0x40 == 0x14 then
    let r := (if d.off / 0x10000 == 1 then 0 else if d.off / 0x10000 == 2 then 512 else if d.off < 0x31000 then 1024 else 1088) + i
    some (s.gateWrite q d 0 i fun s _ => s.hostIdxWrite r v)
  else none

/-- The same for the F-die's blocks and the cages. -/
def Dev.ownF (s : Dev) (q : Req) (d : RegDesc) (c i : Nat) (v : W32) : Option Dev :=
  if d.is Reg.LNP_RF_REQ then some (s.gateWrite q d 0 0 fun s _ => if bit v 31 then s.rfRequest (fld v 0 8) (fld v 8 9) else s)
  else if d.is Reg.LCI_CLEAR_LOAD then
    some (s.gateKw q d 0 0 fun s =>
      let s := s.wg d 0 0 (v &&& d.kw)
      if !bit v 31 then s else if bit v 16 then s.kekLoad (fld v 0 14 % 4) else s.clearLoad (fld v 0 14))
  else if d.is Reg.LCI_WRAP_LOAD then some (s.gateWrite q d 0 0 fun s _ => if bit v 31 then s.wrapLoad (fld v 0 14) (fld v 16 2) else s)
  else if d.is Reg.LCI_CTX_CMD then
    let x := fld v 0 14
    let k := fld v 20 4
    let slot := fld v 24 8
    some (s.gateWrite q d 0 0 fun s _ =>
      let s := s.wg d 0 0 (v &&& d.rw)
      match fld v 16 3 with
      | 1 => s.restoreCtx x k slot false
      | 2 => s.parkCtx k slot
      | 3 => s.dropCmd k slot
      | 4 => s.eraseCtx x
      | _ => s)
  else if d.is Reg.LCI_SWITCH_NOW then
    some (s.gateWrite q d 0 0 fun s _ => if bit v 31 then { s with lci := { s.lci with switchReq := s.lci.switchReq ++ [fld v 0 12] } } else s)
  else if d.is Reg.LCI_CLUSTER_CTRL then
    some (s.gateWrite q d c 0 fun s _ =>
      if bit v 0 && s.rf Reg.LCI_CLUSTER_STATUS c 0 0 2 == 1 then s.wf Reg.LCI_CLUSTER_STATUS c 0 0 2 2 else s)
  else if d.is Reg.IPP_PRED_CTRL then
    some (s.gateWrite q d c 0 fun s _ =>
      let s := s.wg d c 0 (v &&& 1#32)
      if bit v 1 then s.predFlush c else s)
  else if d.is Reg.FIB_WATCH_CMD then
    some (s.gateWrite q d 0 0 fun s _ =>
      match fld v 16 2 with | 1 => s.hostWatch (fld v 0 15) true | 2 => s.hostWatch (fld v 0 15) false | 3 => s.rearm (fld v 0 15) | _ => s)
  else if d.is Reg.ACS_STEP_CTRL then
    some (s.gateWrite q d 0 0 fun s _ =>
      match fld v 16 2 with | 1 => s.stepStart (fld v 0 7) (fld v 8 2) (fld v 12 4) | 2 => s.stepNext | _ => s)
  else if d.is Reg.ACS_THROTTLE then some (s.gateWrite q d 0 0 fun s _ => s.throttleWrite v)
  else if d.is Reg.CAG_CAGE_CTRL then some (s.cageCtrl q i v (bit v 0))
  else if d.is Reg.CAG_I2C_CMD then some (s.gateWrite q d 0 i fun s _ => if bit v 31 then s.i2cGo i v else s)
  else none

/-- A write of the word `v` to the register `d` at cluster `c` and instance `i`. -/
def Dev.wordWrite (s : Dev) (held : Option Dev) (q : Req) (d : RegDesc) (c i : Nat) (v : W32) : Dev :=
  if d.is Reg.MBX_CMD && d.blk == 0 then s.mbxCmd held q i v 0 false
  else match s.ownT q d i v with
    | some s => s
    | none => match s.ownTm q d i v with
      | some s => s
      | none => match s.ownF q d c i v with
        | some s => s
        | none => s.gatePlain q d c i v

/-- A denied write: it consumes the arming and is logged (R57, R63). -/
def Dev.denyWrite (s : Dev) (x : Access) (e : Denial) : Dev :=
  ({ s with arming := s.arming.set x.req false }).deny x true e

/-- A write of the MSI-X table or the PBA (R366). -/
def Dev.msixWrite (s : Dev) (x : Access) (v : W64) : Dev :=
  let s : Dev := { s with arming := s.arming.set x.req false }
  if !msixFits x then s.deny x true (.bus 4)
  else if !s.bases then s.deny x true (.abort 6)
  else if s.isFenced x.req x.addr.toNat then s.fence x.req
  else
    let s := (s.count bPCI 1 0 1 x.req.attr).msixStore x.addr.toNat (v.truncate 32)
    if x.len.val == 8 then s.msixStore (x.addr.toNat + 4) (w32 (v.toNat / 2 ^ 32)) else s

/-- A register write at an address of BAR0, or a denial of it. -/
def Dev.barWrite (s : Dev) (held : Option Dev) (x : Access) (v : W64) : Dev :=
  if s.hostShut x.req then { s with arming := s.arming.set x.req false }.emit (.unsupported x.req true)
  else if inMsix x.addr.toNat then s.msixWrite x v
  else
    let r := regAt x.normal
    match s.denied x true (r.isSome || inMsix x.normal) with
    | some e => s.denyWrite x e
    | none => match r with
      | none => s
      | some (d, c, i) => s.wordWrite held x.req d c i (v.truncate 32)

/-- A register write in any space. -/
def Dev.accessWrite (s : Dev) (held : Option Dev) (x : Access) (v : W64) : Dev :=
  match x.space with
  | .bar0 => s.barWrite held x v
  | .bar4 => s.userWrite x
  | .config => s.configWrite x (v.truncate 32)

/-! ### Reads by address. -/

/-- A read of the MSI-X table or the PBA. -/
def Dev.msixRead (s : Dev) (x : Access) : Dev :=
  if !msixFits x then s.deny x false (.bus 4)
  else if !s.bases then s.deny x false (.abort 6)
  else
    let lo := (s.msixWord x.addr.toNat).toNat
    let hi := if x.len.val == 8 then (s.msixWord (x.addr.toNat + 4)).toNat else 0
    (s.count bPCI 1 0 1 x.req.attr).emit (.readData x.req (BitVec.ofNat 64 (lo + 2 ^ 32 * hi)))

/-- A register read at an address of BAR0 (R42, R45, R57). -/
def Dev.barRead (s : Dev) (x : Access) : Dev :=
  let a := x.addr.toNat
  if s.hostShut x.req then s.emit (.unsupported x.req false)
  else if inMsix a then s.msixRead x
  else
    let r := regAt x.normal
    match s.denied x false (r.isSome || inMsix x.normal) with
    | some e => s.deny x false e
    | none =>
      let s := s.count (a / windowSize) 1 (slotOf a) 1 x.req.attr
      match r with
      | none => s.emit (.readData x.req ((s.msixWord x.normal).zeroExtend 64))
      | some (d, c, i) =>
        let y := s.regRead x.req d c i (decide (0x400000 ≤ a % windowSize))
        y.1.emit (.readData x.req (y.2.zeroExtend 64))

/-- A register read in any space. -/
def Dev.accessRead (s : Dev) (x : Access) : Dev :=
  match x.space with
  | .bar0 => s.barRead x
  | .bar4 => s.userRead x
  | .config => s.configRead x

/-! ### Commands. -/

/-- REGISTER_WRITE (R45): a write by address; a register with a command of its own acts as that command gives. -/
def execRegisterWrite (x : Access) (v : W64) (s : State) : Host.Outcome State Fault Refusal :=
  s.on fun d => d.accessWrite s.latched x v
/-- ACCESS_TIME_LIMIT (R55): a read receives Completer Abort, a write is discarded; both are logged. An access that raises a bus error, or is aborted at once (R54), ends so instead (R57). -/
def execAccessTimeLimit (x : Access) (write : Bool) (s : State) : Host.Outcome State Fault Refusal :=
  s.on fun d =>
    if x.space != .bar0 || d.hostShut x.req then d
    else match if inMsix x.addr.toNat then none else d.denied x write ((regAt x.normal).isSome || inMsix x.normal) with
    | some e => if write then d.denyWrite x e else d.deny x false e
    | none =>
      let d := if write then { d with arming := d.arming.set x.req false } else d.emit (.abort x.req false)
      d.logErr 5 x.addr.toNat write (decide (0x400000 ≤ x.addr.toNat % windowSize)) x.req
/-- WING_WRITE (R48, R50): a write at an offset that names a register with staged fields. -/
def execWingWrite (q : Req) (a : BitVec 28) (v : W32) (s : State) : Host.Outcome State Fault Refusal :=
  s.on fun d => match regAt a.toNat with
    | some (r, c, i) => if r.rs != 0 && a.toNat % windowSize < 0x400000 then d.gatePlain q r c i v else d
    | none => d
/-- STROBE_MAP_WRITE (R49). -/
def execStrobeMapWrite (q : Req) (b : Fin 29) (v : W32) (s : State) : Host.Outcome State Fault Refusal :=
  s.on fun d => d.gateWrite q Reg.STROBE_MAP 0 b fun d _ => d.mapSet b v
/-- MBX_READ (R59, R60): a write of MBX_CMD with OP 1, `count` words less one. -/
def execMbxRead (q : Req) (b : Fin 29) (count : Fin 8) (obj tag : Byte) (sub : Fin 128) (err : Bool) (s : State) : Host.Outcome State Fault Refusal :=
  s.on fun d => d.mbxCmd s.latched q b (at_ 0 4 1 ||| at_ 4 3 count ||| at_ 8 8 obj.toNat ||| at_ 16 8 tag.toNat) sub err
/-- MBX_WRITE (R59, R60): with OP 2; the words are those of MBX_DATA. -/
def execMbxWrite (q : Req) (b : Fin 29) (count : Fin 8) (obj tag : Byte) (s : State) : Host.Outcome State Fault Refusal :=
  s.on fun d => d.mbxCmd s.latched q b (at_ 0 4 2 ||| at_ 4 3 count ||| at_ 8 8 obj.toNat ||| at_ 16 8 tag.toNat) 0 false
/-- MBX_COMPLETE (R60, R61). -/
def execMbxComplete (b : Fin 29) (s : State) : Host.Outcome State Fault Refusal :=
  s.on fun d => d.mbxEnd b (((d.mbx.find? fun e => e.1 == b.val).map fun e => e.2.ecode).getD 0)
/-- MBX_TIME_LIMIT (R61). -/
def execMbxTimeLimit (b : Fin 29) (s : State) : Host.Outcome State Fault Refusal := s.on fun d => d.mbxEnd b 5
/-- UNLOCK_ARM (R63). -/
def execUnlockArm (q : Req) (s : State) : Host.Outcome State Fault Refusal := s.on fun d => d.unlockWrite q 0xC4D3
/-- UNLOCK_DISARM (R64): a write of another value to KEY. -/
def execUnlockDisarm (q : Req) (key : BitVec 16) (s : State) : Host.Outcome State Fault Refusal := s.on fun d => d.unlockWrite q key.toNat
/-- UNLOCK_LAPSE (R64). -/
def execUnlockLapse (q : Req) (s : State) : Host.Outcome State Fault Refusal := s.on fun d => { d with arming := d.arming.set q false }
/-- REGISTER_READ (R42, R45, R57). -/
def execRegisterRead (x : Access) (s : State) : Host.Outcome State Fault Refusal := s.on fun d => d.accessRead x

end Sys2Proof.Machine
end

