-- ==== Sys2Proof/Machine/Dovetail.lean ====
section
/-! DEFINITION. The Dovetail: crossings packed into flits, issue in rotation, delivery, replay, bundles out of the rotation (R10, R12, R14–R19). -/
namespace Sys2Proof.Machine

/-! ### Packing and issue (R12, R14, R15). -/

/-- The next crossing begins to be packed: F→T the one that the arbitration takes, T→F the oldest packet that egress has selected, once its tail has come (R14). Answers whether there was one. -/
def Dev.packNext (s : Dev) (dir : Nat) : Dev × Bool :=
  if dir == 0 then
    match s.takeCrossing with
    | none => (s, false)
    | some (x, s) =>
      let bs := s.crossing x.ticket x.frame
      let fin := s.dvtFT.packed + bs.length
      ({ s with dvtFT := { s.dvtFT with pack := s.dvtFT.pack ++ bs, packed := fin }, tm := { s.tm with packed := s.tm.packed ++ [(x, fin)] } }, true)
  else
    match s.tm.toEgress.span fun k => k.fin.isSome with
    | (_, []) => (s, false)
    | (l, k :: r) =>
      if k.pend.isSome then (s, false)
      else
        let bs := s.crossing k.ticket k.frame
        let fin := s.dvtTF.packed + bs.length
        let k := { k with ticket := k.ticket.crossed s.carried, fin := some fin }
        ({ s with dvtTF := { s.dvtTF with pack := s.dvtTF.pack ++ bs, packed := fin }, tm := { s.tm with toEgress := l ++ k :: r } }, true)

/-- Pack crossings back to back until a flit is full or none waits (R12); `fuel` bounds the crossings. -/
def Dev.packFlit (s : Dev) (dir : Nat) : Nat → Dev
  | 0 => s
  | fuel + 1 =>
    if 248 ≤ (s.dvt dir).pack.length then s
    else
      let r := s.packNext dir
      if r.2 then r.1.packFlit dir fuel else r.1

/-- The sender issues its next flit on the next bundle of the rotation, with up to 248 crossing bytes (R10, R12, R15); a bundle whose 512 flits are unacknowledged issues none (R16). -/
def Dev.issueFlit (s : Dev) (dir : Nat) : Dev :=
  let s := s.packFlit dir 8
  let x := s.dvt dir
  match x.after x.last with
  | none => s
  | some b =>
    if 512 ≤ (x.replayBuf.filter fun f => f.bundle == b).length then s
    else s.setDvt dir { x with pack := x.pack.drop 248, sent := x.sent + 1, last := b,
                               replayBuf := x.replayBuf ++ [{ bundle := b, seq := x.sent, data := x.pack.take 248 }] }

/-- The flits up to number `seq` are issued, as far as the replay buffers allow: at most 512 on each of 16 bundles (log entry 14). -/
def Dev.issueThrough (s : Dev) (dir seq : Nat) : Dev :=
  foldN (min (seq + 1 - (s.dvt dir).sent) 8192) (fun _ s => s.issueFlit dir) s

/-! ### Reception (R10, R15, R16). -/

/-- The CRC of a flit covers bytes 0–251 and stands in bytes 252–255, in network order (R8, R10). -/
def flitCrcOk (flit : List Byte) : Bool := crc32c (flit.take 252) == BitVec.ofNat 32 (ofBe (slice flit 252 4))

/-- A flit arrives as it was issued: its CRC holds and bytes 0–247 are the crossing bytes packed into it, the rest 0 (R10, R12; log entry 22). -/
def DvtDir.intact (x : DvtDir) (b seq : Nat) (flit : List Byte) : Bool :=
  flitCrcOk flit && (match x.replayBuf.find? fun f => f.seq == seq with
    | some f => f.bundle == b && slice flit 0 248 == slice f.data 0 248
    | none => decide (seq < x.next))

/-- Deliver the flits held behind `next`, in issue order (R15, R16): the next number, the bytes delivered, what is still held. -/
def deliverHeld : Nat → Nat → Nat → List (Nat × Nat) → Nat × Nat × List (Nat × Nat)
  | 0, next, got, held => (next, got, held)
  | fuel + 1, next, got, held =>
    match held.find? fun e => e.1 == next with
    | some e => deliverHeld fuel (next + 1) (got + e.2) (merase held next)
    | none => (next, got, held)

/-- An intact flit `seq` that carries `n` crossing bytes is taken: one delivered before is discarded; the awaited one is delivered with those held behind it; a later one waits (R15, R16). -/
def DvtDir.take (x : DvtDir) (b seq n : Nat) : DvtDir :=
  if seq < x.next then x
  else if seq == x.next then
    let r := deliverHeld x.held.length (seq + 1) (x.delivered + n) x.held
    { x with next := r.1, delivered := r.2.1, held := r.2.2, waiting := !r.2.2.isEmpty, replays := merase x.replays b }
  else { x with held := minsert x.held seq n }

/-- A flit arrives on bundle `b` of direction `dir` (0 F→T): delivered in issue order, or discarded with a request for its replay (R15, R16). A bundle out of the rotation carries none (R18).
DESIGN CHOICE (log entry 22): `ack` acknowledges every flit of the other direction, whatever its bundle, up to and including number `ack`. -/
def Dev.flitReceive (s : Dev) (dir b seq ack : Nat) (flit : List Byte) : Dev :=
  if (s.dvt dir).out.contains b then s
  else
    let s := (s.issueThrough dir seq).count bDVT (0x10 + dir) 0 1
    let x := s.dvt dir
    if !x.intact b seq flit then
      ((s.setDvt dir { x with waiting := true }).bumpReg Reg.DVT_CNT_CRC 0 dir 1).emit (.replayRequest dir seq)
    else
      let n := ((x.replayBuf.find? fun f => f.seq == seq).map fun f => f.data.length).getD 0
      let s := s.setDvt dir (x.take b seq n)
      let y := s.dvt (1 - dir)
      s.setDvt (1 - dir) { y with replayBuf := y.replayBuf.filter fun f => decide (ack < f.seq) }

/-! ### Replay and degradation (R16–R19). -/

/-- A replay request reaches the sender of direction `dir` for a flit of bundle `b` (R16). -/
def Dev.replayRequest (s : Dev) (dir b seq : Nat) : Dev :=
  let x := s.dvt dir
  let n := match x.replays.find? fun e => e.1 == b with
    | some e => if e.2.1 == seq then e.2.2 + 1 else 1
    | none => 1
  let s := s.setDvt dir { x with replays := minsert x.replays b (seq, n) }
  let s := (x.replayBuf.filter fun f => decide (seq ≤ f.seq)).foldl (fun s f => s.emit (.flitResend dir f.bundle f.seq f.data)) s
  (s.bumpReg Reg.DVT_CNT_REPLAY 0 dir 1).count bDVT 0x12 0 1

/-- A bundle leaves the rotation after 16 replays of one flit, or on loss of lock (R18, R19). -/
def Dev.bundleLeaveRotation (s : Dev) (dir b : Nat) (lost : Bool) : Dev :=
  let n := match (s.dvt dir).replays.find? fun e => e.1 == b with
    | some e => e.2.2
    | none => 0
  if lost || decide (16 ≤ n) then s.bundleOut dir b else s

/-- A bundle's retraining ends (R18, R19). -/
def Dev.bundleRetrained (s : Dev) (dir b : Nat) (ok : Bool) : Dev :=
  let x := s.dvt dir
  if !x.out.contains b then s
  else if !ok then
    (s.wf Reg.DVT_LINK_STATUS 0 dir 0 3 4).detect 9 dovetailUnit
  else if s.int.units.contains (bundleUnit dir b).code.toNat then s
  else
    let s := s.setDvt dir { x with out := delKey x.out b }
    let v := setBit (s.rg Reg.DVT_LINK_STATUS 0 dir) (16 + b) true
    let st := if fld v 0 3 == 4 then 4 else if (delKey x.out b).isEmpty then 2 else 3
    s.wg Reg.DVT_LINK_STATUS 0 dir (setFld v 0 3 st)

/-! ### Commands. -/

/-- FLIT_RECEIVE (R10, R15, R16). -/
def execFlitReceive (dir : Fin 2) (b : Fin 16) (seq ack : W32) (flit : List Byte) (s : State) : Host.Outcome State Fault Refusal :=
  s.on fun d => d.flitReceive dir b seq.toNat ack.toNat flit

/-- REPLAY_REQUEST (R16). -/
def execReplayRequest (dir : Fin 2) (b : Fin 16) (seq : W32) (s : State) : Host.Outcome State Fault Refusal :=
  s.on fun d => d.replayRequest dir b seq.toNat

/-- BUNDLE_LEAVE_ROTATION (R18, R19). -/
def execBundleLeaveRotation (dir : Fin 2) (b : Fin 16) (lost : Bool) (s : State) : Host.Outcome State Fault Refusal :=
  s.on fun d => d.bundleLeaveRotation dir b lost

/-- BUNDLE_RETRAIN_COMPLETE (R18, R19). -/
def execBundleRetrainComplete (dir : Fin 2) (b : Fin 16) (ok : Bool) (s : State) : Host.Outcome State Fault Refusal :=
  s.on fun d => d.bundleRetrained dir b ok

end Sys2Proof.Machine
end

