-- ==== Sys2Proof/Machine/Egress.lean ====
section
/-! DEFINITION. The egress pipeline and the transmit MAC: reparse, lookups, rewrite programs, stamps, protection, transmission (R119, R158, R329–R336). -/
namespace Sys2Proof.Machine

/-! ### Checksums (RFC 791, RFC 1624; IEEE 802.3 clause 3). -/

/-- Fold a sum of 16-bit words into 16 bits with end-around carry; `fuel` bounds the folds. -/
def fold16 : Nat → Nat → Nat
  | 0, n => n % 65536
  | fuel + 1, n => if n < 65536 then n else fold16 fuel (n % 65536 + n / 65536)

/-- The ones' complement sum of a byte list's 16-bit network-order words. -/
def sum16 : Nat → List Byte → Nat
  | 0, _ => 0
  | fuel + 1, bs => if bs.isEmpty then 0 else ofBe (slice bs 0 2) + sum16 fuel (bs.drop 2)

/-- The length of the IPv4 header at offset `h`, when it lies within the frame. -/
def ip4Len (f : List Byte) (h : Nat) : Option Nat :=
  let n := (f.getD h 0).toNat % 16 * 4
  if 20 ≤ n && h + n ≤ f.length then some n else none

/-- The frame with the IPv4 header checksum at `h` computed anew (CSUM4). -/
def csum4 (f : List Byte) (h n : Nat) : List Byte :=
  let f := patch f (h + 10) [0, 0]
  patch f (h + 10) (beBytes 2 (65535 - fold16 8 (sum16 64 (slice f h n))))

/-- The frame with a 16-bit checksum at `at0` corrected for 16-bit words that went from `old` to `new` (RFC 1624). -/
def csumFix (f : List Byte) (at0 : Nat) (old new : List Byte) : List Byte :=
  let hc := ofBe (slice f at0 2)
  let n := (old.length + 1) / 2
  patch f at0 (beBytes 2 (65535 - fold16 8 (65535 - hc + (65535 * n - sum16 n old) + sum16 n new)))

/-- One bit of the frame check sequence. -/
def fcsStep (c : W32) : W32 := if c.getLsbD 0 then (c >>> 1) ^^^ 0xEDB88320#32 else c >>> 1
def fcsByte (c : W32) (b : Byte) : W32 :=
  fcsStep (fcsStep (fcsStep (fcsStep (fcsStep (fcsStep (fcsStep (fcsStep (c ^^^ b.zeroExtend 32))))))))
/-- The four FCS bytes of a frame (IEEE 802.3). -/
def fcs (f : List Byte) : List Byte := leBytes 4 (~~~(f.foldl fcsByte 0xFFFFFFFF#32)).toNat

/-! ### The egress pass (R329–R333). -/

/-- What an egress pass works on: the port, its book, the parse's field vector and PRESENT. -/
structure EgCtx where
  port : Nat
  book : Book
  fv : List Byte
  present : Nat
  deriving DecidableEq, Repr

/-- A frame being rewritten: header offsets, PARSE_END, metadata, counts, marks. -/
structure EgPass where
  dev : Dev
  frame : List Byte
  heads : List Nat
  fin : Nat
  /-- Metadata bytes 0–65 and PARSE_RESULT; the rest follows the headers. -/
  base : List Byte
  result : Nat
  /-- The frame's length at entry. -/
  size : Nat
  nCnt : Nat := 0
  drop : Bool := false
  insert : Option (Nat × Nat × Option Nat) := none
  capture : Option Nat := none
  deriving DecidableEq, Repr

/-- The 96 bytes of egress metadata (R330). -/
def EgPass.md (p : EgPass) : List Byte :=
  p.base ++ beBytes 2 p.fin ++ [BitVec.ofNat 8 p.result, BitVec.ofNat 8 p.heads.length, 0, 0] ++ slice (p.heads.map (BitVec.ofNat 8)) 0 24

/-- The offset of header `a`, or PARSE_END for 31 (R332). -/
def EgPass.head? (p : EgPass) (a : Nat) : Option Nat := if a == 31 then some p.fin else p.heads[a]?

/-- A bad reference, or a PUSH that is skipped (R333, R336). -/
def EgPass.bad (p : EgPass) (c : EgCtx) : EgPass := { p with dev := p.dev.bump bEPP 1 c.port 3 1 }

/-- A position after `n` bytes came in at `h`, or after the bytes from `h` to `stop` went. -/
def posIn (h n x : Nat) : Nat := if h ≤ x then x + n else x
def posOut (h stop x : Nat) : Nat := if stop ≤ x then x - (stop - h) else min x h

/-- Marked positions follow the frame. -/
def EgPass.moveMark (p : EgPass) (f : Nat → Nat) : EgPass :=
  { p with insert := p.insert.map fun m => (m.1, f m.2.1, m.2.2.map f) }

/-- PUSH (R332, R333). -/
def EgPass.push (p : EgPass) (c : EgCtx) (a h n : Nat) (bytes : List Byte) : EgPass :=
  if p.size + 64 < p.frame.length + n then p.bad c
  else
    let heads := if a == 31 then p.heads else p.heads.take a ++ (p.heads.drop a).map (· + n)
    { p with frame := p.frame.take h ++ slice bytes 0 n ++ p.frame.drop h, heads := heads, fin := p.fin + n }.moveMark (posIn h n)

/-- POP (R332): headers `a` to `a + n − 1` go. -/
def EgPass.pop (p : EgPass) (c : EgCtx) (a h n : Nat) : EgPass :=
  if a == 31 || p.heads.length < a + n then p.bad c
  else
    let stop := (p.heads[a + n]?).getD p.fin
    let cut := stop - h
    { p with frame := p.frame.take h ++ p.frame.drop stop, heads := p.heads.take a ++ (p.heads.drop (a + n)).map (· - cut),
             fin := p.fin - cut }.moveMark (posOut h stop)

/-- Overwrite bytes, or a bad reference when they lie beyond the frame. -/
def EgPass.over (p : EgPass) (c : EgCtx) (off : Nat) (v : List Byte) : EgPass :=
  if p.frame.length < off + v.length then p.bad c else { p with frame := patch p.frame off v }

/-- DEC_TTL (R332). -/
def EgPass.decTtl (p : EgPass) (c : EgCtx) (h : Nat) (v6 : Bool) : EgPass :=
  let pos := h + (if v6 then 7 else 8)
  if p.frame.length ≤ pos || (!v6 && (ip4Len p.frame h).isNone) then p.bad c
  else
    let v := (p.frame.getD pos 0).toNat
    if v ≤ 1 then { p with drop := true }
    else
      let f := patch p.frame pos [BitVec.ofNat 8 (v - 1)]
      { p with frame := if v6 then f else csumFix f (h + 10) (slice p.frame (h + 8) 2) (slice f (h + 8) 2) }

/-- SET_CE (R332). -/
def EgPass.setCe (p : EgPass) (c : EgCtx) (h : Nat) (v6 : Bool) : EgPass :=
  if p.frame.length < h + 2 || (!v6 && (ip4Len p.frame h).isNone) then p.bad c
  else
    let b := (p.frame.getD (h + 1) 0).toNat
    let sh := if v6 then 16 else 1
    if b / sh % 4 == 1 || b / sh % 4 == 2 then
      let f := patch p.frame (h + 1) [BitVec.ofNat 8 (b ||| 3 * sh)]
      { p with frame := if v6 then f else csumFix f (h + 10) (slice p.frame h 2) (slice f h 2) }
    else p

/-- TS_INSERT (R332, R335): the mark keeps the places that the headers have now. -/
def EgPass.tsInsert (p : EgPass) (c : EgCtx) (h mode : Nat) (imm : W32) : EgPass :=
  let mark (u : Option Nat) : EgPass := if mode == 1 || mode == 2 then { p with insert := some (mode, h + fld imm 0 8, u) } else p
  if !bit imm 13 then mark none
  else match p.head? (fld imm 8 5) with
    | none => p.bad c
    | some u => mark (some u)

/-- One instruction other than END, DROP and SKIP_IF (R332). -/
def EgPass.instr (p : EgPass) (c : EgCtx) (rd : List Byte) (i : PInstr) : EgPass :=
  let op := fld i.w0 0 8
  let a := fld i.w0 8 8
  let b := fld i.w0 16 16
  if op == 0x0C then
    if 4 ≤ p.nCnt then p else { p with nCnt := p.nCnt + 1, dev := p.dev.statAdd (fld i.imm 0 26) 1 (p.frame.length + 4) }
  else if op == 0x28 then { p with capture := some (fld i.imm 0 16) }
  else match p.head? a with
    | none => p.bad c
    | some h =>
      let sel := selBytes c.fv p.md rd i.imm
      if op == 0x20 then p.push c a h (b % 64) sel
      else if op == 0x21 then p.pop c a h (b % 16)
      else if op == 0x22 then p.over c (h + b % 256) sel
      else if op == 0x23 then p.over c (h + b % 256) (beBytes (b / 256 % 4 + 1) i.imm.toNat)
      else if op == 0x24 then p.decTtl c h (b % 2 == 1)
      else if op == 0x25 then match ip4Len p.frame h with
        | some n => { p with frame := csum4 p.frame h n }
        | none => p.bad c
      else if op == 0x26 then p.setCe c h (b % 2 == 1)
      else if op == 0x27 then p.tsInsert c h (b % 4) i.imm
      else p

/-- Run an egress program (R187, R333). -/
def EgPass.run (c : EgCtx) (rd : List Byte) : Nat → Nat → EgPass → EgPass
  | 0, _, p => p
  | fuel + 1, pc, p =>
    let i := c.book.eprog.getD (pc % 16384) { w0 := 0, imm := 0 }
    let op := fld i.w0 0 8
    if op == 0 || p.drop then p
    else if op == 0x0A then { p with drop := true }
    else if op == 0x13 then
      let skip := if (c.present / 2 ^ fld i.w0 8 6 % 2 == 1) != bit i.w0 23 then fld i.w0 16 5 else 0
      EgPass.run c rd fuel (pc + 1 + skip) p
    else EgPass.run c rd fuel (pc + 1) (p.instr c rd i)

/-- A slot of the egress stage map (R331): an exact-match lookup without a hit bit, or a program. -/
def EgPass.slot (c : EgCtx) (stage : Nat) (p : EgPass) : EgPass :=
  match c.book.emap.find? fun e => e.stage == stage with
  | none => p
  | some e =>
    let present := c.present / 2 ^ e.condHdr % 2 == 1
    if p.drop || (e.cond == 1 && !present) || (e.cond == 2 && present) || 3 ≤ e.cond then p
    else if e.kind == 4 then (if e.hitProg == 0x3FFF then p else EgPass.run c [] 32 e.hitProg p)
    else if e.kind != 2 then p
    else match c.book.table? e.table with
      | none => p
      | some t =>
        let d := (p.dev.bump bEXM 1 t.id 0 1).count bEXM 0x10 0 1
        match d.exmFind (d.rep (c.port / 128)) t (left128 (selKey c.fv p.md [] t.exmSel)) with
        | none => if e.missProg == 0x3FFF then { p with dev := d } else EgPass.run c [] 32 e.missProg { p with dev := d }
        | some (_, x) =>
          let p := { p with dev := d.bump bEXM 1 t.id 1 1 }
          if e.hitProg == 0x3FFF then p else EgPass.run c ((exmResult x).drop 2) 32 (e.hitProg + x.prog) p

/-- The egress pass of a packet under a book. -/
def Dev.egressPass (s : Dev) (b : Book) (k : EgPkt) : EgPass :=
  let q := b.parse k.frame
  let c : EgCtx := { port := k.port, book := b, fv := q.fv, present := q.present }
  let flags := k.replica.toNat + 2 * k.mirrored.toNat + 4 * k.cut.toNat
  let p : EgPass := { dev := s, frame := k.frame, heads := q.heads, fin := q.fin, result := q.result, size := k.frame.length,
                      base := k.ticket.bytes ++ [BitVec.ofNat 8 k.port, BitVec.ofNat 8 flags] }
  (List.range 8).foldl (fun p m => EgPass.slot c m p) p

/-- A packet's egress section ends without transmission. -/
def Dev.egressEnd (s : Dev) (k : EgPkt) : Dev := s.houseOut k.ticket.epoch.toNat 1

/-- The crossing that leaves the Dovetail next in direction T→F: the one selected first, once the flits have delivered it whole (R14, R15). -/
def Dev.crossingOut (s : Dev) : Option EgPkt :=
  match s.tm.toEgress with
  | [] => none
  | k :: _ => match k.fin with
    | none => none
    | some n => if n ≤ s.dvtTF.delivered then some k else none

/-- The crossing that leaves the Dovetail next enters the egress pipeline, if it is for port `p` (R15, R89, R329). -/
def Dev.egressEntry (s : Dev) (p : Nat) : Dev :=
  match s.crossingOut with
  | none => s
  | some k =>
      if k.port != p then s
      else
        let s := { s with tm := { s.tm with toEgress := s.tm.toEgress.tail } }
        if s.quarantined k.ticket.epoch.toNat then (s.egressEnd k).countStale false
        else
          let s := (s.bump bEPP 1 p 0 1).count bEPP 0x10 (p / 16) 1 { tc := some k.ticket.tc.toNat, port := some p }
          let q : EgPass := match s.bookOf k.ticket.epoch.toNat with
            | some b => s.egressPass b k
            | none => { dev := s, frame := k.frame, heads := [], fin := 0, base := [], result := 0, size := 0 }
          let s := q.dev
          if q.drop then ((s.bump bEPP 1 p 1 1).event bEPP 0).egressEnd k
          else if max 1518 (min 9600 (fld (s.cfg k.since Reg.LNP_PORT_CFG (p / 16) (p % 16)) 8 14)) < q.frame.length + 4 then
            ((s.bump bEPP 1 p 2 1).event bEPP 1).egressEnd k
          else
            let f := if q.frame.length < 60 then slice q.frame 0 60 else q.frame
            { s with tm := { s.tm with toLine := s.tm.toLine ++
                [{ port := p, queue := k.queue, frame := f, ticket := k.ticket, since := k.since, insert := q.insert, capture := q.capture }] } }

/-! ### Transmission (R119, R158, R335). -/

/-- The frame with a stamp or residence time written at `off`, its UDP checksum corrected for the change. -/
def stampInto (f : List Byte) (off : Nat) (v : List Byte) (udp : Option Nat) : List Byte :=
  let g := patch f off v
  match udp with
  | none => g
  | some u =>
    let at0 := u + 6
    if f.length < at0 + 2 || ofBe (slice f at0 2) == 0 then g
    else
      -- 16-bit words aligned to the UDP header that hold the field
      let odd := (off + u) % 2
      let lo := off - odd
      let n := v.length + odd + (v.length + odd) % 2
      let r := csumFix g at0 (slice f lo n) (slice g lo n)
      if ofBe (slice r at0 2) == 0 then patch r at0 [0xFF, 0xFF] else r

/-- Insertion of a stamp at transmission (R335). -/
def Dev.tsApply (s : Dev) (t : TxFrame) (sec ns : Nat) : Dev × List Byte :=
  match t.insert with
  | none => (s, t.frame)
  | some (mode, off, udp) =>
    let len := if mode == 1 then 10 else 8
    let skip (k : Nat) : Dev × List Byte := ((s.bump bEPP 2 t.port k 1).event bEPP 2, t.frame)
    if s.protectedAt t.since t.port then skip 2
    else if 256 < off + len || t.frame.length < off + len || (mode == 2 && t.ticket.tsNs == 0 && t.ticket.tsSec == 0)
        || !bit (s.cfg t.since Reg.EPP_PORT_CFG (t.port / 16) (t.port % 16)) 0 then skip 3
    else if mode == 1 then (s.bump bEPP 2 t.port 0 1, stampInto t.frame off (beBytes 6 sec ++ beBytes 4 ns) udp)
    else
      let dsec := (sec + 2 ^ 32 - t.ticket.tsSec.toNat) % 2 ^ 32
      let res : Int := ((dsec * 1000000000 + ns : Nat) : Int) - (t.ticket.tsNs.toNat : Int)
      let v : BitVec 64 := BitVec.ofNat 64 (ofBe (slice t.frame off 8)) + BitVec.ofInt 64 (res * 65536)
      (s.bump bEPP 2 t.port 1 1, stampInto t.frame off (beBytes 8 v.toNat) udp)

/-- Capture a transmit stamp in the port's FIFO (R119). -/
def Dev.tsCapture (s : Dev) (p sec ns tag : Nat) : Dev :=
  let x := s.port p
  if 64 ≤ x.stamps.length then s.event bLNP 8 else s.setPort p { x with stamps := x.stamps ++ [(ns, sec, tag)] }

/-- A frame with its FCS as 64B/66B blocks, behind a preamble and SFD (R113, R144). -/
def macBlocks (f : List Byte) : List Block :=
  let n := f.length / 8
  Block.start (List.replicate 6 0x55 ++ [0xD5]) :: (List.range n).map (fun i => Block.data (slice f (8 * i) 8)) ++ [.term (f.drop (8 * n)), .idle]

/-- A frame leaves the MAC of port `p` (R113, R116, R144): onto the line, on a FlexO port as blocks of its ODUflex; under LOOP 1 into the port's own receiver; under LOOP 2 the port's own data is not sent. -/
def Dev.macSend (s : Dev) (p sub : Nat) (data : List Byte) : Dev :=
  if s.loopNear p then s.macReceive p data true false none sub
  else if s.loopFar p then s
  else
    let f := data ++ fcs data
    let s := s.emit (.frame p f)
    if s.portMode p == 6 then s.setOtf p { s.otf1 p with txBlocks := (s.otf1 p).txBlocks ++ macBlocks f } else s

/-- The oldest frame of port `p` leaves on the line, its first bit `sub` ns after the latest tick. `agree`: the cipher lanes disagree after so many bytes (R169). -/
def Dev.frameTransmit (s : Dev) (p sub : Nat) (agree : Option Nat) : Dev :=
  match s.tm.toLine.findIdx? fun t => t.port == p with
  | none => s
  | some i =>
    match s.tm.toLine[i]? with
    | none => s
    | some t =>
      let e := t.ticket.epoch.toNat
      let s := { s with tm := { s.tm with toLine := s.tm.toLine.eraseIdx i } }
      if !s.portUp p then s.houseOut e 1
      else
        let (sec, ns) := s.timeIn sub
        let (s, f) := s.tsApply t sec ns
        let sent (s : Dev) (data : List Byte) : Dev :=
          let s := match t.capture with | some tag => s.tsCapture p sec ns tag | none => s
          -- the queue's transmitted bytes are those of the rewritten frame with its FCS (log entry 61); the range source counts FRAME_LEN (R448)
          let s := (s.bump bSCH 0x10 t.queue 0 1).bump bSCH 0x10 t.queue 1 (t.frame.length + 4)
          let s := s.statRange e 2 t.queue (lenOf t.ticket t.frame)
          let s := (s.bump bLNP 2 p 0 1).bump bLNP 2 p 1 (data.length + 4)
          (s.macSend p sub data).houseOut e 1
        if !s.protectedAt t.since p then sent s f
        else match s.protect p f agree with
          | (s, .sent data) => sent s data
          | (s, .dropped) => s.houseOut e 1
          | (s, .cut data) =>
            let s := if s.loopNear p then s.macReceive p data false false none sub else if s.loopFar p then s else s.emit (.frameAborted p data)
            s.houseOut e 1

/-! ### Commands. -/

/-- EGRESS_PIPELINE_ENTRY (R329). -/
def execEgressPipelineEntry (p : Fin 256) (s : State) : Host.Outcome State Fault Refusal := s.on fun d => d.egressEntry p

/-- FRAME_TRANSMIT (R119, R158, R169, R335). -/
def execFrameTransmit (p : Fin 256) (sub : Fin 128) (agree : Option (BitVec 14)) (s : State) : Host.Outcome State Fault Refusal :=
  s.on fun d => d.frameTransmit p sub (agree.map BitVec.toNat)

end Sys2Proof.Machine
end

