-- ==== Sys2Proof/Machine/Exact.lean ====
section
/-! DEFINITION. The exact-match store: insertion with relocation, rehash, learning and aging (R220–R228). -/
namespace Sys2Proof.Machine

/-! ### Insertion (R221, R223). -/

/-- The GEN bit that entries under the active seed carry, and under the seed that insertions use now (R223). -/
def Dev.genActive (s : Dev) (t : Nat) : Bool := s.tbl.gens.contains t
def Dev.genInto (s : Dev) (t : Nat) : Bool := s.genActive t != (s.rehash? t).isSome

/-- The seed under which insertions place keys (R223). -/
def Dev.seedInto (s : Dev) (t : TShape) : W32 := match s.rehash? t.id with | some r => r.target | none => s.seedOf t

/-- Candidates of a key under the seed for insertions. -/
def Dev.exmInto (s : Dev) (t : TShape) (key : Nat) : List Nat := exmCands t.id t.alloc (s.seedInto t) (selWidth t.exmSel) key

/-- One more move: each path whose last position is occupied by a movable entry goes on to that entry's other candidates, none seen before. Paths are newest position first. -/
def Dev.growPaths (s : Dev) (t : TShape) (r : Rep) (seen : List Nat) (paths : List (List Nat)) : List (List Nat) :=
  paths.flatMap fun p =>
    match r.exmAt (p.headD 0) with
    | none => []
    | some e =>
      if e.gen != s.genInto t.id then []
      else ((s.exmInto t e.key).filter fun q => !seen.contains q).map fun q => q :: p

/-- The relocation paths with the fewest moves, at most `fuel` (R221). -/
def Dev.freePaths (s : Dev) (t : TShape) (r : Rep) : Nat → List Nat → List (List Nat) → List (List Nat)
  | 0, _, _ => []
  | fuel + 1, seen, paths =>
    let done := paths.filter fun p => (r.exmAt (p.headD 0)).isNone
    if !done.isEmpty then done
    else
      let next := s.growPaths t r seen paths
      if next.isEmpty then [] else s.freePaths t r fuel (seen ++ next.map fun p => p.headD 0) next

/-- Move the entries of a path, given from its free end, and write the new entry last (R221). -/
def movePath (e : ExmEnt) : List Nat → Rep → Rep
  | [], r => r
  | [p], r => ({ r with exm := minsert r.exm p e } : Rep).unmark 4 p
  | p :: q :: rest, r =>
    let r := match r.exmAt q with
      | some x =>
        let m : Rep := { r with exm := minsert (merase r.exm q) p x }
        if r.isBad 4 q then { (m.unmark 4 q) with bad := badKey 4 p :: (m.unmark 4 q).bad } else m
      | none => r
    movePath e (q :: rest) r

/-- Insert an entry into the replicas that `region` names: the number of moves, or none when no path exists. The choice among free candidates, and among the paths with the fewest moves, is free (R221). -/
def Dev.exmInsert (s : Dev) (t : TShape) (region : Nat) (e : ExmEnt) : Dev × Option Nat :=
  let r := s.rep (if region == 0 then s.primary else region - 1)
  let start := s.exmInto t e.key
  match s.freePaths t r 33 start (start.map fun p => [p]) with
  | [] => (s, none)
  | l =>
    let (v, s) := s.fresh
    let path := l.getD (v.toNat % l.length) []
    let n := path.length - 1
    let s := s.writeReps region fun r => movePath { e with gen := s.genInto t.id } path r
    ((s.bump bEXM 1 t.id 3 n).count bEXM 0x11 0 n, some n)

/-- A refused insertion (R221, R223). -/
def Dev.exmRefused (s : Dev) (t : Nat) : Dev :=
  ((s.bump bEXM 1 t 2 1).wf Reg.EXM_TBL_STATUS 0 t 25 1 1).event bEXM 0

/-- Where a key lies in the replica that serves a command, unreadable or not. -/
def Dev.exmWhere (s : Dev) (r : Rep) (t : TShape) (key : Nat) : Option (Nat × ExmEnt) :=
  (s.exmAll t key).findSome? fun p => (r.exmAt p).bind fun e => if e.key == key then some (p, e) else none

/-! ### Commands on entries (R209, R221, R222). -/

/-- The key of a command, or status 1 for a bit beyond KW. -/
def exmKey (c : TwCmd) (t : TShape) : Except Nat Nat :=
  if tailZero (8 * selWidth t.exmSel) (c.n128 5) then .ok (c.n128 5) else .error 1

def Dev.exmSet (s : Dev) (c : TwCmd) : TwOut :=
  s.twTable c 2 true fun s t =>
    let mode := c.fld 2 0 2
    if mode == 3 || !c.only 2 0x103#32 || !c.zeroFrom 9 then (s, 1, [])
    else match exmKey c t with
      | .error st => (s, st, [])
      | .ok key =>
        let data := c.fld 3 16 16 * 2 ^ 32 + (c.word 4).toNat
        let prog := c.fld 3 0 16
        let static := bit (c.word 2) 8
        match s.exmWhere (s.rep (s.twRead c)) t key with
        | some (p, e) =>
          if mode == 0 then (s, 5, [])
          else (s.writeReps c.region fun r => ({ r with exm := minsert r.exm p { e with data := data, prog := prog, static := static } } : Rep).unmark 4 p, 0, [])
        | none =>
          if mode == 1 then (s, 6, [])
          else match s.exmInsert t c.region { key := key, data := data, prog := prog, static := static, hit := true, gen := false } with
            | (s, some n) => (s, 0, [at_ 0 6 n])
            | (s, none) => (s.exmRefused t.id, 9, [])

/-- Invalidate the entry at a position. -/
def Rep.exmDrop (r : Rep) (p : Nat) : Rep := ({ r with exm := merase r.exm p } : Rep).unmark 4 p

def Dev.exmDel (s : Dev) (c : TwCmd) : TwOut :=
  s.twTable c 2 true fun s t =>
    if !((List.range 3).all fun i => c.word (2 + i) == 0) || !c.zeroFrom 9 then (s, 1, [])
    else match exmKey c t with
      | .error st => (s, st, [])
      | .ok key => match s.exmWhere (s.rep (s.twRead c)) t key with
        | none => (s, 6, [])
        | some (p, _) => (s.writeReps c.region fun r => r.exmDrop p, 0, [])

def Dev.exmGet (s : Dev) (c : TwCmd) : TwOut :=
  s.twTable c 2 false fun s t =>
    if !((List.range 3).all fun i => c.word (2 + i) == 0) || !c.zeroFrom 9 then (s, 1, [])
    else match exmKey c t with
      | .error st => (s, st, [])
      | .ok key =>
        let r := s.rep (s.twRead c)
        match s.exmWhere r t key with
        | none => (s, 6, [])
        | some (p, e) =>
          if r.isBad 4 p then (s, 8, [])
          else (s, 0, [atB 8 e.static ||| atB 9 e.hit ||| atB 10 e.gen ||| at_ 12 2 (p / 2 ^ 20 % 4), at_ 16 16 (e.data / 2 ^ 32) ||| at_ 0 16 e.prog, w32 e.data]
            ++ w128 e.key ++ [w32 (p % 2 ^ 20)])

/-! ### Rehash (R223). -/

/-- The positions of a table in a replica. -/
def Rep.exmOf (r : Rep) (t : Nat) : List (Nat × ExmEnt) := r.exm.filter fun e => e.1 / 2 ^ 22 == t

/-- Entries still under the old seed. -/
def Dev.oldEntries (s : Dev) (t : Nat) : List (Nat × ExmEnt) := ((s.rep s.primary).exmOf t).filter fun e => e.2.gen == s.genActive t

/-- REHASH_START: the table enters dual-seed mode and the command waits for the migration's end, or is refused with status 10. -/
def Dev.rehashStart (s : Dev) (c : TwCmd) : TwOut × Bool :=
  let o := s.twTable c 2 true fun s t =>
    if !c.zeroFrom 3 then (s, 1, [])
    else if (s.rehash? t.id).isSome || c.word 2 == s.seedOf t then (s, 10, [])
    else (s.setRehash t.id (some { target := c.word 2, ring := c.ring, tag := c.tag }), 0, [])
  (o, o.2.1 == 0)

/-- REHASH_ABORT: the two seeds exchange their roles. -/
def Dev.rehashAbort (s : Dev) (c : TwCmd) : TwOut :=
  s.twTable c 2 true fun s t =>
    if !c.zeroFrom 2 then (s, 1, [])
    else match s.rehash? t.id with
      | none => (s, 10, [])
      | some r =>
        let old := s.seedOf t
        let s := { s with tbl := { s.tbl with seeds := if r.target == t.seed then merase s.tbl.seeds t.id else minsert s.tbl.seeds t.id r.target,
                                              gens := if s.genActive t.id then delKey s.tbl.gens t.id else addKey s.tbl.gens t.id } }
        (s.setRehash t.id (some { r with target := old, tried := [], moved := false }), 0, [])

/-- The Lead migrates one entry of table `t`: the first one still under the old seed that this pass has not tried; a pass that moved nothing is stuck. Migration writes both replicas, so it waits while a split changes the table (R108, log entry 125). -/
def Dev.rehashMigrate (s : Dev) (t : Nat) : Dev :=
  match s.rehash? t, s.shape? t s.primary with
  | some r, some sh =>
    if !s.leadRuns || s.splitNames t then s
    else match (s.oldEntries t).find? fun e => !r.tried.contains e.1 with
      | some (p, e) =>
        match s.exmInsert sh 0 e with
        | (s', some _) =>
          -- the old copy is invalidated; HIT is the OR of both copies
          (s'.writeReps 0 fun r => if (r.exmAt p).map (fun x => x.gen) == some (s.genActive t) then r.exmDrop p else r).setRehash t (some { r with moved := true })
        | (s', none) => s'.setRehash t (some { r with tried := p :: r.tried })
      | none =>
        if (s.oldEntries t).isEmpty then s
        else
          let s := s.setRehash t (some { r with tried := [], moved := false })
          if r.moved then s.wf Reg.EXM_TBL_STATUS 0 t 24 1 0 else (s.wf Reg.EXM_TBL_STATUS 0 t 24 1 1).event bEXM 2
  | _, _ => s

/-- A rehash completes: the target becomes the active seed and the waiting command is done. -/
def Dev.rehashComplete (s : Dev) (t : Nat) : Dev :=
  match s.rehash? t, s.shape? t s.primary with
  | some r, some sh =>
    if !(s.oldEntries t).isEmpty then s
    else
      let s := { s with tbl := { s.tbl with seeds := if r.target == sh.seed then merase s.tbl.seeds t else minsert s.tbl.seeds t r.target,
                                            gens := if s.genActive t then delKey s.tbl.gens t else addKey s.tbl.gens t } }
      s.rehashOver t
  | _, _ => s

/-! ### The learn filter (R225–R227). -/

/-- HOLD in ns. -/
def Dev.learnHold (s : Dev) : Nat := max 1 (s.rf Reg.EXM_LRN_CFG 0 0 0 8) * 100000

/-- A learn or age record (R227, R228): a ring without a free slot drops it. -/
def Dev.learnRecord (s : Dev) (kind klen table src prev : Nat) (prevTable : Bool) (key : Nat) : Dev :=
  let us := s.cue.sec * 1000000 + s.cue.ns / 1000
  let ws : List W32 := [0x10#32 ||| at_ 8 2 kind ||| at_ 16 7 table ||| at_ 24 5 klen, at_ 0 22 src, atB 31 prevTable ||| at_ 0 22 prev, w32 us] ++ w128 key
  let (s, dropped) := s.record (s.rf Reg.EXM_LRN_CFG 0 0 16 6) ws
  if dropped then (s.bump bEXM 2 0 5 1).event bEXM 5 else s.bump bEXM 2 0 0 1

/-- The oldest candidate reaches the filter (R225). Counters of EXM object 0x02: records sent, suppressed, flaps, filter-full drops, rate drops, ring drops. -/
def Dev.learnCandidate (s : Dev) : Dev :=
  match s.ing.cands with
  | [] => s
  | c :: rest =>
    let s := { s with ing := { s.ing with cands := rest } }
    if !bit (s.rg Reg.EXM_LRN_CFG 0 0) 31 then s
    else
      let now := s.cue.localNs
      let n := if s.tbl.rateMs == now / 1000000 then s.tbl.rateN else 0
      let s := { s with tbl := { s.tbl with rateMs := now / 1000000, rateN := n + 1 } }
      if max 1 (s.rf Reg.EXM_LRN_RATE 0 0 0 16) ≤ n then (s.bump bEXM 2 0 4 1).event bEXM 4
      else
        let live := s.tbl.filter.filter fun e => decide (now < e.time + s.learnHold)
        match live.find? fun e => e.table == c.table && e.key == c.key with
        | none =>
          if 16384 ≤ live.length then ({ s with tbl := { s.tbl with filter := live } }.bump bEXM 2 0 3 1).event bEXM 3
          else
            let made : LearnEnt := { table := c.table, key := c.key, src := c.src, time := now, moved := false }
            let s := { s with tbl := { s.tbl with filter := live ++ [made] } }
            s.learnRecord (if c.move then 2 else 1) c.klen c.table c.src c.prev c.move c.key
        | some e =>
          if e.src == c.src then s.bump bEXM 2 0 1 1
          else if e.moved then s.bump bEXM 2 0 2 1
          else
            let s := { s with tbl := { s.tbl with filter := live.map fun (x : LearnEnt) => if x == e then ({ e with src := c.src, moved := true, time := now } : LearnEnt) else x } }
            s.learnRecord 2 c.klen c.table c.src e.src false c.key

/-- Filter entries whose HOLD has passed cease to be live (R225). -/
def Dev.learnExpire (s : Dev) : Dev :=
  { s with tbl := { s.tbl with filter := s.tbl.filter.filter fun e => decide (s.cue.localNs < e.time + s.learnHold) } }

/-! ### Aging (R228, R404). -/

/-- One pass of the scan over table `t` in the replicas that `region` names: entries with HIT 0 that are not STATIC go, each with a record; the others lose HIT. -/
def Dev.agePass (s : Dev) (t : Nat) (first : Bool) (region : Nat) : Dev :=
  let at_ := if region == 0 then s.primary else region - 1
  let dead := if first then [] else ((s.rep at_).exmOf t).filter fun e => !e.2.static && !e.2.hit
  let clear (e : Nat × ExmEnt) : Nat × ExmEnt := if e.1 / 2 ^ 22 == t then (e.1, { e.2 with hit := false }) else e
  let s := s.writeReps region fun r => { r with exm := r.exm.map clear }
  dead.foldl (fun s e =>
    (s.writeReps region fun r => r.exmDrop e.1).learnRecord 3 (((s.shape? t at_).map fun x => selWidth x.exmSel).getD 0) t (e.2.data % 2 ^ 22) 0 false e.2.key) s

/-- The Lead scans table `t`; the first pass after a takeover deletes nothing. A table that an open split changes is scanned region by region, with each region's own entries (R108, log entry 125). -/
def Dev.agingScan (s : Dev) (t : Nat) : Dev :=
  match s.shape? t s.primary with
  | none => s
  | some sh =>
    if sh.tkind != 2 || s.rf Reg.EXM_TBL_AGE 0 t 0 16 == 0 || !s.leadRuns then s
    else
      let first := s.ccx.agingFirst.contains t
      let s := { s with ccx := { s.ccx with agingFirst := delKey s.ccx.agingFirst t } }
      if s.splitNames t then (s.agePass t first 1).agePass t first 2 else s.agePass t first 0

/-! ### Commands. -/

/-- EXM_SET, OP 0x20 (R221). -/
def execExmSet (c : TwCmd) (s : State) : Host.Outcome State Fault Refusal := s.on fun d => d.tableWork c 0x20 fun d => d.exmSet c
/-- EXM_DEL, OP 0x21 (R221). -/
def execExmDel (c : TwCmd) (s : State) : Host.Outcome State Fault Refusal := s.on fun d => d.tableWork c 0x21 fun d => d.exmDel c
/-- EXM_GET, OP 0x22 (R209). -/
def execExmGet (c : TwCmd) (s : State) : Host.Outcome State Fault Refusal := s.on fun d => d.tableWork c 0x22 fun d => d.exmGet c
/-- REHASH_START, OP 0x28 (R223): its completion waits for the migration's end. -/
def execRehashStart (c : TwCmd) (s : State) : Host.Outcome State Fault Refusal :=
  s.on fun d =>
    if !d.twTakes c.ring then d
    else
      let ((d, st, ret), waits) := d.rehashStart c
      d.twDone c.ring (if waits then c.table + 1 else 0) (completion 0x28 st c.tag ret)
/-- REHASH_ABORT, OP 0x29 (R223). -/
def execRehashAbort (c : TwCmd) (s : State) : Host.Outcome State Fault Refusal := s.on fun d => d.tableWork c 0x29 fun d => d.rehashAbort c
/-- REHASH_MIGRATION (R223): one entry of a table. -/
def execRehashMigration (t : Fin 128) (s : State) : Host.Outcome State Fault Refusal := s.on fun d => d.rehashMigrate t
/-- REHASH_COMPLETE (R223). -/
def execRehashComplete (t : Fin 128) (s : State) : Host.Outcome State Fault Refusal := s.on fun d => d.rehashComplete t
/-- LEARN_CANDIDATE (R225). -/
def execLearnCandidate (s : State) : Host.Outcome State Fault Refusal := s.on fun d => d.learnCandidate
/-- LEARN_HOLD_EXPIRY (R225). -/
def execLearnHoldExpiry (s : State) : Host.Outcome State Fault Refusal := s.on fun d => d.learnExpire
/-- AGING_SCAN (R228). -/
def execAgingScan (t : Fin 128) (s : State) : Host.Outcome State Fault Refusal := s.on fun d => d.agingScan t

end Sys2Proof.Machine
end

