-- ==== Sys2Proof/Machine/McTable.lean ====
section
/-! DEFINITION. The table-work commands of the group table, the replica pool and the mirror sessions (R318–R322). -/
namespace Sys2Proof.Machine

/-- The operands that every command of these tables must hold at 0: TABLE, REGION and the reserved bits of word 0 (R208, R322). -/
def TwCmd.plain (c : TwCmd) : Bool := c.hi == 0

/-- A group entry is refused (R319): a reserved bit is set, or COUNT or BASE + COUNT is out of range, whatever VALID and LOCAL say. -/
def groupBad (w0 w1 : W32) : Bool :=
  let count := fld w1 20 11
  fld w0 21 8 != 0 || bit w1 31 || count == 0 || decide (1018 < count) || decide (1048576 < fld w1 0 20 + count)

/-- A replica entry is refused (R320). -/
def replBad (w0 w1 : W32) : Bool := fld w0 25 5 != 0 || bit w1 31 || decide (32 < fld w1 26 5 + fld w1 24 2)

/-- A mirror session entry is refused (R321). -/
def mirrorBad (w0 w1 : W32) : Bool := fld w0 22 6 != 0 || fld w1 18 14 != 0

def Dev.groupSet (s : Dev) (c : TwCmd) : TwOut :=
  let g := c.fld 2 0 17
  if !c.plain || !c.only 2 0x1FFFF#32 || !c.zeroFrom 5 then (s, 1, [])
  else if groupBad (c.word 3) (c.word 4) then (s, 12, [])
  else ({ s with tbl := { s.tbl with groups := mset [0, 0] s.tbl.groups g [c.word 3, c.word 4] } }, 0, [])

def Dev.groupGet (s : Dev) (c : TwCmd) : TwOut :=
  if !c.plain || !c.only 2 0x1FFFF#32 || !c.zeroFrom 3 then (s, 1, [])
  else (s, 0, c.word 2 :: mget [0, 0] s.tbl.groups (c.fld 2 0 17))

/-- FIRST and N of a replica command are refused with a status. -/
def replRange (c : TwCmd) (used : Nat → Nat) : Option Nat :=
  let n := c.fld 2 24 4
  if !c.plain || !c.only 2 0x0F0FFFFF#32 || n == 0 || decide (6 < n) || !c.zeroFrom (used n) then some 1
  else if 1048576 < c.fld 2 0 20 + n then some 3
  else none

def Dev.replSet (s : Dev) (c : TwCmd) : TwOut :=
  match replRange c fun n => 3 + 2 * n with
  | some st => (s, st, [])
  | none =>
    let is := List.range (c.fld 2 24 4)
    if is.any fun i => replBad (c.word (3 + 2 * i)) (c.word (4 + 2 * i)) then (s, 12, [])
    else
      let pool := is.foldl (fun m i => mset [0, 0] m (c.fld 2 0 20 + i) [c.word (3 + 2 * i), c.word (4 + 2 * i)]) s.tbl.pool
      ({ s with tbl := { s.tbl with pool := pool } }, 0, [])

def Dev.replGet (s : Dev) (c : TwCmd) : TwOut :=
  match replRange c fun _ => 3 with
  | some st => (s, st, [])
  | none => (s, 0, c.word 2 :: (List.range (c.fld 2 24 4)).flatMap fun i => mget [0, 0] s.tbl.pool (c.fld 2 0 20 + i))

def Dev.mirrorSet (s : Dev) (c : TwCmd) : TwOut :=
  let n := c.fld 2 0 4
  if !c.plain || !c.only 2 0xF#32 || !c.zeroFrom 5 then (s, 1, [])
  else if n == 0 then (s, 3, [])
  else if mirrorBad (c.word 3) (c.word 4) then (s, 12, [])
  else ({ s with tbl := { s.tbl with mirrors := mset [0, 0] s.tbl.mirrors n [c.word 3, c.word 4] } }, 0, [])

def Dev.mirrorGet (s : Dev) (c : TwCmd) : TwOut :=
  let n := c.fld 2 0 4
  if !c.plain || !c.only 2 0xF#32 || !c.zeroFrom 3 then (s, 1, [])
  else if n == 0 then (s, 3, [])
  else (s, 0, c.word 2 :: mget [0, 0] s.tbl.mirrors n)

/-- MC_GROUP_SET, OP 0x40 (R322). -/
def execMcGroupSet (c : TwCmd) (s : State) : Host.Outcome State Fault Refusal := s.on fun d => d.tableWork c 0x40 fun d => d.groupSet c
/-- MC_GROUP_GET, OP 0x41 (R322). -/
def execMcGroupGet (c : TwCmd) (s : State) : Host.Outcome State Fault Refusal := s.on fun d => d.tableWork c 0x41 fun d => d.groupGet c
/-- REPL_SET, OP 0x42 (R322). -/
def execReplSet (c : TwCmd) (s : State) : Host.Outcome State Fault Refusal := s.on fun d => d.tableWork c 0x42 fun d => d.replSet c
/-- REPL_GET, OP 0x43 (R322). -/
def execReplGet (c : TwCmd) (s : State) : Host.Outcome State Fault Refusal := s.on fun d => d.tableWork c 0x43 fun d => d.replGet c
/-- MIRROR_SET, OP 0x44 (R322). -/
def execMirrorSet (c : TwCmd) (s : State) : Host.Outcome State Fault Refusal := s.on fun d => d.tableWork c 0x44 fun d => d.mirrorSet c
/-- MIRROR_GET, OP 0x45 (R322). -/
def execMirrorGet (c : TwCmd) (s : State) : Host.Outcome State Fault Refusal := s.on fun d => d.tableWork c 0x45 fun d => d.mirrorGet c

end Sys2Proof.Machine
end

