-- ==== Sys2Proof/Machine/Dispatch.lean ====
section
/-! DEFINITION. The dispatch of the commands: one arm for each, in the order of Syntax.lean. -/
namespace Sys2Proof.Machine

/-- What a command does to everything but the queue. -/
def exec (i : Instr) (s : State) : Host.Outcome State Fault Refusal :=
  match i with
  | .flitReceive dir b seq ack flit => Sys2Proof.Machine.execFlitReceive dir b seq ack flit s
  | .replayRequest dir b seq => Sys2Proof.Machine.execReplayRequest dir b seq s
  | .bundleLeaveRotation dir b lost => Sys2Proof.Machine.execBundleLeaveRotation dir b lost s
  | .bundleRetrainComplete dir b ok => Sys2Proof.Machine.execBundleRetrainComplete dir b ok s
  | .registerWrite x v => Sys2Proof.Machine.execRegisterWrite x v s
  | .accessTimeLimit x write => Sys2Proof.Machine.execAccessTimeLimit x write s
  | .wingWrite q a v => Sys2Proof.Machine.execWingWrite q a v s
  | .strobeMapWrite q b v => Sys2Proof.Machine.execStrobeMapWrite q b v s
  | .mbxRead q b count obj tag sub err => Sys2Proof.Machine.execMbxRead q b count obj tag sub err s
  | .mbxWrite q b count obj tag => Sys2Proof.Machine.execMbxWrite q b count obj tag s
  | .mbxComplete b => Sys2Proof.Machine.execMbxComplete b s
  | .mbxTimeLimit b => Sys2Proof.Machine.execMbxTimeLimit b s
  | .unlockArm q => Sys2Proof.Machine.execUnlockArm q s
  | .unlockDisarm q key => Sys2Proof.Machine.execUnlockDisarm q key s
  | .unlockLapse q => Sys2Proof.Machine.execUnlockLapse q s
  | .cueTick elapsed => Sys2Proof.Machine.execCueTick elapsed s
  | .freqAdjWrite q v => Sys2Proof.Machine.execFreqAdjWrite q v s
  | .phaseAdjWrite q v => Sys2Proof.Machine.execPhaseAdjWrite q v s
  | .ppsInEdge sub => Sys2Proof.Machine.execPpsInEdge sub s
  | .todInCharacter b => Sys2Proof.Machine.execTodInCharacter b s
  | .setTimeValid q v => Sys2Proof.Machine.execSetTimeValid q v s
  | .clearTimeValid q v => Sys2Proof.Machine.execClearTimeValid q v s
  | .oscCheckWindow ppb => Sys2Proof.Machine.execOscCheckWindow ppb s
  | .cueSubmit q slot => Sys2Proof.Machine.execCueSubmit q slot s
  | .cueCancel q slot => Sys2Proof.Machine.execCueCancel q slot s
  | .strobeFire q groups => Sys2Proof.Machine.execStrobeFire q groups s
  | .strobeApplicationComplete g => Sys2Proof.Machine.execStrobeApplicationComplete g s
  | .epochCmdCommit q e => Sys2Proof.Machine.execEpochCmdCommit q e s
  | .epochCmdRetire q e => Sys2Proof.Machine.execEpochCmdRetire q e s
  | .retainWrite q v => Sys2Proof.Machine.execRetainWrite q v s
  | .quarantineEnd e => Sys2Proof.Machine.execQuarantineEnd e s
  | .triggerGo q go => Sys2Proof.Machine.execTriggerGo q go s
  | .tableauInEdge sub => Sys2Proof.Machine.execTableauInEdge sub s
  | .tableauRelease q => Sys2Proof.Machine.execTableauRelease q s
  | .check q => Sys2Proof.Machine.execCheck q s
  | .checkComplete err => Sys2Proof.Machine.execCheckComplete err s
  | .stage q => Sys2Proof.Machine.execStage q s
  | .abort q => Sys2Proof.Machine.execAbort q s
  | .coldInstall q => Sys2Proof.Machine.execColdInstall q s
  | .reshapeRegion q r => Sys2Proof.Machine.execReshapeRegion q r s
  | .endSplit q => Sys2Proof.Machine.execEndSplit q s
  | .frameReceive p bytes fcsOk fecErr disagree sub => Sys2Proof.Machine.execFrameReceive p bytes fcsOk fecErr disagree sub s
  | .portDown p cause => Sys2Proof.Machine.execPortDown p cause s
  | .portUp p => Sys2Proof.Machine.execPortUp p s
  | .holdExpiry p => Sys2Proof.Machine.execHoldExpiry p s
  | .linkTrainingEnd l ok c0 c1 => Sys2Proof.Machine.execLinkTrainingEnd l ok c0 c1 s
  | .psiMultiframeBoundary p tx whole msi => Sys2Proof.Machine.execPsiMultiframeBoundary p tx whole msi s
  | .rfCapRise p => Sys2Proof.Machine.execRfCapRise p s
  | .rfExpectTimeout p => Sys2Proof.Machine.execRfExpectTimeout p s
  | .rateFollowRequest q p slots go => Sys2Proof.Machine.execRateFollowRequest q p slots go s
  | .modemPoll p count => Sys2Proof.Machine.execModemPoll p count s
  | .otucFrame p f => Sys2Proof.Machine.execOtucFrame p f s
  | .gccRecordClose p c => Sys2Proof.Machine.execGccRecordClose p c s
  | .gccTxRecord ring w0 w1 bytes descs => Sys2Proof.Machine.execGccTxRecord ring w0 w1 bytes descs s
  | .clearContextLoad q index go => Sys2Proof.Machine.execClearContextLoad q index go s
  | .clearKekLoad q index go => Sys2Proof.Machine.execClearKekLoad q index go s
  | .wrappedContextLoad q index kek go => Sys2Proof.Machine.execWrappedContextLoad q index kek go s
  | .restore q index c slot hbmErr => Sys2Proof.Machine.execRestore q index c slot hbmErr s
  | .park q index c slot => Sys2Proof.Machine.execPark q index c slot s
  | .drop q index c slot => Sys2Proof.Machine.execDrop q index c slot s
  | .erase q index c slot => Sys2Proof.Machine.execErase q index c slot s
  | .lciSwitchNow q record go => Sys2Proof.Machine.execLciSwitchNow q record go s
  | .cipherRestore q c restore => Sys2Proof.Machine.execCipherRestore q c restore s
  | .selfTestComplete c pass => Sys2Proof.Machine.execSelfTestComplete c pass s
  | .frameTransmit p sub agree => Sys2Proof.Machine.execFrameTransmit p sub agree s
  | .headEntry c => Sys2Proof.Machine.execHeadEntry c s
  | .pipelineExit p => Sys2Proof.Machine.execPipelineExit p s
  | .predictorFlush q c en flush => Sys2Proof.Machine.execPredictorFlush q c en flush s
  | .fibSet c => Sys2Proof.Machine.execFibSet c s
  | .fibDel c => Sys2Proof.Machine.execFibDel c s
  | .fibGet c => Sys2Proof.Machine.execFibGet c s
  | .fibMatch c => Sys2Proof.Machine.execFibMatch c s
  | .nhSet c => Sys2Proof.Machine.execNhSet c s
  | .nhGet c => Sys2Proof.Machine.execNhGet c s
  | .ecmpSet c => Sys2Proof.Machine.execEcmpSet c s
  | .ecmpGet c => Sys2Proof.Machine.execEcmpGet c s
  | .membersSet c => Sys2Proof.Machine.execMembersSet c s
  | .membersGet c => Sys2Proof.Machine.execMembersGet c s
  | .exmSet c => Sys2Proof.Machine.execExmSet c s
  | .exmDel c => Sys2Proof.Machine.execExmDel c s
  | .exmGet c => Sys2Proof.Machine.execExmGet c s
  | .rehashStart c => Sys2Proof.Machine.execRehashStart c s
  | .rehashAbort c => Sys2Proof.Machine.execRehashAbort c s
  | .rehashMigration t => Sys2Proof.Machine.execRehashMigration t s
  | .rehashComplete t => Sys2Proof.Machine.execRehashComplete t s
  | .nop x => Sys2Proof.Machine.execNop x s
  | .watchRevert p => Sys2Proof.Machine.execWatchRevert p s
  | .hostWatchLive q w => Sys2Proof.Machine.execHostWatchLive q w s
  | .hostWatchDead q w => Sys2Proof.Machine.execHostWatchDead q w s
  | .rearm q w => Sys2Proof.Machine.execRearm q w s
  | .agingScan t => Sys2Proof.Machine.execAgingScan t s
  | .acsUnit c => Sys2Proof.Machine.execAcsUnit c s
  | .acsSet c => Sys2Proof.Machine.execAcsSet c s
  | .acsDel c => Sys2Proof.Machine.execAcsDel c s
  | .acsGet c => Sys2Proof.Machine.execAcsGet c s
  | .start q table region epoch => Sys2Proof.Machine.execStart q table region epoch s
  | .next q => Sys2Proof.Machine.execNext q s
  | .throttleSample t => Sys2Proof.Machine.execThrottleSample t s
  | .throttleWrite q v => Sys2Proof.Machine.execThrottleWrite q v s
  | .spillEnable q v => Sys2Proof.Machine.execSpillEnable q v s
  | .hbmRegionWrite q k v => Sys2Proof.Machine.execHbmRegionWrite q k v s
  | .prePullRead q r => Sys2Proof.Machine.execPrePullRead q r s
  | .dequeueCommit p err => Sys2Proof.Machine.execDequeueCommit p err s
  | .voqService err => Sys2Proof.Machine.execVoqService err s
  | .bufferFree p owner agent => Sys2Proof.Machine.execBufferFree p owner agent s
  | .auditPassEnd skip => Sys2Proof.Machine.execAuditPassEnd skip s
  | .creditGrant p => Sys2Proof.Machine.execCreditGrant p s
  | .cellReceive l w0 w1 w2 w3 payload => Sys2Proof.Machine.execCellReceive l w0 w1 w2 w3 payload s
  | .reassemblyTimeout src lane stream => Sys2Proof.Machine.execReassemblyTimeout src lane stream s
  | .controlSlotReceive l h crc msgs => Sys2Proof.Machine.execControlSlotReceive l h crc msgs s
  | .request p dev voq tc on => Sys2Proof.Machine.execRequest p dev voq tc on s
  | .grant voq => Sys2Proof.Machine.execGrant voq s
  | .revoke voq => Sys2Proof.Machine.execRevoke voq s
  | .reachability l chunk map => Sys2Proof.Machine.execReachability l chunk map s
  | .requestRefresh voq => Sys2Proof.Machine.execRequestRefresh voq s
  | .requesterTimeout p dev voq => Sys2Proof.Machine.execRequesterTimeout p dev voq s
  | .reachabilityMapExpiry l chunk => Sys2Proof.Machine.execReachabilityMapExpiry l chunk s
  | .fabricLaneFailure l why => Sys2Proof.Machine.execFabricLaneFailure l why s
  | .fabricLaneInService l => Sys2Proof.Machine.execFabricLaneInService l s
  | .pinHoldExpiry h => Sys2Proof.Machine.execPinHoldExpiry h s
  | .pinEntryQuiet h => Sys2Proof.Machine.execPinEntryQuiet h s
  | .pinMoveTimeout h => Sys2Proof.Machine.execPinMoveTimeout h s
  | .fabPinMove q record go => Sys2Proof.Machine.execFabPinMove q record go s
  | .fabPinForce q entry lane go => Sys2Proof.Machine.execFabPinForce q entry lane go s
  | .deviceIdWrite q id => Sys2Proof.Machine.execDeviceIdWrite q id s
  | .fabCfgWrite q v => Sys2Proof.Machine.execFabCfgWrite q v s
  | .mcGroupSet c => Sys2Proof.Machine.execMcGroupSet c s
  | .mcGroupGet c => Sys2Proof.Machine.execMcGroupGet c s
  | .replSet c => Sys2Proof.Machine.execReplSet c s
  | .replGet c => Sys2Proof.Machine.execReplGet c s
  | .mirrorSet c => Sys2Proof.Machine.execMirrorSet c s
  | .mirrorGet c => Sys2Proof.Machine.execMirrorGet c s
  | .egressPipelineEntry p => Sys2Proof.Machine.execEgressPipelineEntry p s
  | .hbmTrain q k save => Sys2Proof.Machine.execHbmTrain q k save s
  | .fullSweep q k save => Sys2Proof.Machine.execFullSweep q k save s
  | .returnToReset q k save => Sys2Proof.Machine.execReturnToReset q k save s
  | .trainingComplete k lanes => Sys2Proof.Machine.execTrainingComplete k lanes s
  | .verificationComplete k failing lanes => Sys2Proof.Machine.execVerificationComplete k failing lanes s
  | .trackingMeasurement k l rd wr rr wrr => Sys2Proof.Machine.execTrackingMeasurement k l rd wr rr wrr s
  | .bankIdlePrecharge k pc bank => Sys2Proof.Machine.execBankIdlePrecharge k pc bank s
  | .refresh k pc bank slip => Sys2Proof.Machine.execRefresh k pc bank slip s
  | .hbmTemperatureReading ts => Sys2Proof.Machine.execHbmTemperatureReading ts s
  | .hbmThermWrite q v => Sys2Proof.Machine.execHbmThermWrite q v s
  | .patrolScrub k errs => Sys2Proof.Machine.execPatrolScrub k errs s
  | .hbmPgRise k => Sys2Proof.Machine.execHbmPgRise k s
  | .hbmPgLoss k => Sys2Proof.Machine.execHbmPgLoss k s
  | .peerWindowAccess o len write data err => Sys2Proof.Machine.execPeerWindowAccess o len write data err s
  | .ringEnable q r v => Sys2Proof.Machine.execRingEnable q r v s
  | .ringDisable q r v => Sys2Proof.Machine.execRingDisable q r v s
  | .hostIdxWrite q r v => Sys2Proof.Machine.execHostIdxWrite q r v s
  | .transmitPacket r descs data => Sys2Proof.Machine.execTransmitPacket r descs data s
  | .interruptHoldoffExpiry r => Sys2Proof.Machine.execInterruptHoldoffExpiry r s
  | .ringReadTimeout r => Sys2Proof.Machine.execRingReadTimeout r s
  | .cageRemoval c => Sys2Proof.Machine.execCageRemoval c s
  | .cageInsertion c => Sys2Proof.Machine.execCageInsertion c s
  | .attentionPress c => Sys2Proof.Machine.execAttentionPress c s
  | .cagePowerRequest q c v => Sys2Proof.Machine.execCagePowerRequest q c v s
  | .cagePowerOff q c v => Sys2Proof.Machine.execCagePowerOff q c v s
  | .cagePowerGood c => Sys2Proof.Machine.execCagePowerGood c s
  | .cagePgTimeout c => Sys2Proof.Machine.execCagePgTimeout c s
  | .cagePgLoss c => Sys2Proof.Machine.execCagePgLoss c s
  | .i2cTransaction q m v => Sys2Proof.Machine.execI2cTransaction q m v s
  | .i2cComplete m how data => Sys2Proof.Machine.execI2cComplete m how data s
  | .i2cStretchTimeout m sdaLow => Sys2Proof.Machine.execI2cStretchTimeout m sdaLow s
  | .claim q both => Sys2Proof.Machine.execClaim q both s
  | .renew q => Sys2Proof.Machine.execRenew q s
  | .release q => Sys2Proof.Machine.execRelease q s
  | .callDrop x => Sys2Proof.Machine.execCallDrop x s
  | .ccxCallForce q holder go => Sys2Proof.Machine.execCcxCallForce q holder go s
  | .serviceCycle overrun acked alts dvt => Sys2Proof.Machine.execServiceCycle overrun acked alts dvt s
  | .understudyPoll x => Sys2Proof.Machine.execUnderstudyPoll x s
  | .download q v => Sys2Proof.Machine.execDownload q v s
  | .verify q v => Sys2Proof.Machine.execVerify q v s
  | .activate q v => Sys2Proof.Machine.execActivate q v s
  | .confirm q v => Sys2Proof.Machine.execConfirm q v s
  | .fallBack q v => Sys2Proof.Machine.execFallBack q v s
  | .eraseSlot q v => Sys2Proof.Machine.execEraseSlot q v s
  | .installKey q v => Sys2Proof.Machine.execInstallKey q v s
  | .removeKey q v => Sys2Proof.Machine.execRemoveKey q v s
  | .clearCrash q v => Sys2Proof.Machine.execClearCrash q v s
  | .updCommandComplete err => Sys2Proof.Machine.execUpdCommandComplete err s
  | .coldBoot x bad idOk => Sys2Proof.Machine.execColdBoot x bad idOk s
  | .trialWatchdog x => Sys2Proof.Machine.execTrialWatchdog x s
  | .crashLogEntry x cause payload => Sys2Proof.Machine.execCrashLogEntry x cause payload s
  | .getVersion ver body => Sys2Proof.Machine.execGetVersion ver body s
  | .getCapabilities ver body => Sys2Proof.Machine.execGetCapabilities ver body s
  | .negotiateAlgorithms ver body => Sys2Proof.Machine.execNegotiateAlgorithms ver body s
  | .getDigests ver body => Sys2Proof.Machine.execGetDigests ver body s
  | .getCertificate ver body => Sys2Proof.Machine.execGetCertificate ver body s
  | .challenge ver body => Sys2Proof.Machine.execChallenge ver body s
  | .getMeasurements ver body => Sys2Proof.Machine.execGetMeasurements ver body s
  | .fuseProgram q field value go => Sys2Proof.Machine.execFuseProgram q field value go s
  | .sramScrub errs => Sys2Proof.Machine.execSramScrub errs s
  | .digestComparison t seg f0 f1 => Sys2Proof.Machine.execDigestComparison t seg f0 f1 s
  | .digestRecompute t seg f0 f1 => Sys2Proof.Machine.execDigestRecompute t seg f0 f1 s
  | .shadowScrub diffs => Sys2Proof.Machine.execShadowScrub diffs s
  | .releaseCluster q index go => Sys2Proof.Machine.execReleaseCluster q index go s
  | .releaseFRegion q index go => Sys2Proof.Machine.execReleaseFRegion q index go s
  | .releaseTRegion q index go => Sys2Proof.Machine.execReleaseTRegion q index go s
  | .releaseUnit q index go => Sys2Proof.Machine.execReleaseUnit q index go s
  | .resyncComplete r => Sys2Proof.Machine.execResyncComplete r s
  | .statsWriteback pair err => Sys2Proof.Machine.execStatsWriteback pair err s
  | .counterOverflow id cluster stage pkt => Sys2Proof.Machine.execCounterOverflow id cluster stage pkt s
  | .pwrPdCtrlWrite q v => Sys2Proof.Machine.execPwrPdCtrlWrite q v s
  | .domainTransitionComplete n => Sys2Proof.Machine.execDomainTransitionComplete n s
  | .hbmPgTimeout k => Sys2Proof.Machine.execHbmPgTimeout k s
  | .fDieReset q v => Sys2Proof.Machine.execFDieReset q v s
  | .deviceReset q v => Sys2Proof.Machine.execDeviceReset q v s
  | .ccaReset q v => Sys2Proof.Machine.execCcaReset q v s
  | .ccbReset q v => Sys2Proof.Machine.execCcbReset q v s
  | .blockReset q v => Sys2Proof.Machine.execBlockReset q v s
  | .complexWatchdog x => Sys2Proof.Machine.execComplexWatchdog x s
  | .thermalSample f t => Sys2Proof.Machine.execThermalSample f t s
  | .sensorSilence t => Sys2Proof.Machine.execSensorSilence t s
  | .railLoss r => Sys2Proof.Machine.execRailLoss r s
  | .tapInstruction t => Sys2Proof.Machine.execTapInstruction t s
  | .registerRead x => Sys2Proof.Machine.execRegisterRead x s
  | .laneLock l => Sys2Proof.Machine.execLaneLock l s
  | .prbsCheckerLock l lock errors => Sys2Proof.Machine.execPrbsCheckerLock l lock errors s
  | .ringReadCompletion r status descs => Sys2Proof.Machine.execRingReadCompletion r status descs s
  | .doeDiscovery index => Sys2Proof.Machine.execDoeDiscovery index s
  | .railInTolerance r => Sys2Proof.Machine.execRailInTolerance r s
  | .phaseSlewEnd => Sys2Proof.Machine.execPhaseSlewEnd s
  | .todOutSend => Sys2Proof.Machine.execTodOutSend s
  | .sysRefclkLoss => Sys2Proof.Machine.execSysRefclkLoss s
  | .epochFree => Sys2Proof.Machine.execEpochFree s
  | .retentionLimit => Sys2Proof.Machine.execRetentionLimit s
  | .stragglerSweep => Sys2Proof.Machine.execStragglerSweep s
  | .stageComplete => Sys2Proof.Machine.execStageComplete s
  | .coldInstallDrainEnd => Sys2Proof.Machine.execColdInstallDrainEnd s
  | .coldInstallComplete => Sys2Proof.Machine.execColdInstallComplete s
  | .reshapeRegionComplete => Sys2Proof.Machine.execReshapeRegionComplete s
  | .loadWordsClear => Sys2Proof.Machine.execLoadWordsClear s
  | .learnCandidate => Sys2Proof.Machine.execLearnCandidate s
  | .learnHoldExpiry => Sys2Proof.Machine.execLearnHoldExpiry s
  | .crossingHeadArrival => Sys2Proof.Machine.execCrossingHeadArrival s
  | .admissionCommit => Sys2Proof.Machine.execAdmissionCommit s
  | .auditPassStart => Sys2Proof.Machine.execAuditPassStart s
  | .localReplication => Sys2Proof.Machine.execLocalReplication s
  | .busMasterEnableClear => Sys2Proof.Machine.execBusMasterEnableClear s
  | .initiateFunctionLevelReset => Sys2Proof.Machine.execInitiateFunctionLevelReset s
  | .flrReset => Sys2Proof.Machine.execFlrReset s
  | .d3hotEntry => Sys2Proof.Machine.execD3hotEntry s
  | .d0Return => Sys2Proof.Machine.execD0Return s
  | .perstNAssert => Sys2Proof.Machine.execPerstNAssert s
  | .linkLoss => Sys2Proof.Machine.execLinkLoss s
  | .leaseExpiry => Sys2Proof.Machine.execLeaseExpiry s
  | .activationSynced => Sys2Proof.Machine.execActivationSynced s
  | .activationTimeout => Sys2Proof.Machine.execActivationTimeout s
  | .settingsCompaction => Sys2Proof.Machine.execSettingsCompaction s
  | .probeRun => Sys2Proof.Machine.execProbeRun s
  | .snapshotCopyComplete => Sys2Proof.Machine.execSnapshotCopyComplete s
  | .fDieResetComplete => Sys2Proof.Machine.execFDieResetComplete s
  | .aonPowerOn => Sys2Proof.Machine.execAonPowerOn s
  | .perstNRelease => Sys2Proof.Machine.execPerstNRelease s
  | .sysRefclkReturn => Sys2Proof.Machine.execSysRefclkReturn s
  | .contextCommandComplete => Sys2Proof.Machine.execContextCommandComplete s
  | .doeAbort => Sys2Proof.Machine.execDoeAbort s
  | .pcieLinkTrained => Sys2Proof.Machine.execPcieLinkTrained s
  | .noCallTimeout => Sys2Proof.Machine.execNoCallTimeout s

end Sys2Proof.Machine
end

