-- ==== Sys2Proof/Safety.lean ====
section
/-! DEFINITION. What a safe run is, and the terms that the statements use: how a command completes, what it may note beside its effect, when an access reaches its register. -/
namespace Sys2Proof.Safety
open Sys2Proof.Machine

/-- A step ends in a next state. -/
def Completes (o : Host.Outcome State Fault Refusal) : Prop := ∃ t, o = .next t

/-- Command `i` runs from `s` to a next state, leaves the queue as it is, and the device that it leaves has property `P`. -/
def Does (i : Instr) (s : State) (P : Dev → Prop) : Prop := ∃ t, exec i s = .next t ∧ t.pending = s.pending ∧ P t.toDev

/-- A latched copy exists only while TAB_STATUS.HELD is 1 (R93). -/
abbrev TableauInv (s : State) : Prop := s.latched.isSome = true → s.toDev.tabHeld = true

/-- The host area of the HBM is held in canonical form. -/
abbrev MemoryInv (s : State) : Prop := Memory.wf s.hbm.mem = true

/-! ### What events note (R52, R376–R378, R382, R455). -/

/-- The registers in which events and the progress of rings are noted: EVT_STATUS of every block, the registers of the DMA block. -/
def noteReg (a : Nat) : Bool := a % windowSize == Reg.EVT_STATUS.off || a / windowSize == bDMA

/-- A device without what events, their records, ring progress, interrupts and performance counters note. -/
def body (d : Dev) : Dev := { d with regs := [], rings := [], pmc := [], out := [], pci := { d.pci with pba := [] } }

/-- What a store lists at a key. -/
def listed {α : Type} (m : List (Nat × α)) (a : Nat) : Option α := (m.find? fun e => e.1 == a).map Prod.snd

/-- `t` is `s` but for what events note: every part of the device outside `body`'s exceptions is the same, every register that is no note keeps its value, no event bit is cleared, and nothing sent earlier is taken back. -/
structure Noted (s t : Dev) : Prop where
  body : body t = body s
  regs : ∀ a, noteReg a = false → listed t.regs a = listed s.regs a
  evt : ∀ b e, bit (s.rg Reg.EVT_STATUS 0 b) e = true → bit (t.rg Reg.EVT_STATUS 0 b) e = true
  out : s.out <+: t.out

/-- From `s` to `t` the device sends `o`. -/
def Sent (s t : Dev) (o : Out) : Prop := ∃ l, t.out = s.out ++ l ∧ o ∈ l

/-- Event `e` of block `b` is set (R52). -/
def evtSet (s : Dev) (b e : Nat) : Bool := bit (s.rg Reg.EVT_STATUS 0 b) e

/-! ### Register accesses (R46, R54, R57, R63, R400). -/

/-- A 32-bit write by requester `q` to the normal view of register `d` at `(c, i)`. -/
def writeTo (q : Req) (d : RegDesc) (c i : Nat) : Access := { req := q, space := .bar0, addr := BitVec.ofNat 28 (d.addr c i), len := 4, full := true }

/-- The write reaches its register: the BAR is open to the requester, nothing denies the access, and no fence holds it. -/
abbrev Reached (s : Dev) (q : Req) (d : RegDesc) (c i : Nat) : Prop :=
  s.hostShut q = false ∧ s.denied (writeTo q d c i) true true = none ∧ s.isFenced q (d.addr c i) = false

/-- The device whose requester `q` has used up its arming (R63). -/
def disarmed (s : Dev) (q : Req) : Dev := { s with arming := s.arming.set q false }

/-- The error log after one access: it counts, and latches the access when nothing is latched (R58). -/
def logged (s : Dev) (cause addr : Nat) (write active : Bool) (q : Req) : Dev :=
  let n := s.wg Reg.TOP_ERR_COUNT 0 0 (w32 (sat32 ((s.rg Reg.TOP_ERR_COUNT 0 0).toNat + 1)))
  if bit (s.rg Reg.TOP_ERR_INFO 0 0) 31 then n
  else
    (n.wg Reg.TOP_ERR_ADDR 0 0 (at_ 0 28 addr)).wg Reg.TOP_ERR_INFO 0 0
      (at_ 0 4 cause ||| atB 4 write ||| atB 5 active ||| at_ 8 2 q.num ||| atB 31 true)

/-- `t` holds the error log's entry for an access, and TOP event 0 where the entry is the latched one (R58). -/
def Logs (s t : Dev) (cause addr : Nat) (write active : Bool) (q : Req) : Prop :=
  Noted (logged s cause addr write active q) t ∧ (bit (s.rg Reg.TOP_ERR_INFO 0 0) 31 = false → evtSet t bTOP 0 = true)

/-- A 32-bit read by requester `q` of the normal view of register `d` at `(c, i)`. -/
def readFrom (q : Req) (d : RegDesc) (c i : Nat) : Access := writeTo q d c i

/-- The offset of an access lies in the active view (R42). -/
def activeView (x : Access) : Bool := decide (0x400000 ≤ x.addr.toNat % windowSize)

/-! ### Mailboxes (R60). -/

/-- The word that a mailbox command writes to MBX_CMD. -/
def mbxWord (op count obj tag : Nat) : W32 := at_ 0 4 op ||| at_ 4 3 count ||| at_ 8 8 obj ||| at_ 16 8 tag

/-- The device on which a mailbox operation has started with an outcome that is given at its end: MBX_CMD holds the command, BUSY is 1, VALID and ERROR are 0. -/
def mbxBusy (s : Dev) (q : Req) (b : Nat) (cmd : W32) (x : MbxOp) : Dev :=
  { ((disarmed s q).storeRw Reg.MBX_CMD 0 b cmd).wf Reg.MBX_STATUS 0 b 0 3 2 with mbx := minsert (merase s.mbx b) b x }

/-- The device on which requester `q` has started context command `op` with its operands, which leaves the cipher's state as `l` (R156). -/
def ctxStarted (s : Dev) (q : Req) (op : Nat) (index : BitVec 14) (c : Fin 16) (slot : Byte) (l : LciSt) : Dev :=
  { (disarmed s q).wg Reg.LCI_CTX_CMD 0 0 (at_ 0 14 index.toNat ||| at_ 16 3 op ||| at_ 20 4 c ||| at_ 24 8 slot.toNat) with lci := l }.wg
    Reg.LCI_CTX_STATUS 0 0 2

/-! ### Ticks (R67, R79). -/

/-- But for epochs and the tableau nothing is due on a tick: no cue pends, no firing, switch or pin move is asked for or waits, no cipher slot is held, no fabric lane has packets to send. -/
abbrev Still (s : Dev) : Prop :=
  (∀ e ∈ s.cue.slots, e.2.state ≠ 1) ∧ s.cue.fireReq = [] ∧ (∀ g < 32, (s.group g).waiting = 0)
    ∧ s.lci.switchReq = [] ∧ s.lci.slots = [] ∧ s.lci.autoWarned = [] ∧ s.tm.moveReq = [] ∧ s.tm.laneQ = []

/-- Nothing but the tableau is due on a tick: no epoch command is asked for either, and no epoch retires. -/
abbrev Quiet (s : Dev) : Prop := Still s ∧ s.cue.epochCmds = [] ∧ s.retiring = none

/-- No tableau is asked for. -/
abbrev NoTrigger (s : Dev) : Prop := s.tab.regReq = false ∧ s.tab.pinReq = []

/-- The device at the next tick after `elapsed` ns of local time, with time `sec`, `ns`: the rate offset and the counters' gate are those in force, a slew has moved on by what a tick absorbs, the fabric slots have gone by, the dies have exchanged their house counts (R33). -/
def ticked (s : Dev) (elapsed sec ns : Nat) : Dev :=
  { s with
    cue := { s.cue with
      sec := sec, ns := ns, tickNo := s.cue.tickNo + 1, localNs := s.cue.localNs + elapsed, freq := s.rg Reg.CUE_FREQ_ADJ 0 0, step := none
      slew := if s.cue.slew.natAbs ≤ 128 then 0 else if 0 < s.cue.slew then s.cue.slew - 128 else s.cue.slew + 128
      houseX := s.houseExchange.cue.houseX }
    tm := { s.tm with
      slotAcc := (s.tm.slotAcc + 100 * elapsed) % 1088, slotNo := (s.tm.slotNo + (s.tm.slotAcc + 100 * elapsed) / 1088) % 25 }
    pmcRun := bit (s.rg Reg.PMC_CTRL 0 0) 0 }

/-! ### The OTN framer (R136–R142). -/

/-- No defect of port `p` is detected; the payload type accepted is the expected one, and no trail trace is compared. -/
abbrev FramerInOrder (s : Dev) (p : Nat) : Prop :=
  s.raw p = 0 ∧ s.pRf Reg.OTF_RX_PSI p 0 9 = 256 + s.pRf Reg.OTF_OH_CFG p 8 8 ∧ s.pRf Reg.OTF_OH_CFG p 0 4 = 0

/-- A declared defect takes down no port that is up: the port is held down by the framer already, or is not up, or the framer is in order. -/
abbrev NoNewDown (s : Dev) (p : Nat) : Prop := bit (s.port p).causes 6 = true ∨ s.portState p ≠ 2 ∨ FramerInOrder s p

/-! ### Table work (R208–R211, R383). -/

/-- The engine takes a command of the ring, and no completion waits before it. -/
abbrev Serves (s : State) (c : TwCmd) : Prop := s.twTakes c.ring = true ∧ (s.ring (twRing c.ring)).held = []

/-- Command `i` writes its completion, of operation `op` with STATUS `st` and returned words `ret`, into its ring entry and leaves device `E`. -/
def Answers (i : Instr) (s : State) (c : TwCmd) (op st : Nat) (ret : List W32) (E : Dev) : Prop :=
  Does i s fun t => Noted E t
    ∧ Sent s.toDev t (.hostWrite (s.slotAddr (twRing c.ring) (s.devIdx (twRing c.ring)) 64) (wordsBytes (completion op st c.tag ret)) false false)

/-- Word 0 of the command is well formed and names table `t` of kind `kind`, in a region that takes the command. -/
abbrev Names (s : Dev) (c : TwCmd) (kind : Nat) (write : Bool) (t : TShape) : Prop :=
  c.badWord0 = false ∧ s.shape? c.table (s.twRead c) = some t ∧ t.tkind = kind ∧ s.twRegion c write = none

/-! ### Queues (R257–R259). -/

/-- Queue `q` admits a packet of colour `c` whatever its pool holds: it is not isolated, and its depth is below QMIN and below the limit of the colour (R259). -/
abbrev Roomy (s : Dev) (q c : Nat) : Prop :=
  (s.queue q).isolated = false
    ∧ (s.queue q).depth < thresh (word (s.cfgObj s.cue.tickNo bQAD 0x10 (fld (s.qmap q s.cue.tickNo) 8 6)) 0)
    ∧ (s.queue q).depth < thresh (word (s.cfgObj s.cue.tickNo bQAD 0x11 (fld (s.qmap q s.cue.tickNo) 8 6)) (3 + min c 2))

/-- The packet at the head of queue `q`, with `rest` behind it, can be taken: its pointer names a chain on the die, and the linkage checksum holds (R248, R439). -/
abbrev HeadFine (s : Dev) (q : Nat) (k : Pkt) (rest : List Pkt) : Prop :=
  (s.queue q).pkts = k :: rest ∧ isOnDie k.head = true ∧ s.ptrBad k.head true = none ∧ (rest ≠ [] ∨ (s.queue q).link = linkTerm k.head)

end Sys2Proof.Safety
end

