-- ==== Sys2Proof/Certificates/Slice0/Obligations.lean ====
section
/-! DEFINITION. The statements for the provers: what each command does, what it leaves as it was, and the rules that hold of every step. -/
open Sys2Proof Sys2Proof.Machine Sys2Proof.Safety

/-- A step runs the command at the front of the queue with the queue's rest.
On an empty queue the block idles. The model's choice (log entry 6). -/
def Obligations.StepTakesTheFront : Prop :=
  (∀ (s : State) (i : Instr) (rest : List Instr), s.pending = i :: rest → step s = exec i { s with pending := rest })
  ∧ (∀ s : State, s.pending = [] → step s = .next s)

/-- Every command completes, and leaves the queue as it found it; only CUE_TICK makes a latched copy, and none is kept once HELD is 0. -/
def Obligations.EveryCommandCompletes : Prop :=
  ∀ (i : Instr) (s : State), ∃ t, exec i s = .next t ∧ t.pending = s.pending ∧
    ((∀ e, i ≠ .cueTick e) → t.latched = if t.toDev.tabHeld then s.latched else none)

/-- Commands run in the order of their arrival: after any number of steps not above the queue's length, exactly that many commands have left its front, and none has been refused. -/
def Obligations.QueueRunsInOrder : Prop :=
  ∀ (n : Nat) (s : State), n ≤ s.pending.length →
    ∃ t : State, Sys2Proof.core.run n s = .next t ∧ t.pending = s.pending.drop n

/-- R93: a latched copy exists only while HELD is 1. Every step keeps it. -/
def Obligations.TableauInvStep : Prop :=
  ∀ s t : State, TableauInv s → step s = .next t → TableauInv t

/-- The machine right after reset: every register at its reset value, nothing latched, no command waiting, the host area in canonical form, and the invariant of the tableau. -/
def Obligations.ResetState : Prop :=
  (∀ (d : RegDesc) (c i : Nat), State.reset.toDev.rg d c i = d.reset i) ∧ TableauInv State.reset ∧ MemoryInv State.reset
    ∧ State.reset.pending = [] ∧ State.reset.latched = none
    ∧ State.reset.toDev.timeValid = false ∧ State.reset.toDev.epochNow = 0 ∧ State.reset.toDev.retiring = none
    ∧ State.reset.toDev.holder = 0 ∧ State.reset.toDev.pbkState = 0 ∧ State.reset.pci.perst = true ∧ State.reset.bases = false

/-- R57: the causes of a bus error, the first that applies in the rule's order; then the completer aborts of a location out of reach.
R42, R45: a read returns the value in force; a read in the normal view of an RS register returns its wing, in the active view its value in force; a read in the normal view clears an RC register, one in the active view does not. -/
def Obligations.AccessesAreDenied : Prop :=
  (∀ (s : Dev) (x : Access) (write known : Bool),
    (x.len.val ≠ 4 ∨ x.full = false ∨ x.addr.toNat % 4 ≠ 0 → s.denied x write known = some (.bus 4))
    ∧ (x.len.val = 4 → x.full = true → x.addr.toNat % 4 = 0 →
      (s.absentAt x.addr.toNat = true → s.denied x write known = some (.bus 2))
      ∧ (s.absentAt x.addr.toNat = false →
        (write = true → activeView x = true → s.denied x write known = some (.bus 3))
        ∧ ((write = false ∨ activeView x = false) →
          (known = false → s.denied x write known = some (.bus 1))
          ∧ (known = true → s.denied x write known = (s.unreachable x.addr.toNat).map .abort)))))
  ∧ (∀ (s : State) (q : Req), s.hostShut q = false →
    (s.denied (readFrom q Reg.TAB_CTRL 0 0) false true = none → Does (.registerRead (readFrom q Reg.TAB_CTRL 0 0)) s fun t =>
      Sent s.toDev t (.readData q ((s.rg Reg.TAB_CTRL 0 0).zeroExtend 64)) ∧ Noted s.toDev t)
    ∧ (s.denied (readFrom q Reg.TAB_REFUSED 0 0) false true = none → Does (.registerRead (readFrom q Reg.TAB_REFUSED 0 0)) s fun t =>
      Sent s.toDev t (.readData q ((s.rg Reg.TAB_REFUSED 0 0).zeroExtend 64)) ∧ Noted (s.toDev.wg Reg.TAB_REFUSED 0 0 0) t)
    ∧ (∀ x : Access, x = { readFrom q Reg.TAB_REFUSED 0 0 with addr := BitVec.ofNat 28 (Reg.TAB_REFUSED.addr 0 0 + 0x400000) } →
      s.denied x false true = none → Does (.registerRead x) s fun t =>
        Sent s.toDev t (.readData q ((s.rg Reg.TAB_REFUSED 0 0).zeroExtend 64)) ∧ Noted s.toDev t)
    ∧ (s.denied (readFrom q Reg.SPL_CFG 0 0) false true = none → Does (.registerRead (readFrom q Reg.SPL_CFG 0 0)) s fun t =>
      Sent s.toDev t (.readData q (((s.rg Reg.SPL_CFG 0 0 &&& ~~~Reg.SPL_CFG.wo &&& ~~~Reg.SPL_CFG.rs) ||| (s.wing Reg.SPL_CFG 0 0 &&& Reg.SPL_CFG.rs)).zeroExtend 64))
        ∧ Noted s.toDev t))

/-- R54, R57, R58: a read that is denied is answered (Unsupported Request, or Completer Abort), and the error log counts it and latches it when nothing is latched; a write of a complex that is denied is discarded, uses up its arming (R63) and is logged in the same way.
R55, R57, R58: an access that nothing denies and that has not completed in time is logged with CAUSE 5; a read receives Completer Abort, a write is discarded and uses up the arming. A denied access ends with its denial instead.
R45, R63: a write that reaches a register acts by the access codes of its fields and uses up the requester's arming. RW (CUE_SUBMIT_W): the word; RW with reserved bits (TAB_CTRL): only its bits; W1C (TOP_ERR_INFO): LATCHED is cleared by a 1; RO (TOP_ERR_ADDR): nothing. -/
def Obligations.ErrorLogLatchesTheFirst : Prop :=
  (∀ (s : State) (x : Access) (v : W64) (c : Nat), x.space = .bar0 → s.hostShut x.req = false → inMsix x.addr.toNat = false →
    (s.denied x false ((regAt x.normal).isSome || inMsix x.normal) = some (.bus c) →
      Does (.registerRead x) s fun t => Sent s.toDev t (.unsupported x.req false) ∧ Logs s.toDev t c x.addr.toNat false (activeView x) x.req)
    ∧ (s.denied x false ((regAt x.normal).isSome || inMsix x.normal) = some (.abort c) →
      Does (.registerRead x) s fun t => Sent s.toDev t (.abort x.req false) ∧ Logs s.toDev t c x.addr.toNat false (activeView x) x.req)
    ∧ (s.denied x true ((regAt x.normal).isSome || inMsix x.normal) = some (.abort c) →
      Does (.registerWrite x v) s fun t =>
        Sent s.toDev t (.abort x.req true) ∧ Logs (disarmed s.toDev x.req) t c x.addr.toNat true (activeView x) x.req)
    ∧ (s.denied x true ((regAt x.normal).isSome || inMsix x.normal) = some (.bus c) → x.req ≠ .host →
      Does (.registerWrite x v) s fun t =>
        Sent s.toDev t (.unsupported x.req true) ∧ Logs (disarmed s.toDev x.req) t c x.addr.toNat true (activeView x) x.req)
    ∧ (s.denied x true ((regAt x.normal).isSome || inMsix x.normal) = some (.bus c) → x.req = .host →
      Does (.registerWrite x v) s fun t => Sent s.toDev t (.unsupported .host true) ∧ t.arming.host = false
        ∧ bit (t.pciCfg 0 0x104) 20 = true ∧ bit (t.pciCfg devCtlReset 0x78) 19 = true))
  ∧ (∀ (s : State) (x : Access), x.space = .bar0 → s.hostShut x.req = false → inMsix x.addr.toNat = false →
    (s.denied x false ((regAt x.normal).isSome || inMsix x.normal) = none → Does (.accessTimeLimit x false) s fun t =>
      Sent s.toDev t (.abort x.req false) ∧ Logs s.toDev t 5 x.addr.toNat false (activeView x) x.req)
    ∧ (s.denied x true ((regAt x.normal).isSome || inMsix x.normal) = none →
      Does (.accessTimeLimit x true) s fun t => Logs (disarmed s.toDev x.req) t 5 x.addr.toNat true (activeView x) x.req)
    ∧ (∀ c, s.denied x false ((regAt x.normal).isSome || inMsix x.normal) = some (.bus c) →
      Does (.accessTimeLimit x false) s fun t => Sent s.toDev t (.unsupported x.req false) ∧ Logs s.toDev t c x.addr.toNat false (activeView x) x.req))
  ∧ (∀ (s : State) (q : Req) (v : W64),
    (∀ k : Fin 4, Reached s.toDev q Reg.CUE_SUBMIT_W 0 k → Does (.registerWrite (writeTo q Reg.CUE_SUBMIT_W 0 k) v) s
      (Noted ((disarmed s.toDev q).wg Reg.CUE_SUBMIT_W 0 k (v.truncate 32))))
    ∧ (Reached s.toDev q Reg.TAB_CTRL 0 0 → Does (.registerWrite (writeTo q Reg.TAB_CTRL 0 0) v) s
      (Noted ((disarmed s.toDev q).wg Reg.TAB_CTRL 0 0 ((s.rg Reg.TAB_CTRL 0 0 &&& ~~~Reg.TAB_CTRL.rw) ||| (v.truncate 32 &&& Reg.TAB_CTRL.rw)))))
    ∧ (Reached s.toDev q Reg.TOP_ERR_INFO 0 0 → Does (.registerWrite (writeTo q Reg.TOP_ERR_INFO 0 0) v) s
      (Noted ((disarmed s.toDev q).wg Reg.TOP_ERR_INFO 0 0 (s.rg Reg.TOP_ERR_INFO 0 0 &&& ~~~(v.truncate 32 &&& 0x80000000#32)))))
    ∧ (Reached s.toDev q Reg.TOP_ERR_ADDR 0 0 → Does (.registerWrite (writeTo q Reg.TOP_ERR_ADDR 0 0) v) s
      (Noted ((disarmed s.toDev q).wg Reg.TOP_ERR_ADDR 0 0 (s.rg Reg.TOP_ERR_ADDR 0 0))))
    ∧ (∀ b : Fin 29, Reached s.toDev q Reg.EVT_STATUS 0 b → Does (.registerWrite (writeTo q Reg.EVT_STATUS 0 b) v) s fun t =>
      (∀ e, bit v e = true → evtSet t b e = false) ∧ ∀ b' e, (b' ≠ b.val ∨ bit v e = false) → evtSet s.toDev b' e = true → evtSet t b' e = true))

/-- R48, R50: a write of a staged register reaches its wing, not its value in force, and sets the WING_PEND bit of its sub-block.
R49: a write of a strobe map moves the sub-blocks of the block to their new groups at once when none of its groups is applying; the wings stay. While the old group of its sub-block is applying, the write waits. -/
def Obligations.WingsAndStrobeMaps : Prop :=
  (∀ (s : State) (q : Req) (a : BitVec 28) (v : W32) (r : RegDesc) (c i : Nat),
    regAt a.toNat = some (r, c, i) → r.rs ≠ 0 → a.toNat % windowSize < 0x400000 → Reached s.toDev q r c i →
      Does (.wingWrite q a v) s (Noted ((((disarmed s.toDev q).setWing r c i ((s.wing r c i &&& ~~~r.rs) ||| (v &&& r.rs)))).wf Reg.WING_PEND 0 r.blk r.sub 1 1)))
  ∧ (∀ (s : State) (q : Req) (b : Fin 29) (v : W32), Reached s.toDev q Reg.STROBE_MAP 0 b →
    ((∀ k ∈ subsOf b, (s.group (s.groupOf b k)).applying = false) →
      Does (.strobeMapWrite q b v) s fun t => t.wings = s.wings ∧ t.objWings = s.objWings
        ∧ (∀ k ∈ subsOf b, t.groupOf b k = fld v (8 * k) 5) ∧ ∀ w, (b.val, w) ∉ t.cue.mapWaits)
    ∧ (∀ k, subsOf b = [k] → (s.group (s.groupOf b k)).applying = true → s.groupOf b k ≠ fld v (8 * k) 5 →
      Does (.strobeMapWrite q b v) s (Noted { disarmed s.toDev q with
        cue := { s.cue with mapWaits := (s.cue.mapWaits.filter fun e => e.1 != b.val) ++ [(b.val, v)] } })))

/-- R63, R64: a write of 0xC4D3 to TOP_UNLOCK.KEY arms its requester, whatever it was before; any other value disarms it and is logged with CAUSE 8; an arming lapses.
R64: a write of any register with KW fields by a requester that is not armed is discarded and logged with CAUSE 7. -/
def Obligations.UnlockGuardsKwWrites : Prop :=
  (∀ (s : State) (q : Req),
    (Reached s.toDev q Reg.TOP_UNLOCK 0 0 →
      Does (.unlockArm q) s (Noted { s.toDev with arming := s.arming.set q true })
      ∧ ∀ key : BitVec 16, key ≠ 0xC4D3#16 →
        Does (.unlockDisarm q key) s fun t => Logs (disarmed s.toDev q) t 8 (Reg.TOP_UNLOCK.addr 0 0) true false q ∧ t.arming.get q = false)
    ∧ exec (.unlockLapse q) s = .next (s.put (disarmed s.toDev q) s.latched))
  ∧ (∀ (s : State) (q : Req) (v : W32) (x : BitVec 14) (y : BitVec 12) (l : BitVec 9) (h : Fin 4) (f : Fin 16) (u : BitVec 6) (go : Bool),
    s.arming.get q = false →
    (∀ i : Instr, i = .pwrPdCtrlWrite q v → Reached s.toDev q Reg.PWR_PD_CTRL 0 0 →
      Does i s fun t => Logs (disarmed s.toDev q) t 7 (Reg.PWR_PD_CTRL.addr 0 0) true false q)
    ∧ (∀ i : Instr, (i = .fDieReset q v ∨ i = .deviceReset q v ∨ i = .ccaReset q v ∨ i = .ccbReset q v ∨ i = .blockReset q v) →
      Reached s.toDev q Reg.TOP_RESET 0 0 → Does i s fun t => Logs (disarmed s.toDev q) t 7 (Reg.TOP_RESET.addr 0 0) true false q)
    ∧ (∀ i : Instr, i = .fuseProgram q f u go → Reached s.toDev q Reg.TOP_FUSE_PROG 0 0 →
      Does i s fun t => Logs (disarmed s.toDev q) t 7 (Reg.TOP_FUSE_PROG.addr 0 0) true false q)
    ∧ (∀ i : Instr, i = .deviceIdWrite q x → Reached s.toDev q Reg.TOP_DEVICE_ID 0 0 →
      Does i s fun t => Logs (disarmed s.toDev q) t 7 (Reg.TOP_DEVICE_ID.addr 0 0) true false q)
    ∧ (∀ i : Instr, i = .ccxCallForce q h go → Reached s.toDev q Reg.CCX_CALL_FORCE 0 0 →
      Does i s fun t => Logs (disarmed s.toDev q) t 7 (Reg.CCX_CALL_FORCE.addr 0 0) true false q)
    ∧ (∀ i : Instr, (i = .clearContextLoad q x go ∨ i = .clearKekLoad q x go) → Reached s.toDev q Reg.LCI_CLEAR_LOAD 0 0 →
      Does i s fun t => Logs (disarmed s.toDev q) t 7 (Reg.LCI_CLEAR_LOAD.addr 0 0) true false q)
    ∧ (∀ i : Instr, i = .fabPinForce q y l go → Reached s.toDev q Reg.FAB_PIN_FORCE 0 0 →
      Does i s fun t => Logs (disarmed s.toDev q) t 7 (Reg.FAB_PIN_FORCE.addr 0 0) true false q))

/-- R60: a write of MBX_CMD (by MBX_READ, MBX_WRITE, or by address with any word) while BUSY is 0 clears VALID and ERROR, sets BUSY and starts the operation: MBX_CMD holds the command, and the mailbox holds an operation with its TAG, and whether it writes. While BUSY is 1 it is discarded and sets OVERRUN, and the operation in progress stays as it is. R60: a write of MBX_DATA while BUSY is 1 is discarded; while BUSY is 0 it stores its word. R60: a read of MBX_DATA while VALID is 0 returns a value that nothing fixes (log entry 3); while VALID is 1, the word stored. -/
def Obligations.MailboxBusy : Prop :=
  ∀ (s : State) (q : Req) (b : Fin 29),
    (∀ (i : Instr) (op : Nat), Reached s.toDev q Reg.MBX_CMD 0 b →
      ((∃ count obj tag sub err, i = .mbxRead q b count obj tag sub err ∧ op = 1) ∨ (∃ count obj tag, i = .mbxWrite q b count obj tag ∧ op = 2)
        ∨ ∃ v : W64, i = .registerWrite (writeTo q Reg.MBX_CMD 0 b) v ∧ op = fld (v.truncate 32) 0 4) →
      (s.rf Reg.MBX_STATUS 0 b 1 1 = 0 → Does i s fun t =>
        t.rf Reg.MBX_STATUS 0 b 0 1 = 0 ∧ t.rf Reg.MBX_STATUS 0 b 2 1 = 0 ∧ t.rf Reg.MBX_STATUS 0 b 1 1 = 1 ∧ t.rf Reg.MBX_CMD 0 b 0 4 = op
          ∧ ∃ x, t.mbx.find? (fun e => e.1 == b.val) = some (b.val, x) ∧ x.tag = t.rf Reg.MBX_CMD 0 b 16 8 ∧ x.write = (op == 2))
      ∧ (s.rf Reg.MBX_STATUS 0 b 1 1 = 1 → Does i s fun t =>
        Noted ((disarmed s.toDev q).wf Reg.MBX_STATUS 0 b 3 1 1) t ∧ t.rf Reg.MBX_STATUS 0 b 3 1 = 1 ∧ t.mbx = s.mbx))
    ∧ (∀ (k : Fin 8) (v : W64), Reached s.toDev q (Reg.MBX_DATA k) 0 b →
      (s.rf Reg.MBX_STATUS 0 b 1 1 = 1 → Does (.registerWrite (writeTo q (Reg.MBX_DATA k) 0 b) v) s fun t =>
        Noted (disarmed s.toDev q) t ∧ t.rg (Reg.MBX_DATA k) 0 b = s.rg (Reg.MBX_DATA k) 0 b)
      ∧ (s.rf Reg.MBX_STATUS 0 b 1 1 = 0 → Does (.registerWrite (writeTo q (Reg.MBX_DATA k) 0 b) v) s fun t =>
        Noted ((disarmed s.toDev q).wg (Reg.MBX_DATA k) 0 b (v.truncate 32)) t ∧ t.rg (Reg.MBX_DATA k) 0 b = v.truncate 32))
    ∧ (∀ k : Fin 8, s.hostShut q = false → s.denied (readFrom q (Reg.MBX_DATA k) 0 b) false true = none →
      (s.rf Reg.MBX_STATUS 0 b 0 1 = 0 → Does (.registerRead (readFrom q (Reg.MBX_DATA k) 0 b)) s fun t =>
        Sent s.toDev t (.readData q (((Config.freeBits s.freeCtr).truncate 32 : W32).zeroExtend 64)) ∧ Noted { s.toDev with freeCtr := s.freeCtr + 1 } t)
      ∧ (s.rf Reg.MBX_STATUS 0 b 0 1 = 1 → Does (.registerRead (readFrom q (Reg.MBX_DATA k) 0 b)) s fun t =>
        Sent s.toDev t (.readData q ((s.rg (Reg.MBX_DATA k) 0 b).zeroExtend 64)) ∧ Noted s.toDev t))

/-- R59, R60: a mailbox command while BUSY is 1 is discarded and sets OVERRUN; while BUSY is 0 it starts. An object that the block does not define ends with ECODE 2; a read of the time (CUE object 1) captures the clock of that instant; a write of a table of weights (SCH object 5) lands whole in its wing and sets WING_PEND.
R60, R61: the end of an operation. With ECODE 0 it sets VALID, else ERROR and the ECODE; TAG is the command's, OVERRUN stays, BUSY clears; a read's words are in MBX_DATA. At the time limit it ends with ECODE 5.
R69: a clock step written through the CUE mailbox waits for its tick from the end of the write on; one whose write runs into the time limit is discarded. -/
def Obligations.MailboxOperations : Prop :=
  (∀ (s : State) (q : Req) (b : Fin 29) (count : Fin 8) (obj tag : Byte) (sub : Fin 128) (err : Bool),
    (Reached s.toDev q Reg.MBX_CMD 0 b → s.rf Reg.MBX_STATUS 0 b 1 1 = 1 →
      Does (.mbxRead q b count obj tag sub err) s (Noted ((disarmed s.toDev q).wf Reg.MBX_STATUS 0 b 3 1 1))
      ∧ Does (.mbxWrite q b count obj tag) s (Noted ((disarmed s.toDev q).wf Reg.MBX_STATUS 0 b 3 1 1)))
    ∧ (Reached s.toDev q Reg.MBX_CMD 0 b → s.rf Reg.MBX_STATUS 0 b 1 1 = 0 → obj.toNat < 0x80 →
      objSpec b obj.toNat (s.rg Reg.MBX_INDEX 0 b).toNat = none →
      Does (.mbxRead q b count obj tag sub err) s (Noted (mbxBusy s.toDev q b (mbxWord 1 count obj.toNat tag.toNat)
          { host := q == .host, ecode := 2, words := [], tag := tag.toNat, write := false }))
      ∧ Does (.mbxWrite q b count obj tag) s (Noted (mbxBusy s.toDev q b (mbxWord 2 count obj.toNat tag.toNat)
          { host := q == .host, ecode := 2, words := [], tag := tag.toNat, write := true })))
    ∧ (Reached s.toDev q Reg.MBX_CMD 0 bCUE → s.rf Reg.MBX_STATUS 0 bCUE 1 1 = 0 → s.rg Reg.MBX_INDEX 0 bCUE = 0 →
      Does (.mbxRead q ⟨bCUE, by decide⟩ 2 1 tag sub false) s (Noted (mbxBusy s.toDev q bCUE (mbxWord 1 2 1 tag.toNat)
          { host := q == .host, ecode := 0, words := timeWords (s.timeIn sub).1 (s.timeIn sub).2, tag := tag.toNat, write := false })))
    ∧ (∀ i : Fin 256, Reached s.toDev q Reg.MBX_CMD 0 bSCH → s.rf Reg.MBX_STATUS 0 bSCH 1 1 = 0 → s.rg Reg.MBX_INDEX 0 bSCH = w32 i →
      Does (.mbxWrite q ⟨bSCH, by decide⟩ 3 5 tag) s (Noted ((((mbxBusy s.toDev q bSCH (mbxWord 2 3 5 tag.toNat)
          { host := q == .host, ecode := 0, words := [], tag := tag.toNat, write := true }).setObjWing bSCH 5 i
            (maskWords bSCH 5 ((List.range 4).map fun k => s.rg (Reg.MBX_DATA k) 0 bSCH))).wf Reg.WING_PEND 0 bSCH 2 1 1)))))
  ∧ (∀ (s : State) (b : Fin 29) (x : MbxOp), s.mbx.find? (fun e => e.1 == b.val) = some (b.val, x) →
    (x.ecode ≠ 0 ∨ x.write = true → (b.val = bCUE → s.cue.stepLoad = none) → exec (.mbxComplete b) s = .next (s.put ({ s.toDev with mbx := merase s.mbx b }.wg Reg.MBX_STATUS 0 b
      (atB 0 (x.ecode == 0) ||| atB 2 (x.ecode != 0) ||| (s.rg Reg.MBX_STATUS 0 b &&& 8#32) ||| at_ 4 4 x.ecode ||| at_ 16 8 x.tag)) s.latched))
    ∧ (x.ecode = 0 → x.write = false → x.words.length ≤ 8 →
      Does (.mbxComplete b) s fun t =>
        t.mbx = merase s.mbx b
        ∧ t.rg Reg.MBX_STATUS 0 b = (1#32 ||| (s.rg Reg.MBX_STATUS 0 b &&& 8#32) ||| at_ 16 8 x.tag)
        ∧ (∀ k < x.words.length, t.rg (Reg.MBX_DATA k) 0 b = word x.words k)
        ∧ (∀ k, x.words.length ≤ k → k < 8 → t.rg (Reg.MBX_DATA k) 0 b = s.rg (Reg.MBX_DATA k) 0 b)
        ∧ { t with regs := s.regs, mbx := s.mbx } = s.toDev)
    ∧ ((b.val = bCUE → s.cue.stepLoad = none) → exec (.mbxTimeLimit b) s = .next (s.put ({ s.toDev with mbx := merase s.mbx b }.wg Reg.MBX_STATUS 0 b
      (4#32 ||| (s.rg Reg.MBX_STATUS 0 b &&& 8#32) ||| at_ 4 4 5 ||| at_ 16 8 x.tag)) s.latched))
    ∧ (∀ p, s.cue.stepLoad = some p → b.val = bCUE → x.write = true →
      (x.ecode = 0 → Does (.mbxComplete b) s fun t => t.cue = { s.cue with stepLoad := none, step := some p })
      ∧ (Does (.mbxTimeLimit b) s fun t => t.cue = { s.cue with stepLoad := none })))

/-- R69: a rate offset is stored and takes effect at the next tick; a phase adjustment replaces what remains of a slew; a slew ends. R88: the retention limit is stored.
R70, R72: an edge of PPS_IN captures the clock, `sub` ns after the latest tick; characters of TOD_IN are stored, up to 64; those queued for TOD_OUT before PPS_OUT rose are sent after it, those queued later stay; the loss and the return of SYS_REFCLK are seen. -/
def Obligations.ClockAndTimePins : Prop :=
  (∀ (s : State) (q : Req) (v : W32),
    (Reached s.toDev q Reg.CUE_FREQ_ADJ 0 0 → Does (.freqAdjWrite q v) s (Noted ((disarmed s.toDev q).wg Reg.CUE_FREQ_ADJ 0 0 v)))
    ∧ (Reached s.toDev q Reg.CUE_PHASE_ADJ 0 0 →
      Does (.phaseAdjWrite q v) s (Noted { disarmed s.toDev q with cue := { s.cue with slew := (v.truncate 24 : BitVec 24).toInt * 10000 } }))
    ∧ exec .phaseSlewEnd s = .next (s.put { s.toDev with cue := { s.cue with slew := 0 } } s.latched)
    ∧ (Reached s.toDev q Reg.CUE_RETAIN 0 0 → Does (.retainWrite q v) s
      (Noted ((disarmed s.toDev q).wg Reg.CUE_RETAIN 0 0 ((s.rg Reg.CUE_RETAIN 0 0 &&& ~~~0xFF#32) ||| (v &&& 0xFF#32))))))
  ∧ (∀ (s : State) (sub : Fin 128) (b : Byte),
    (Does (.ppsInEdge sub) s fun t => evtSet t bCUE 9 = true ∧ Noted { s.toDev with cue := { s.cue with
        ppsSec := s.cue.sec + (s.cue.ns + sub.val) / 1000000000, ppsNs := (s.cue.ns + sub.val) % 1000000000, ppsCount := s.cue.ppsCount + 1 } } t)
    ∧ (s.cue.todIn.length < 64 →
      exec (.todInCharacter b) s = .next (s.put { s.toDev with cue := { s.cue with todIn := s.cue.todIn ++ [b] } } s.latched))
    ∧ (s.cue.todIn.length = 64 → Does (.todInCharacter b) s fun t =>
      t.cue.todIn.length = 64 ∧ (t.cue.todIn = s.cue.todIn ∨ t.cue.todIn = s.cue.todIn.drop 1 ++ [b])
        ∧ { t with cue := s.cue, freeCtr := s.freeCtr } = s.toDev)
    ∧ (s.cue.todDue ≠ [] → exec .todOutSend s = .next (s.put { s.toDev with
        cue := { s.cue with todDue := [] }, out := s.out ++ [.todOut s.cue.todDue] } s.latched))
    ∧ (s.cue.todDue = [] → exec .todOutSend s = .next (s.put s.toDev s.latched))
    ∧ exec .sysRefclkLoss s = .next (s.put { s.toDev with cue := { s.cue with refclkLost := true } } s.latched)
    ∧ exec .sysRefclkReturn s = .next (s.put { s.toDev with cue := { s.cue with refclkLost := false } } s.latched))

/-- R71, R72: a passing window of the oscillator check counts towards OSC_OK; a failing one clears OSC_OK and TIME_VALID and sets events 2 and 3; the failure is a class 14 detection, here with no reaction; with the check off a window is none.
R71, R81: a host write of 1 sets TIME_VALID while OSC_OK is 1 and is ignored for that bit while OSC_OK is 0; a write of 0 clears it, and with VOID_ON_INVALID 1 every pending cue takes state 5 and event 4 is set. The other bits of CUE_CTRL take the write. -/
def Obligations.OscillatorAndTimeValid : Prop :=
  (∀ (s : State) (ppb : W32),
    (bit (s.rg Reg.CUE_CTRL 0 0) 4 = false → exec (.oscCheckWindow ppb) s = .next (s.put s.toDev s.latched))
    ∧ (bit (s.rg Reg.CUE_CTRL 0 0) 4 = true → s.cue.refclkLost = false → ppb.toNat ≤ max 10 (s.rf Reg.CUE_OSC_CHECK 0 0 0 8) * 1000 →
      exec (.oscCheckWindow ppb) s = .next (s.put { s.toDev with cue := { s.cue with oscPass := min 4 (s.cue.oscPass + 1) } } s.latched))
    ∧ (bit (s.rg Reg.CUE_CTRL 0 0) 4 = true → (s.cue.refclkLost = true ∨ max 10 (s.rf Reg.CUE_OSC_CHECK 0 0 0 8) * 1000 < ppb.toNat) →
      s.reactOf 14 = 0 → Does (.oscCheckWindow ppb) s fun t =>
        t.oscOk = false ∧ t.timeValid = false ∧ evtSet t bCUE 2 = true ∧ evtSet t bCUE 3 = true ∧ evtSet t bINT 13 = true))
  ∧ (∀ (s : State) (q : Req) (v : W32), Reached s.toDev q Reg.CUE_CTRL 0 0 →
    (Does (.setTimeValid q v) s (Noted ((disarmed s.toDev q).wg Reg.CUE_CTRL 0 0
      (setBit (writeValue Reg.CUE_CTRL (s.rg Reg.CUE_CTRL 0 0) v false) 0 (s.oscOk || s.timeValid)))))
    ∧ (bit v 1 = false ∨ s.timeValid = false → Does (.clearTimeValid q v) s (Noted ((disarmed s.toDev q).wg Reg.CUE_CTRL 0 0
      (setBit (writeValue Reg.CUE_CTRL (s.rg Reg.CUE_CTRL 0 0) v false) 0 false))))
    ∧ (bit v 1 = true → s.timeValid = true → Does (.clearTimeValid q v) s fun t => evtSet t bCUE 4 = true
      ∧ Noted { (disarmed s.toDev q).wg Reg.CUE_CTRL 0 0 (setBit (writeValue Reg.CUE_CTRL (s.rg Reg.CUE_CTRL 0 0) v false) 0 false) with
        cue := { s.cue with slots := s.cue.slots.map fun e => if e.2.state == 1 then (e.1, { e.2 with state := 5 }) else e } } t))

/-- R76, R77: a submit is refused with CODE 2 while TIME_VALID is 0, 3 in a Lead slot by others than the Lead's firmware, 4 with bad fields, 5 over a pending cue, and leaves the slot; else the slot holds W0–W3 as a pending cue, with CODE 1 for a time that has passed, 0 otherwise.
R76: a cancel empties a pending slot with CODE 0; it answers CODE 3 for a Lead slot by others, 5 for a slot with no cue to cancel (empty or voided), 6 for one that has fired or failed, and leaves the slot. -/
def Obligations.CuesSubmittedAndCancelled : Prop :=
  (∀ (s : State) (q : Req) (slot : Byte) (w : Nat → W32) (code : Nat), Reached s.toDev q Reg.CUE_SUBMIT_CMD 0 0 →
    (∀ k, w k = s.rg Reg.CUE_SUBMIT_W 0 k) →
    (code = if s.timeValid = false then 2 else if 224 ≤ slot.toNat ∧ s.isLead q = false then 3 else if s.cueBad (w 0) (w 2) (w 3) = true then 4
      else if (s.slot slot.toNat).state = 1 then 5
      else if (w 1).toNat + 2 ^ 32 * fld (w 2) 0 16 < s.cue.sec ∨ ((w 1).toNat + 2 ^ 32 * fld (w 2) 0 16 = s.cue.sec ∧ (w 0).toNat ≤ s.cue.ns) then 1
      else 0) →
    (2 ≤ code → Does (.cueSubmit q slot) s (Noted (((disarmed s.toDev q).wg Reg.CUE_SUBMIT_CMD 0 0 (at_ 0 8 slot.toNat ||| at_ 8 2 1)).wg
      Reg.CUE_SUBMIT_RESULT 0 0 (1#32 ||| at_ 4 4 code ||| at_ 8 8 slot.toNat))))
    ∧ (code < 2 → Does (.cueSubmit q slot) s (Noted ((((disarmed s.toDev q).wg Reg.CUE_SUBMIT_CMD 0 0 (at_ 0 8 slot.toNat ||| at_ 8 2 1)).setSlot slot.toNat
      { w0 := w 0, w1 := w 1, w2 := w 2, w3 := w 3, state := 1 }).wg Reg.CUE_SUBMIT_RESULT 0 0 (1#32 ||| at_ 4 4 code ||| at_ 8 8 slot.toNat)))))
  ∧ (∀ (s : State) (q : Req) (slot : Byte) (code : Nat), Reached s.toDev q Reg.CUE_SUBMIT_CMD 0 0 →
    (code = if 224 ≤ slot.toNat ∧ s.isLead q = false then 3 else if (s.slot slot.toNat).state = 1 then 0
      else if (s.slot slot.toNat).state = 0 ∨ (s.slot slot.toNat).state = 5 then 5 else 6) →
    (code ≠ 0 → Does (.cueCancel q slot) s (Noted (((disarmed s.toDev q).wg Reg.CUE_SUBMIT_CMD 0 0 (at_ 0 8 slot.toNat ||| at_ 8 2 2)).wg
      Reg.CUE_SUBMIT_RESULT 0 0 (1#32 ||| at_ 4 4 code ||| at_ 8 8 slot.toNat))))
    ∧ (code = 0 → Does (.cueCancel q slot) s (Noted ((((disarmed s.toDev q).wg Reg.CUE_SUBMIT_CMD 0 0 (at_ 0 8 slot.toNat ||| at_ 8 2 2)).setSlot slot.toNat
      { s.slot slot.toNat with state := 0 }).wg Reg.CUE_SUBMIT_RESULT 0 0 (1#32 ||| at_ 4 4 0 ||| at_ 8 8 slot.toNat)))))

/-- R85, R87: a write of CUE_EPOCH_CMD is kept for the next tick.
R33, R87, R88: an armed retiring epoch whose house count the dies' exchange finds zero is freed, and not before; at its retention limit it is freed in any case, and quarantined with event 6 while its count is not zero.
R88: a quarantined epoch leaves quarantine when its house count is zero, and only then. -/
def Obligations.EpochsRetire : Prop :=
  (∀ (s : State) (q : Req) (e : Fin 16), Reached s.toDev q Reg.CUE_EPOCH_CMD 0 0 →
    (Does (.epochCmdCommit q e) s (Noted { (disarmed s.toDev q).wg Reg.CUE_EPOCH_CMD 0 0 (at_ 0 4 e ||| at_ 4 2 1) with
      cue := { s.cue with epochCmds := s.cue.epochCmds ++ [(1, e.val)] } }))
    ∧ (Does (.epochCmdRetire q e) s (Noted { (disarmed s.toDev q).wg Reg.CUE_EPOCH_CMD 0 0 (at_ 0 4 e ||| at_ 4 2 2) with
      cue := { s.cue with epochCmds := s.cue.epochCmds ++ [(2, e.val)] } })))
  ∧ (∀ (s : State) (e : Nat), s.retiring = some e → e < 16 →
    (bit (s.rg Reg.CUE_EPOCH 0 0) 9 = true → s.houseOf e = 0 → Does .epochFree s fun t => t.retiring = none ∧ t.epochNow = s.epochNow ∧ t.quarantined e = s.quarantined e)
    ∧ (bit (s.rg Reg.CUE_EPOCH 0 0) 9 = false ∨ s.houseOf e ≠ 0 → exec .epochFree s = .next (s.put s.toDev.houseExchange s.latched))
    ∧ (s.cue.retireFrom + max 21 (s.rf Reg.CUE_RETAIN 0 0 0 8) * 1000000 ≤ s.cue.localNs → s.houseOf e ≠ 0 → s.tm.staged = [] →
      Does .retentionLimit s fun t => t.retiring = none ∧ t.quarantined e = true ∧ evtSet t bCUE 6 = true)
    ∧ (s.cue.retireFrom + max 21 (s.rf Reg.CUE_RETAIN 0 0 0 8) * 1000000 ≤ s.cue.localNs → s.houseOf e = 0 →
      Does .retentionLimit s fun t => t.retiring = none ∧ t.quarantined e = s.quarantined e)
    ∧ (s.cue.localNs < s.cue.retireFrom + max 21 (s.rf Reg.CUE_RETAIN 0 0 0 8) * 1000000 →
      exec .retentionLimit s = .next (s.put s.toDev.houseExchange s.latched)))
  ∧ (∀ (s : State) (e : Fin 16),
    (s.quarantined e = true → s.houseOf e = 0 → exec (.quarantineEnd e) s = .next (s.put (s.toDev.wf Reg.CUE_EPOCH 0 0 (16 + e.val) 1 0) s.latched)
      ∧ (s.toDev.wf Reg.CUE_EPOCH 0 0 (16 + e.val) 1 0).quarantined e = false)
    ∧ (s.quarantined e = false ∨ s.houseOf e ≠ 0 → exec (.quarantineEnd e) s = .next (s.put s.toDev s.latched)))

/-- R67, R69: a tick on which nothing is due advances the clock by 128 ns, carrying into the seconds, or makes the step that waits, with event 8; it puts the rate offset into force and moves a slew on. On a second boundary PPS_OUT rises.
R85, R101, R104: the commit of an epoch that the register asked for is done at the next tick: the epoch becomes current, the one before it retiring and not armed, and CUE_EPOCH.CMD_RESULT tells 1; while an epoch retires it is refused with 2; for the current epoch or a quarantined one with 3. No book is staged here, so the loader is left as it is. -/
def Obligations.TicksAndCommits : Prop :=
  (∀ (s : State) (e : BitVec 16), Quiet s.toDev → NoTrigger s.toDev →
    (s.cue.step = none → ¬ (s.cue.ns + 128 = 1000000000 ∧ bit (s.rg Reg.CUE_CTRL 0 0) 2 = true) → s.cue.ns + 128 ≤ 1000000000 →
      exec (.cueTick e) s = .next (s.put (ticked s.toDev e.toNat
        (if s.cue.ns + 128 < 1000000000 then s.cue.sec else (s.cue.sec + 1) % 2 ^ 48) ((s.cue.ns + 128) % 1000000000)) s.latched))
    ∧ (s.cue.step = none → s.cue.ns + 128 = 1000000000 → bit (s.rg Reg.CUE_CTRL 0 0) 2 = true →
      Does (.cueTick e) s fun t => t.cue.sec = (s.cue.sec + 1) % 2 ^ 48 ∧ t.cue.ns = 0 ∧ t.out = s.out ++ [.ppsOut]
        ∧ t.cue.todDue = s.cue.todDue ++ s.cue.todOut ∧ t.cue.todOut = [])
    ∧ (∀ sec ns, s.cue.step = some (sec, ns) → ns ≠ 0 → Does (.cueTick e) s fun t =>
      Noted (ticked s.toDev e.toNat sec ns) t ∧ evtSet t bCUE 8 = true))
  ∧ (∀ (s : State) (el : BitVec 16) (e : Fin 16), Still s.toDev → NoTrigger s.toDev →
    s.cue.epochCmds = [(1, e.val)] → s.cue.step = none → s.cue.ns + 128 < 1000000000 → s.pbkState ≠ 4 → s.pbkState ≠ 5 →
    (∀ r, s.retiring = some r → r < 16 → bit (s.rg Reg.CUE_EPOCH 0 0) 9 = false → s.cue.localNs + el.toNat < s.cue.retireFrom + s.retainMs * 1000000 →
      Does (.cueTick el) s fun t => t.epochNow = s.epochNow ∧ t.retiring = some r ∧ t.rf Reg.CUE_EPOCH 0 0 10 2 = 2 ∧ t.cue.epochCmds = [])
    ∧ (e.val ≠ s.epochNow → s.retiring = none → s.quarantined e = false → Does (.cueTick el) s fun t =>
      t.epochNow = e ∧ t.retiring = some s.epochNow ∧ t.rf Reg.CUE_EPOCH 0 0 9 1 = 0 ∧ t.rf Reg.CUE_EPOCH 0 0 10 2 = 1
        ∧ t.cue.retireFrom = s.cue.localNs + el.toNat ∧ t.cue.epochCmds = [] ∧ t.pbk = s.pbk ∧ t.rg Reg.PBK_STATE 0 0 = s.rg Reg.PBK_STATE 0 0)
    ∧ (s.retiring = none → e.val = s.epochNow ∨ s.quarantined e = true → Does (.cueTick el) s fun t =>
      t.epochNow = s.epochNow ∧ t.retiring = none ∧ t.rf Reg.CUE_EPOCH 0 0 10 2 = 3))

/-- R92: a write of TAB_TRIGGER.GO asks for a tableau; an edge of TABLEAU_IN does while IN_EN is 1. R93: a release clears HELD, and with it the latched copy.
R92, R93: on the tick after a trigger through the register the device as that tick found it is latched, HELD is set, GEN counts, and the tableau's time is that of the tick; while one is held and OVERWRITE is 0 the trigger is refused, counted, and the held copy stays. -/
def Obligations.TableauTakenAtTick : Prop :=
  (∀ (s : State) (q : Req) (sub : Fin 128),
    (Reached s.toDev q Reg.TAB_TRIGGER 0 0 → Does (.triggerGo q true) s (Noted { disarmed s.toDev q with tab := { s.tab with regReq := true } })
      ∧ Does (.triggerGo q false) s (Noted (disarmed s.toDev q)))
    ∧ (bit (s.rg Reg.TAB_CTRL 0 0) 0 = true →
      exec (.tableauInEdge sub) s = .next (s.put { s.toDev with tab := { s.tab with pinReq := s.tab.pinReq ++ [s.cue.localNs + sub.val] } } s.latched))
    ∧ (bit (s.rg Reg.TAB_CTRL 0 0) 0 = false → exec (.tableauInEdge sub) s = .next (s.put s.toDev s.latched))
    ∧ (Reached s.toDev q Reg.TAB_STATUS 0 0 → ∃ t, exec (.tableauRelease q) s = .next t ∧ t.pending = s.pending ∧ t.latched = none
      ∧ Noted ((disarmed s.toDev q).wf Reg.TAB_STATUS 0 0 0 1 0) t.toDev))
  ∧ (∀ (s : State) (e : BitVec 16), Quiet s.toDev → s.tab.regReq = true → s.tab.pinReq = [] → s.cue.step = none → s.cue.ns + 128 < 1000000000 →
    (s.tabHeld = false → s.sta.copying = false → s.tabRange.2 = 0 → ∃ t, exec (.cueTick e) s = .next t ∧ t.pending = s.pending
      ∧ t.latched = some (ticked s.toDev e.toNat s.cue.sec (s.cue.ns + 128))
      ∧ t.rg Reg.TAB_STATUS 0 0 = (1#32 ||| at_ 1 3 2 ||| at_ 8 16 (s.rf Reg.TAB_STATUS 0 0 8 16 + 1))
      ∧ t.tab = { s.tab with regReq := false, sec := s.cue.sec, ns := s.cue.ns + 128 }
      ∧ t.out = s.out ++ (if bit (s.rg Reg.TAB_CTRL 0 0) 1 then [.tableauOut] else []))
    ∧ (s.tabHeld = true → bit (s.rg Reg.TAB_CTRL 0 0) 2 = false → ∃ t, exec (.cueTick e) s = .next t ∧ t.pending = s.pending
      ∧ t.latched = s.latched ∧ t.tab = { s.tab with regReq := false }
      ∧ t.rg Reg.TAB_REFUSED 0 0 = w32 (sat32 ((s.rg Reg.TAB_REFUSED 0 0).toNat + 1)) ∧ t.rg Reg.TAB_STATUS 0 0 = s.rg Reg.TAB_STATUS 0 0))

/-- R84: a write of CUE_STROBE_FIRE keeps a request for the next tick for a group that is idle, queues one for a group that applies or waits, up to four, and refuses a further one with event 5. R83: an application completes once no packet is inside a section that it began before the firing, or 19 ticks after it, and not before; its group is free again, and the old values go but for those that another application or a packet still inside needs.
R47, R50, R83: a firing of a group applies at the tick: each staged register of a sub-block mapped to the group takes its wing, the wings stay, WING_PEND clears, and the group applies. Shown for a group to which only sub-blocks of QAD are mapped; those of QAD mapped elsewhere keep their value. -/
def Obligations.StrobesFire : Prop :=
  (∀ (s : State) (q : Req) (g : Fin 32) (m : W32),
    (Reached s.toDev q Reg.CUE_STROBE_FIRE 0 0 → (∀ k < 32, bit m k = true → (s.group k).applying = false ∧ (s.group k).waiting = 0) →
      Does (.strobeFire q m) s (Noted { disarmed s.toDev q with cue := { s.cue with fireReq := s.cue.fireReq ++ (List.range 32).filter (bit m) } }))
    ∧ (Reached s.toDev q Reg.CUE_STROBE_FIRE 0 0 → ((s.group g).applying = true ∨ (s.group g).waiting ≠ 0) →
      ((s.group g).waiting < 4 →
        Does (.strobeFire q (setBit 0 g true)) s (Noted ((disarmed s.toDev q).setGroup g { s.group g with waiting := (s.group g).waiting + 1 })))
      ∧ (4 ≤ (s.group g).waiting → Does (.strobeFire q (setBit 0 g true)) s fun t => evtSet t bCUE 5 = true
        ∧ Noted ((disarmed s.toDev q).wg Reg.CUE_STROBE_REFUSED 0 0 (setBit (s.rg Reg.CUE_STROBE_REFUSED 0 0) g true)) t))
    ∧ ((s.group g).applying = true → s.cue.mapWaits = [] → (∀ k, s.insideSince k = false) → exec (.strobeApplicationComplete g) s = .next (s.put { s.toDev with
      cue := { s.cue with
        groups := mset {} s.cue.groups g { s.group g with applying := false, tick := 0 }
        oldRegs := s.cue.oldRegs.filter fun o => o.group != g.val && (s.group o.group).applying
        oldObjs := s.cue.oldObjs.filter fun o => o.group != g.val && (s.group o.group).applying } } s.latched))
    ∧ ((s.group g).applying = true → s.insideSince (s.group g).tick = true → s.cue.tickNo < (s.group g).tick + 19 →
      exec (.strobeApplicationComplete g) s = .next (s.put s.toDev s.latched))
    ∧ ((s.group g).applying = true → s.cue.mapWaits = [] → (s.group g).tick + 19 ≤ s.cue.tickNo → Does (.strobeApplicationComplete g) s fun t =>
      t.group g = { s.group g with applying := false, tick := 0 } ∧ ∀ o ∈ s.cue.oldRegs, s.insideSince o.tick = true → o ∈ t.cue.oldRegs)
    ∧ ((s.group g).applying = false → exec (.strobeApplicationComplete g) s = .next (s.put s.toDev s.latched)))
  ∧ (∀ (s : State) (e : BitVec 16) (g : Nat), Quiet { s.toDev with cue := { s.cue with fireReq := [] } } → NoTrigger s.toDev → s.cue.step = none →
    s.cue.ns + 128 < 1000000000 → g < 32 → s.cue.fireReq = [g] → s.group g = {} →
    (∀ b < 29, ∀ k ∈ subsOf b, s.groupOf b k = g → b = bQAD) →
    Does (.cueTick e) s fun t => t.wings = s.wings ∧ (t.group g).applying = true ∧ t.cue.fireReq = []
      ∧ ∀ r ∈ [Reg.QAD_POOL_MIN, Reg.QAD_POOL_MAX, Reg.QAD_ECN_CFG], ∀ i < r.n,
        (s.groupOf bQAD r.sub = g → t.rg r 0 i = ((s.rg r 0 i &&& ~~~r.rs) ||| (s.wing r 0 i &&& r.rs)) ∧ t.rf Reg.WING_PEND 0 bQAD r.sub 1 = 0)
        ∧ (s.groupOf bQAD r.sub ≠ g → t.rg r 0 i = s.rg r 0 i))

/-- R101, R106: an operation that the loader's state does not allow, or that arrives while another runs, is refused with CODE 0x0D and event 4; the state stays. STAGE and COLD_INSTALL while an epoch retires: 0x0E. STAGE of a case that needs a cold install: 0x11. RESHAPE_REGION of a region that is not drained: 0x10. END_SPLIT before both regions are reshaped: 0x12.
R102: CHECK leaves NONE, ACTIVE or CHECKED for CHECKING with BUSY 1 and CODE kept; a source that the register calls reserved will end it with CODE 2.
R101, R102: the end of a CHECK. A book that passed is held as checked, with its case and reasons, in CHECKED, with event 0; otherwise the loader returns to ACTIVE or NONE with the CODE and event 4, and holds no checked book; a read of staging that meets an uncorrectable error ends it with CODE 2, and HBM event 4. -/
def Obligations.LoaderChecks : Prop :=
  (∀ (s : State) (q : Req) (r : Fin 2) (code : Nat) (i : Instr), Reached s.toDev q Reg.PBK_CMD 0 0 →
    ((i = .check q ∧ code = 0x0D ∧ (s.pbkBusy = true ∨ ¬ s.pbkState ∈ [0, 1, 3]))
      ∨ (i = .coldInstall q ∧ code = 0x0D ∧ (s.pbkBusy = true ∨ ¬ s.pbkState ∈ [0, 1, 3]))
      ∨ (i = .coldInstall q ∧ code = 0x0E ∧ s.pbkBusy = false ∧ s.pbkState ∈ [0, 1, 3] ∧ s.retiring ≠ none)
      ∨ (i = .stage q ∧ code = 0x0D ∧ (s.pbkBusy = true ∨ s.pbkState ≠ 3))
      ∨ (i = .stage q ∧ code = 0x11 ∧ s.pbkBusy = false ∧ s.pbkState = 3 ∧ (s.pbkCase = 1 ∨ s.pbkCase = 4))
      ∨ (i = .stage q ∧ code = 0x0E ∧ s.pbkBusy = false ∧ s.pbkState = 3 ∧ s.pbkCase ≠ 1 ∧ s.pbkCase ≠ 4 ∧ s.retiring ≠ none)
      ∨ (i = .abort q ∧ code = 0x0D ∧ (s.pbkBusy = true ∨ (s.pbkState ≠ 3 ∧ s.pbkState ≠ 5)))
      ∨ (i = .reshapeRegion q r ∧ code = 0x0D ∧ (s.pbkBusy = true ∨ s.splitStates = false))
      ∨ (i = .reshapeRegion q r ∧ code = 0x10 ∧ s.pbkBusy = false ∧ s.splitStates = true
          ∧ (bit (s.rg Reg.PBK_SPLIT 0 0) r = false ∨ s.inIngress r = true))
      ∨ (i = .endSplit q ∧ code = 0x0D ∧ (s.pbkBusy = true ∨ s.splitStates = false))
      ∨ (i = .endSplit q ∧ code = 0x12 ∧ s.pbkBusy = false ∧ s.splitStates = true ∧ (s.reshaped 0 = false ∨ s.reshaped 1 = false))) →
    Does i s fun t => evtSet t bPBK 4 = true ∧ Noted ((disarmed s.toDev q).wf Reg.PBK_STATE 0 0 8 8 code) t)
  ∧ (∀ (s : State) (q : Req), Reached s.toDev q Reg.PBK_CMD 0 0 → s.pbkBusy = false → s.pbkState ∈ [0, 1, 3] →
    Does (.check q) s fun t => t.pbkState = 2 ∧ t.pbkBusy = true ∧ t.rf Reg.PBK_STATE 0 0 8 8 = s.rf Reg.PBK_STATE 0 0 8 8
      ∧ t.pbk.inForce = s.pbk.inForce ∧ t.pbk.checked = none ∧ t.pbk.busyOp = 1
      ∧ (s.rf Reg.PBK_LOAD_CTRL 0 0 0 2 = 3 → t.pbk.code = 2 ∧ t.pbk.result = none)
      ∧ Noted ({ disarmed s.toDev q with pbk := t.pbk }.wg Reg.PBK_STATE 0 0 (t.rg Reg.PBK_STATE 0 0)) t)
  ∧ (∀ (s : State) (b : Book), s.pbkState = 2 →
    (s.pbk.busyOp = 1 → s.pbk.code = 0 → s.pbk.result = some b → Does (.checkComplete false) s fun t => evtSet t bPBK 0 = true
      ∧ Noted (({ s.toDev with pbk := { s.pbk with checked := some b, result := none, busyOp := 0 } }.wg Reg.PBK_REASONS 0 0 (w32 s.pbk.reasons)).setPbk
          3 0 s.pbk.case false) t)
    ∧ (s.pbk.code ≠ 0 → Does (.checkComplete false) s fun t => evtSet t bPBK 4 = true
      ∧ Noted ({ s.toDev with pbk := { s.pbk with checked := none, result := none, busyOp := 0 } }.setPbk (if s.pbk.inForce.isSome then 1 else 0) s.pbk.code 0 false) t)
    ∧ (s.rf Reg.PBK_LOAD_CTRL 0 0 0 2 = 2 → s.reactOf 12 = 0 → Does (.checkComplete true) s fun t => evtSet t bPBK 4 = true ∧ evtSet t bHBM 4 = true
      ∧ t.pbkState = (if s.pbk.inForce.isSome then 1 else 0) ∧ t.rf Reg.PBK_STATE 0 0 8 8 = 2 ∧ t.pbk.checked = none ∧ t.pbk.inForce = s.pbk.inForce)
    ∧ (s.rf Reg.PBK_LOAD_CTRL 0 0 0 2 ≠ 2 → Does (.checkComplete true) s fun t => evtSet t bPBK 4 = true
      ∧ Noted ({ s.toDev with pbk := { s.pbk with checked := none, result := none, busyOp := 0 } }.setPbk (if s.pbk.inForce.isSome then 1 else 0) 2 0 false) t))

/-- R103, R108: STAGE of a checked book of case EPOCH or REGION enters STAGING; its end enters STAGED with CODE 0 and event 1, and opens the split in case REGION.
R109: ABORT in CHECKED discards the checked book and returns to ACTIVE or NONE; in STAGED, with no region reshaped, it discards the staged book, closes the split and returns to ACTIVE, with event 6 where a split was open. -/
def Obligations.LoaderStages : Prop :=
  (∀ (s : State) (q : Req),
    (Reached s.toDev q Reg.PBK_CMD 0 0 → s.pbkBusy = false → s.pbkState = 3 → s.pbkCase ≠ 1 → s.pbkCase ≠ 4 → s.retiring = none →
      Does (.stage q) s (Noted ({ disarmed s.toDev q with pbk := { s.pbk with busyOp := 2 } }.setPbk 4 (s.rf Reg.PBK_STATE 0 0 8 8) s.pbkCase true)))
    ∧ (s.pbkState = 4 → s.pbkCase ≠ 3 → Does .stageComplete s fun t => evtSet t bPBK 1 = true
      ∧ Noted ({ s.toDev with pbk := { s.pbk with busyOp := 0 } }.setPbk 5 0 s.pbkCase false) t)
    ∧ (s.pbkState = 4 → s.pbkCase = 3 → ∀ o, s.pbk.inForce = some o → ∀ n, s.pbk.checked = some n → Does .stageComplete s fun t =>
      evtSet t bPBK 1 = true ∧ t.splitOpen = true ∧ t.reshaped 0 = false ∧ t.reshaped 1 = false
        ∧ t.pbk = { s.pbk with busyOp := 0, changed := (tableChanges o n).map Prod.fst } ∧ t.pbkState = 5)
    ∧ (s.pbkState ≠ 4 → exec .stageComplete s = .next (s.put s.toDev s.latched)))
  ∧ (∀ (s : State) (q : Req), Reached s.toDev q Reg.PBK_CMD 0 0 → s.pbkBusy = false →
    (s.pbkState = 3 → Does (.abort q) s (Noted ({ disarmed s.toDev q with pbk := { s.pbk with checked := none, result := none, changed := [], former := none } }.setPbk
      (if s.pbk.inForce.isSome then 1 else 0) 0 0 false)))
    ∧ (s.pbkState = 5 → s.reshaped 0 = false → s.reshaped 1 = false → Does (.abort q) s fun t => (s.splitOpen = true → evtSet t bPBK 6 = true)
      ∧ Noted (({ disarmed s.toDev q with pbk := { s.pbk with checked := none, result := none, changed := [], former := none } }.wf Reg.PBK_SPLIT 0 0 8 3 0).setPbk 1 0 0 false) t))

/-- R101, R107: COLD_INSTALL from NONE or ACTIVE begins with a CHECK, and goes on when that passes. Of a checked book: with none in force it installs at once, else both regions are told to drain; with every house count at zero the drain ends; once the retention limit has passed it ends with what the pipelines still hold flushed, and not before. The first installation puts the book into force in ACTIVE.
R109: RESHAPE_REGION of a drained region runs with BUSY 1; its end marks the region RESHAPED with event 5, leaves the other region's tables as they are, and has its changed tables loaded in the new shapes; END_SPLIT with both regions reshaped closes the split with event 6, each changed table's seed being its default again. -/
def Obligations.LoaderInstalls : Prop :=
  (∀ (s : State) (q : Req) (b : Book),
    (Reached s.toDev q Reg.PBK_CMD 0 0 → s.pbkBusy = false → s.pbkState = 3 → s.retiring = none →
      (s.pbk.inForce = none → Does (.coldInstall q) s (Noted { (disarmed s.toDev q).setPbk 3 (s.rf Reg.PBK_STATE 0 0 8 8) s.pbkCase true with
        pbk := { s.pbk with busyOp := 4, phase := 2 } }))
      ∧ (s.pbk.inForce ≠ none → Does (.coldInstall q) s fun t => t.pbkBusy = true ∧ t.rf Reg.PBK_SPLIT 0 0 0 2 = 3
        ∧ t.pbk = { s.pbk with busyOp := 4, phase := 1, drainFrom := s.cue.localNs }))
    ∧ (Reached s.toDev q Reg.PBK_CMD 0 0 → s.pbkBusy = false → s.pbkState = 0 ∨ s.pbkState = 1 → s.retiring = none →
      Does (.coldInstall q) s fun t => t.pbkState = 2 ∧ t.pbkBusy = true ∧ t.pbk.busyOp = 4 ∧ t.pbk.checked = none ∧ t.pbk.inForce = s.pbk.inForce)
    ∧ (s.pbkState = 2 → s.pbk.busyOp = 4 → s.pbk.code = 0 → s.pbk.result = some b → s.pbk.inForce = none → Does (.checkComplete false) s fun t =>
      evtSet t bPBK 0 = true ∧ t.pbkState = 3 ∧ t.pbkBusy = true ∧ t.pbk = { s.pbk with checked := some b, result := none, busyOp := 4, phase := 2 })
    ∧ (s.pbk.busyOp = 4 → s.pbk.phase = 1 → s.retiring = none →
      (s.houseOf s.epochNow = 0 → exec .coldInstallDrainEnd s = .next (s.put { s.toDev with pbk := { s.pbk with phase := 2 } } s.latched))
      ∧ (s.houseOf s.epochNow ≠ 0 → s.cue.localNs < s.pbk.drainFrom + s.retainMs * 1000000 →
        exec .coldInstallDrainEnd s = .next (s.put s.toDev s.latched))
      ∧ (s.houseOf s.epochNow ≠ 0 → s.pbk.drainFrom + s.retainMs * 1000000 ≤ s.cue.localNs → Does .coldInstallDrainEnd s fun t =>
        t.pbk = { s.pbk with phase := 2 } ∧ t.ing.pipe = [] ∧ t.tm.urgent = [] ∧ t.tm.general = [] ∧ t.tm.repl = [] ∧ t.tm.toEgress = []))
    ∧ (s.pbk.busyOp = 4 → s.pbk.phase = 2 → s.pbk.checked = some b → s.pbk.inForce = none → Does .coldInstallComplete s fun t =>
      t.pbk = { s.pbk with inForce := some b, old := none, checked := none, busyOp := 0, changed := [], former := none }
        ∧ t.pbkState = 1 ∧ t.pbkBusy = false ∧ t.sta.alloc = b.alloc ∧ t.sta.snap = b.snap ∧ t.sta.hbm = [] ∧ t.sta.cache = []
        ∧ t.rf Reg.DVT_XSIZE 0 0 0 7 = b.xsize % 128 ∧ t.ing.pred = [] ∧ ∀ x ∈ b.tables, x.id ∈ t.int.loaded ∧ 128 + x.id ∈ t.int.loaded))
  ∧ (∀ (s : State) (q : Req) (r : Fin 2),
    (Reached s.toDev q Reg.PBK_CMD 0 0 → s.pbkBusy = false → s.splitStates = true → bit (s.rg Reg.PBK_SPLIT 0 0) r = true → s.inIngress r = false →
      Does (.reshapeRegion q r) s (Noted ({ disarmed s.toDev q with pbk := { s.pbk with busyOp := 5, region := r } }.wf Reg.PBK_STATE 0 0 24 1 1)))
    ∧ (s.pbk.busyOp = 5 → s.pbk.region = r.val → Does .reshapeRegionComplete s fun t =>
      evtSet t bPBK 5 = true ∧ t.reshaped r = true ∧ t.reshaped (1 - r.val) = s.reshaped (1 - r.val) ∧ t.pbkBusy = false ∧ t.pbkState = s.pbkState
        ∧ t.pbk = { s.pbk with busyOp := 0 } ∧ t.rep (1 - r.val) = s.rep (1 - r.val) ∧ ∀ i ∈ s.pbk.changed, r.val * 128 + i ∈ t.int.loaded)
    ∧ (Reached s.toDev q Reg.PBK_CMD 0 0 → s.pbkBusy = false → s.splitStates = true → s.reshaped 0 = true → s.reshaped 1 = true →
      Does (.endSplit q) s fun t => evtSet t bPBK 6 = true ∧ t.splitOpen = false ∧ t.pbkBusy = false
        ∧ t.pbkState = (if s.pbkState = 7 then 1 else s.pbkState) ∧ ∀ i ∈ s.pbk.changed, ∀ x, (i, x) ∉ t.tbl.seeds))

/-- R10, R12: issuing a flit loses and reorders no byte: the bytes of the flits that are kept, followed by those still to be packed, stay what they were once the next crossings are packed; a full flit carries 248 of them, has the next number and goes on the next bundle of the rotation.
R10, R15, R16, R18: of the flits that were issued, one on a bundle out of the rotation is not taken. A damaged one, or one that is not as it was issued, is counted, and its replay is asked for. An intact one frees the other direction's buffer up to the flit that it acknowledges (log entry 22: whatever the bundle); the awaited one is delivered; one that was delivered before is not delivered again; a later one waits with its bytes.
R16, R18: a replay request has the sender send every buffered flit from the requested one on, in order, and counts. A bundle that has replayed a flit less than 16 times and keeps lock stays in the rotation; one that lost lock, or has replayed a flit 16 times, leaves it and retrains; a retrained one rejoins it.
R19, R441: a bundle that fails to retrain, or a third bundle that leaves, makes the Dovetail failed; that stops the device whatever reaction is configured. Shown on a device whose ports are off, whose queues are empty and whose fabric lanes are out. -/
def Obligations.DovetailCarries : Prop :=
  (∀ (s : Dev) (dir : Fin 2),
    (((s.issueFlit dir).dvt dir).replayBuf.flatMap Flit.data ++ ((s.issueFlit dir).dvt dir).pack
      = ((s.packFlit dir 8).dvt dir).replayBuf.flatMap Flit.data ++ ((s.packFlit dir 8).dvt dir).pack)
    ∧ (∀ b, 248 ≤ (s.dvt dir).pack.length → (s.dvt dir).after (s.dvt dir).last = some b →
      ((s.dvt dir).replayBuf.filter fun f => f.bundle == b).length < 512 →
      ((s.issueFlit dir).dvt dir).replayBuf = (s.dvt dir).replayBuf ++ [{ bundle := b, seq := (s.dvt dir).sent, data := (s.dvt dir).pack.take 248 }]
        ∧ ((s.issueFlit dir).dvt dir).sent = (s.dvt dir).sent + 1 ∧ ((s.issueFlit dir).dvt dir).last = b))
  ∧ (∀ (s : State) (dir : Fin 2) (b : Fin 16) (seq ack : W32) (flit : List Byte),
    (b.val ∈ (s.dvt dir).out → exec (.flitReceive dir b seq ack flit) s = .next (s.put s.toDev s.latched))
    ∧ (b.val ∉ (s.dvt dir).out → seq.toNat < (s.dvt dir).sent →
      ((s.dvt dir).intact b seq.toNat flit = false → Does (.flitReceive dir b seq ack flit) s fun t =>
        t.dvt dir = { s.dvt dir with waiting := true } ∧ t.dvt (1 - dir.val) = s.dvt (1 - dir.val)
          ∧ t.rg Reg.DVT_CNT_CRC 0 dir = w32 (sat32 ((s.rg Reg.DVT_CNT_CRC 0 dir).toNat + 1)) ∧ Sent s.toDev t (.replayRequest dir seq.toNat))
      ∧ ((s.dvt dir).intact b seq.toNat flit = true → Does (.flitReceive dir b seq ack flit) s fun t =>
          (t.dvt (1 - dir.val)).replayBuf = (s.dvt (1 - dir.val)).replayBuf.filter (fun f => decide (ack.toNat < f.seq))
            ∧ (seq.toNat < (s.dvt dir).next → t.dvt dir = s.dvt dir)
            ∧ ∀ f : Flit, (s.dvt dir).replayBuf.find? (fun f => f.seq == seq.toNat) = some f →
              (seq.toNat = (s.dvt dir).next → (s.dvt dir).held = [] → (t.dvt dir).next = seq.toNat + 1 ∧ (t.dvt dir).held = [] ∧ (t.dvt dir).waiting = false
                ∧ (t.dvt dir).delivered = (s.dvt dir).delivered + f.data.length)
              ∧ ((s.dvt dir).next < seq.toNat → (t.dvt dir).next = (s.dvt dir).next ∧ (t.dvt dir).delivered = (s.dvt dir).delivered
                ∧ (seq.toNat, f.data.length) ∈ (t.dvt dir).held))))
  ∧ (∀ (s : State) (dir : Fin 2) (b : Fin 16) (seq : W32),
    (Does (.replayRequest dir b seq) s fun t =>
      (t.dvt dir).replayBuf = (s.dvt dir).replayBuf ∧ t.rg Reg.DVT_CNT_REPLAY 0 dir = w32 (sat32 ((s.rg Reg.DVT_CNT_REPLAY 0 dir).toNat + 1))
        ∧ ∃ l, t.out = s.out ++ ((s.dvt dir).replayBuf.filter fun f => decide (seq.toNat ≤ f.seq)).map (fun f => .flitResend dir f.bundle f.seq f.data) ++ l)
    ∧ ((∀ e ∈ (s.dvt dir).replays, e.2.2 < 16) → exec (.bundleLeaveRotation dir b false) s = .next (s.put s.toDev s.latched))
    ∧ (∀ lost : Bool, (lost = true ∨ ∃ e, (s.dvt dir).replays.find? (fun e => e.1 == b.val) = some e ∧ 16 ≤ e.2.2) →
      b.val ∉ (s.dvt dir).out → (s.dvt dir).out.length < 2 → s.rf Reg.DVT_LINK_STATUS 0 dir 0 3 ≠ 4 → s.reactOf 8 = 0 → Does (.bundleLeaveRotation dir b lost) s fun t =>
      (t.dvt dir).out = b.val :: (s.dvt dir).out ∧ t.rf Reg.DVT_LINK_STATUS 0 dir 0 3 = 3 ∧ t.rf Reg.DVT_LINK_STATUS 0 dir (16 + b.val) 1 = 0
        ∧ t.rg Reg.DVT_CNT_RETRAIN 0 dir = w32 (sat32 ((s.rg Reg.DVT_CNT_RETRAIN 0 dir).toNat + 1)) ∧ evtSet t bINT 7 = true)
    ∧ ((s.dvt dir).out = [b.val] → (bundleUnit dir b).code.toNat ∉ s.int.units → s.rf Reg.DVT_LINK_STATUS 0 dir 0 3 = 3 →
      Does (.bundleRetrainComplete dir b true) s fun t => (t.dvt dir).out = [] ∧ t.rf Reg.DVT_LINK_STATUS 0 dir 0 3 = 2
        ∧ t.rf Reg.DVT_LINK_STATUS 0 dir (16 + b.val) 1 = 1 ∧ Noted { s.toDev with dvtFT := t.dvtFT, dvtTF := t.dvtTF, regs := t.regs } t))
  ∧ (∀ (s : State) (dir : Fin 2) (b : Fin 16), s.stopped = false → (∀ p < 256, s.portState p = 0) → (∀ l < 320, s.laneUp l = false) → s.tm = {} →
    s.ing = {} → s.int.units = [] → s.reactOf 8 = 0 →
    (b.val ∈ (s.dvt dir).out → Does (.bundleRetrainComplete dir b false) s fun t =>
      t.stopped = true ∧ t.rf Reg.DVT_LINK_STATUS 0 dir 0 3 = 4 ∧ evtSet t bINT 8 = true)
    ∧ (b.val ∉ (s.dvt dir).out → (s.dvt dir).out.length = 2 → Does (.bundleLeaveRotation dir b true) s fun t =>
      t.stopped = true ∧ t.rf Reg.DVT_LINK_STATUS 0 dir 0 3 = 4 ∧ evtSet t bINT 8 = true))

/-- R117, R118: a port that is up and meets a cause of the list goes down: STATE 3, the CAUSE, event 0, its watch dead, its generator stopped, and it counts; with HOLD_MS 0 its hold time is over at once. Any other port notes the cause, which STATUS shows while the port is enabled. R113: a port with a fault of its own of the causes 1 to 4 or 6 sends remote fault. R129: a port that goes down abandons the watch of its step, or completes a step that waits for the far end, with event 3.
R117, R118, R217, R291: a port that waits for link, with no cause of the device's own, is declared up: STATE 2, event 1, no cause left, its generator running; its watch is live at once with REVERT_MS 0, not before its REVERT_MS otherwise, and stays dead while it is latched. The hold time ends in STATE 4, with SCH event 0 and event 2; without a hold it is nothing.
R115, R116: the end of link training shows its result, with the trained coefficients, or event 7 and a new start; a lock of a lane that is its port's last clears the port's causes 1 and 2; a PRBS checker counts its errors, and event 6 tells that it lost lock. -/
def Obligations.PortsAndLanes : Prop :=
  (∀ (s : State) (p : Fin 256) (c : Fin 11), c ≠ 0 → (s.gen p).issued = [] → s.tm.staged = [] →
    (s.portState p = 2 → s.pRf Reg.LNP_PORT_CFG p 22 8 ≠ 0 →
      Does (.portDown p c) s fun t => t.portState p = 3 ∧ t.pRf Reg.LNP_PORT_STATUS p 4 4 = c ∧ bit (t.port p).causes c = true
        ∧ evtSet t bLNP 0 = true ∧ t.counter bLNP 2 p 3 = s.counter bLNP 2 p 3 + 1 ∧ p.val ∉ t.tbl.live ∧ (t.gen p).running = false
        ∧ ((s.port p).step = none → (t.port p).step = none)
        ∧ (∀ r, (s.port p).step = some r → r.phase ≠ 3 → (t.port p).step = some { r with watch := false, expectRx := false })
        ∧ (∀ r, (s.port p).step = some r → r.phase = 3 → (t.port p).step = none ∧ t.pRf Reg.LNP_RF_STATUS p 0 3 = 0 ∧ evtSet t bLNP 3 = true)
        ∧ (∀ p' : Fin 256, p' ≠ p → t.portState p' = s.portState p' ∧ t.port p' = s.port p'))
    ∧ (s.portState p = 2 → s.pRf Reg.LNP_PORT_CFG p 22 8 = 0 → s.portQueues p = [] → (s.port p).step = none →
      Does (.portDown p c) s fun t => t.portState p = 4 ∧ evtSet t bLNP 0 = true ∧ evtSet t bLNP 2 = true ∧ evtSet t bSCH 0 = true))
  ∧ (∀ (s : State) (p : Fin 256) (c : Fin 11), c ≠ 0 →
    (s.portState p ≠ 0 → s.portState p ≠ 2 → c ≠ 1 → Does (.portDown p c) s fun t => Noted ((s.toDev.setPort p
      { s.port p with causes := setBit (s.port p).causes c true, remoteFault := t.localFault p }).pWf Reg.LNP_PORT_STATUS p 4 4 c) t)
    ∧ (s.portState p = 0 → c ≠ 1 → Does (.portDown p c) s fun t => Noted (s.toDev.setPort p
      { s.port p with causes := setBit (s.port p).causes c true, remoteFault := t.localFault p }) t)
    ∧ (s.portState p ≠ 2 → c = 1 → s.portOn p = true → Does (.portDown p c) s fun t => bit (t.port p).causes 1 = true
      ∧ ∀ i < cfgWidth (s.portCfg p), p % 16 + i < 16 → t.pRf Reg.LNP_LANE_STATUS (p + i) 0 1 = 0)
    ∧ (s.portState p ≠ 2 → s.portOn p = true → (s.port p).remoteFault = false → c.val ∈ [1, 2, 3, 4, 6] →
      Does (.portDown p c) s fun t => Sent s.toDev t (.remoteFault p true))
    ∧ exec (.portDown p 0) s = .next (s.put s.toDev s.latched))
  ∧ (∀ (s : State) (p : Fin 256),
    (s.portState p ∈ [1, 3, 4] → (s.port p).causes &&& 0x700#32 = 0 → s.cageHolds p = false → s.clusterIso (p.val / 16) = false →
      (s.portMode p = 6 → bit (s.port p).causes 6 = false) →
      Does (.portUp p) s fun t =>
        t.portState p = 2 ∧ evtSet t bLNP 1 = true ∧ (t.port p).causes = 0 ∧ (t.port p).remoteFault = false ∧ (t.gen p).running = true
          ∧ (p.val ∉ s.tbl.latched → fld (s.rg Reg.FIB_WATCH_CFG 0 p) 8 8 = 0 → p.val ∈ t.tbl.live)
          ∧ (p.val ∉ s.tbl.latched → fld (s.rg Reg.FIB_WATCH_CFG 0 p) 8 8 ≠ 0 → t.tbl.live = s.tbl.live
            ∧ (p.val, s.cue.localNs + fld (s.rg Reg.FIB_WATCH_CFG 0 p) 8 8 * 1000000) ∈ t.tbl.revertAt)
          ∧ (p.val ∈ s.tbl.latched → t.tbl.live = s.tbl.live ∧ t.tbl.revertAt = s.tbl.revertAt))
    ∧ (s.portState p ∉ [1, 3, 4] ∨ (s.port p).causes &&& 0x700#32 ≠ 0 ∨ s.cageHolds p = true ∨ s.clusterIso (p.val / 16) = true ∨ (s.portMode p = 6 ∧ bit (s.port p).causes 6 = true) →
      exec (.portUp p) s = .next (s.put s.toDev s.latched))
    ∧ (s.portState p = 3 → s.portQueues p = [] → Does (.holdExpiry p) s fun t =>
      evtSet t bSCH 0 = true ∧ evtSet t bLNP 2 = true ∧ Noted ((s.toDev.pWf Reg.LNP_PORT_STATUS p 0 3 4).setGen p { s.gen p with running := true }) t)
    ∧ (s.portState p ≠ 3 → exec (.holdExpiry p) s = .next (s.put s.toDev s.latched)))
  ∧ (∀ (s : State) (l : Fin 256) (c0 c1 errors : W32) (lock : Bool),
    (s.pRf Reg.LNP_LANE_CTRL l 0 2 ∈ [1, 2] →
      exec (.linkTrainingEnd l true c0 c1) s = .next (s.put ((s.toDev.pWf Reg.LNP_LANE_STATUS l 1 3 2).setObj bLNP 0x21 l [c0, c1]) s.latched)
      ∧ Does (.linkTrainingEnd l false c0 c1) s fun t => evtSet t bLNP 7 = true ∧ t.pRf Reg.LNP_LANE_STATUS l 1 3 = 1)
    ∧ (s.pRf Reg.LNP_LANE_CTRL l 0 2 ∉ [1, 2] → ∀ ok, exec (.linkTrainingEnd l ok c0 c1) s = .next (s.put s.toDev s.latched))
    ∧ (s.portOn l = true → cfgWidth (s.portCfg l) = 1 → (∀ p : Fin 256, p ≠ l → s.portOn p = false) → Does (.laneLock l) s fun t =>
      bit (t.port l).causes 1 = false ∧ bit (t.port l).causes 2 = false
      ∧ Noted ((s.toDev.pWf Reg.LNP_LANE_STATUS l 0 1 1).setPort l
        { s.port l with causes := setBit (setBit (s.port l).causes 1 false) 2 false, remoteFault := t.localFault l }) t)
    ∧ ((∀ p : Fin 256, s.portOn p = false) → exec (.laneLock l) s = .next (s.put (s.toDev.pWf Reg.LNP_LANE_STATUS l 0 1 1) s.latched))
    ∧ (1 ≤ s.pRf Reg.LNP_LANE_CTRL l 6 4 → s.pRf Reg.LNP_LANE_CTRL l 6 4 < 9 → Does (.prbsCheckerLock l lock errors) s fun t =>
      (s.pRf Reg.LNP_LANE_STATUS l 4 1 = 1 → lock = false → evtSet t bLNP 6 = true)
        ∧ Noted ((s.toDev.pWf Reg.LNP_LANE_STATUS l 4 1 lock.toNat).pWg Reg.LNP_LANE_PRBS_ERR l
            (w32 (sat32 ((s.pRg Reg.LNP_LANE_PRBS_ERR l).toNat + errors.toNat)))) t))

/-- R127, R128: at its time the cap of an increase rises to the new slot count, and the step completes with event 3; before it nothing happens. A step whose far end has not followed in time ends with FAIL 1 and event 4, and what it has announced and added stays; a step with nothing to wait for, before its time or already reversing is left alone.
R130: a request waits while no Lead runs or a step is in progress; the Lead drops one that a step record could not carry, with FAIL 5 and event 4; otherwise it writes the record of its own range for the port and submits a cue of action 6 for it. A poll of the modem reads its count over the cage's I2C master, and requests the count when it has changed; it waits while the host holds the master. -/
def Obligations.RateFollow : Prop :=
  (∀ (s : State) (p : Fin 256) (r : RfStep), (s.port p).step = some r →
    (r.up = true → r.phase = 2 → r.gapAt ≤ s.cue.localNs → r.b2 ≤ s.cue.localNs → r.expectRx = false → r.slots < 512 → Does (.rfCapRise p) s fun t =>
      t.rfK p = r.slots ∧ (t.port p).cap = r.slots ∧ (t.port p).step = none ∧ t.pRf Reg.LNP_RF_STATUS p 0 3 = 0 ∧ evtSet t bLNP 3 = true)
    ∧ (r.up = false ∨ r.phase ≠ 2 ∨ s.cue.localNs < max r.gapAt r.b2 → exec (.rfCapRise p) s = .next (s.put s.toDev s.latched))
    ∧ (r.expectRx = true → s.rfRx p ≠ r.expectSlots → r.phase < 4 → r.start + max 1 (s.rf Reg.LNP_RF_CTRL 0 0 0 8) * 1000000 ≤ s.cue.localNs →
      Does (.rfExpectTimeout p) s fun t => evtSet t bLNP 4 = true ∧ (t.port p).step = none ∧ t.pRf Reg.LNP_RF_STATUS p 0 3 = 0
        ∧ t.pRf Reg.LNP_RF_STATUS p 25 4 = 1 ∧ t.rfK p = s.rfK p ∧ (t.port p).cap = (s.port p).cap
        ∧ ((r.phase = 3 → (s.port p).told = none ∧ (s.port p).added = none) → t.slotsTold p = s.slotsTold p ∧ t.slotsOn p = s.slotsOn p))
    ∧ (r.expectRx = false ∨ s.rfRx p = r.expectSlots ∨ 4 ≤ r.phase ∨ s.cue.localNs < r.start + max 1 (s.rf Reg.LNP_RF_CTRL 0 0 0 8) * 1000000 →
      exec (.rfExpectTimeout p) s = .next (s.put s.toDev s.latched)))
  ∧ (∀ (s : State) (q : Req) (p : Fin 256) (slots : BitVec 9),
    (Reached s.toDev q Reg.LNP_RF_REQ 0 0 → Does (.rateFollowRequest q p slots false) s (Noted (disarmed s.toDev q)))
    ∧ (Reached s.toDev q Reg.LNP_RF_REQ 0 0 → s.leadRuns = false ∨ (s.port p).step ≠ none →
      Does (.rateFollowRequest q p slots true) s (Noted ((disarmed s.toDev q).setPort p { s.port p with waiting := some slots.toNat })))
    ∧ (Reached s.toDev q Reg.LNP_RF_REQ 0 0 → s.leadRuns = true → (s.port p).step = none → s.portRf p = false →
      Does (.rateFollowRequest q p slots true) s fun t => evtSet t bLNP 4 = true
        ∧ Noted (((disarmed s.toDev q).setPort p { s.port p with waiting := none }).pWf Reg.LNP_RF_STATUS p 25 4 5) t)
    ∧ (Reached s.toDev q Reg.LNP_RF_REQ 0 0 → s.leadRuns = true → (s.port p).step = none → s.portRf p = true →
      s.rfK p ≠ slots.toNat → slots.toNat ≤ 20 * cfgOtuN (s.portCfg p) → 10 ≤ slots.toNat → s.timeValid = true → s.variant.hasOtn = true → (s.slot 224).state ≠ 1 →
      Does (.rateFollowRequest q p slots true) s fun t => (t.slot 224).state = 1 ∧ (t.slot 224).w3 = w32 (3840 + p.val) ∧ (t.slot 224).action = 6
        ∧ (t.port p).waiting = none
        ∧ t.obj bLNP 0x10 (3840 + p.val) = [at_ 0 8 p ||| at_ 8 9 slots.toNat ||| atB 24 (decide (s.rfK p < slots.toNat) && s.rf Reg.LNP_RF_CTRL 0 0 24 1 == 1),
          at_ 0 16 (if s.rfK p < slots.toNat then max 1 (s.rf Reg.LNP_RF_CTRL 0 0 16 8) * 100 else max 2 (s.rf Reg.LNP_RF_CTRL 0 0 8 8))]))
  ∧ (∀ (s : State) (p : Fin 256) (count : BitVec 16) (w : W32) (m : Nat), w = s.pRg Reg.LNP_RF_SETUP p → m = s.rf Reg.CAG_CAGE_CFG 0 (fld w 1 6) 12 4 →
    (bit w 0 = false ∨ s.leadRuns = false ∨ (mget ({} : I2cSt) s.i2c m).busy = true → exec (.modemPoll p count) s = .next (s.put s.toDev s.latched))
    ∧ (bit w 0 = true → s.leadRuns = true → (mget ({} : I2cSt) s.i2c m).busy = false →
      ((s.port p).modem = none ∨ (s.port p).modem = some count.toNat → Does (.modemPoll p count) s fun t =>
        Noted (s.toDev.setPort p { s.port p with modem := some count.toNat }) t ∧ Sent s.toDev t (.i2c m (fld w 7 7) [BitVec.ofNat 8 (fld w 14 8)] 2))
      ∧ ((s.port p).modem ≠ none → (s.port p).modem ≠ some count.toNat → (s.port p).step ≠ none → Does (.modemPoll p count) s fun t =>
        Noted (s.toDev.setPort p { s.port p with modem := some count.toNat, waiting := some count.toNat }) t
          ∧ Sent s.toDev t (.i2c m (fld w 7 7) [BitVec.ofNat 8 (fld w 14 8)] 2))
      ∧ ((s.port p).modem ≠ none → (s.port p).modem ≠ some count.toNat → (s.port p).step = none → s.portRf p = true → s.rfK p ≠ count.toNat →
        count.toNat < 512 → count.toNat ≤ 20 * cfgOtuN (s.portCfg p) → 10 ≤ count.toNat → s.timeValid = true → s.variant.hasOtn = true → (s.slot 224).state ≠ 1 →
        Does (.modemPoll p count) s fun t => (t.slot 224).state = 1 ∧ (t.slot 224).w3 = w32 (3840 + p.val) ∧ (t.slot 224).action = 6
          ∧ (t.port p).modem = some count.toNat ∧ (t.port p).waiting = none ∧ wfld (t.obj bLNP 0x10 (3840 + p.val)) 0 8 9 = count.toNat)))

/-- R136: a defect is declared exactly when it is detected and none of higher rank is.
R133, R134, R137: a frame in which a lane has been without lock detects LOS, of the highest rank, which alone is declared and suppresses the others; the FAS hunt starts anew. R133, R135, R137: a frame with every marker, the next OMFI, FAS and MFAS in their places and nothing amiss in its overhead leaves a framer in order without a defect and aligned where it was; its CRC errors are counted. A frame on a port that is no FlexO port does nothing.
R132, R137, R142: in either case one frame is sent, unless the port is in a loopback: at the next multiframe position, with the byte of the SM trail trace that stands there, the slots that are announced, and SM BDI while LOS is declared. -/
def Obligations.DefectsAreDeclared : Prop :=
  (∀ (raw : W32) (i : Nat), i < 14 →
    bit (declaredOf raw) i = (bit raw i && !((List.range 14).any fun j => decide (defRank j < defRank i) && bit raw j)))
  ∧ (∀ (s : State) (p : Fin 256) (f : OtuFrame),
    (s.portOn p = true → s.portMode p = 6 → f.lockLost = true → bit (s.port p).causes 6 = true ∨ s.portState p ≠ 2 → Does (.otucFrame p f) s fun t =>
      bit (t.raw p) 0 = true ∧ t.pRg Reg.OTF_DEFECT p = 1 ∧ (t.otf1 p).fas = {} ∧ (t.otf1 p).mfLocked = false
        ∧ (s.pRg Reg.OTF_DEFECT p = 0 → evtSet t bOTF 0 = true) ∧ (t.otf1 p).txMfas = ((s.otf1 p).txMfas + 1) % 256
        ∧ (s.loopNear p = false → s.loopFar p = false → ∃ o, Sent s.toDev t (.otuFrame p o) ∧ o.mfas = BitVec.ofNat 8 (s.otf1 p).txMfas
          ∧ o.smTti = s.txTti 0x12 p (s.otf1 p).txMfas ∧ o.slots = s.slotsTold p ∧ o.smBdi = true))
    ∧ (∀ φ, (s.otf1 p).fas.phase = some φ → s.portOn p = true → s.portMode p = 6 → FramerInOrder s.toDev p → (s.otf1 p).msiOk ≠ some false → (s.otf1 p).aisRun = 0 →
      f.lockLost = false → f.skewOk = true →
      (∀ i < cfgWidth (s.portCfg p), ∃ ψ ∈ f.markers.getD i [], ((s.otf1 p).lanes.getD i {}).phase = some ψ) →
      f.omfi.toNat = ((s.otf1 p).omfi + 1) % 256 → φ ∈ f.phases → f.mfas.toNat = ((s.otf1 p).mfas + 1) % 256 → f.mfas ≠ 0 →
      f.allOnes = false → f.stat = 1 → f.smBdi = false → f.pmBdi = false →
      Does (.otucFrame p f) s fun t => t.raw p = 0 ∧ t.pRg Reg.OTF_DEFECT p = 0 ∧ (t.otf1 p).fas.phase = some φ ∧ (t.otf1 p).mfLocked = true
        ∧ (t.otf1 p).mfas = f.mfas.toNat ∧ t.counter bOTF 2 p 2 = s.counter bOTF 2 p 2 + f.crcErrors
        ∧ (t.otf1 p).txMfas = ((s.otf1 p).txMfas + 1) % 256
        ∧ (s.loopNear p = false → s.loopFar p = false → ∃ o, Sent s.toDev t (.otuFrame p o) ∧ o.mfas = BitVec.ofNat 8 (s.otf1 p).txMfas
          ∧ o.smTti = s.txTti 0x12 p (s.otf1 p).txMfas ∧ o.slots = s.slotsTold p ∧ o.smBdi = false))
    ∧ (s.portOn p = false ∨ s.portMode p ≠ 6 → exec (.otucFrame p f) s = .next (s.put s.toDev s.latched)))

/-- R123, R126, R127, R142: every PSI multiframe boundary of the transmit direction begins a multiframe, and moves on a step: one that has begun is announced; at the next boundary an increase has its slots added, and a decrease whose gap has passed takes effect and completes with event 3; a reversal is announced and, a boundary later, ends with FAIL 4 and event 4. At one of the receive direction, after a multiframe received identically, an identifier that gives the first slots to the port's client is applicable, and RX_SLOTS takes its count, with event 5 at a change; any other is not applicable and changes no count. Without a step, or without a whole multiframe, nothing else changes.
R146: a receive record that is full, or whose channel no longer collects, is delivered to its ring; one that the ring cannot take is dropped, counted, with OTF event 4 and DMA event 3, and the next one is marked discontinuous; with no byte collected, or fewer than 256 on a channel that collects, nothing closes. R147: a transmit record waits for its ring's descriptors and for room in its buffer; a malformed one is discarded and counted with event 4; one that its buffer has room for is taken. -/
def Obligations.OverheadBoundaries : Prop :=
  (∀ (s : State) (p : Fin 256) (msi : Option (BitVec 9)) (whole : Bool) (u : Dev), u = s.toDev.setOtf p { s.otf1 p with txMfas := 0 } →
    (s.portOn p = true → s.portMode p = 6 → ∀ r, (s.port p).step = some r →
      (r.phase = 0 → exec (.psiMultiframeBoundary p true whole msi) s = .next (s.put (u.setPort p { s.port p with
        step := some { r with phase := 1, b1 := s.cue.localNs }, told := none, added := none }) s.latched))
      ∧ (r.phase = 1 → r.up = true → s.farBdi p = false → exec (.psiMultiframeBoundary p true whole msi) s = .next (s.put ((u.setPort p { s.port p with
        step := some { r with phase := 2, b2 := s.cue.localNs } }).pWf Reg.LNP_RF_STATUS p 0 3 3) s.latched))
      ∧ (r.phase = 1 → r.up = false → s.cue.localNs < r.gapAt → exec (.psiMultiframeBoundary p true whole msi) s = .next (s.put u s.latched))
      ∧ (r.phase = 1 → r.up = false → r.gapAt ≤ s.cue.localNs → r.expectRx = false → r.slots < 512 → Does (.psiMultiframeBoundary p true whole msi) s fun t =>
        t.rfK p = r.slots ∧ (t.port p).step = none ∧ (t.port p).bdiWatch = r.watch ∧ t.pRf Reg.LNP_RF_STATUS p 0 3 = 0 ∧ evtSet t bLNP 3 = true)
      ∧ (r.phase = 4 → exec (.psiMultiframeBoundary p true whole msi) s = .next (s.put (u.setPort p { s.port p with
        step := some { r with phase := 5, b1 := s.cue.localNs } }) s.latched))
      ∧ (r.phase = 5 → Does (.psiMultiframeBoundary p true whole msi) s fun t => evtSet t bLNP 4 = true
        ∧ Noted (((u.setPort p { s.port p with step := none }).pWf Reg.LNP_RF_STATUS p 0 3 0).pWf Reg.LNP_RF_STATUS p 25 4 4) t))
    ∧ (s.portOn p = true → s.portMode p = 6 → (s.port p).step = none → exec (.psiMultiframeBoundary p true whole msi) s = .next (s.put u s.latched))
    ∧ (s.portOn p = true → s.portMode p = 6 → NoNewDown s.toDev p → (s.port p).step = none →
      ∀ j : BitVec 9, msi = some j → (if s.portRf p then 10 ≤ j.toNat ∧ j.toNat ≤ 20 * cfgOtuN (s.portCfg p) else j.toNat = 20 * cfgOtuN (s.portCfg p)) →
      Does (.psiMultiframeBoundary p false true msi) s fun t =>
        t.rfRx p = j.toNat ∧ (s.rfRx p ≠ j.toNat → evtSet t bLNP 5 = true) ∧ (t.otf1 p).msiOk = some true)
    ∧ (s.portOn p = true → s.portMode p = 6 → bit (s.port p).causes 6 = true ∨ s.portState p ≠ 2 → msi = none → Does (.psiMultiframeBoundary p false true msi) s fun t =>
      t.rfRx p = s.rfRx p ∧ (t.otf1 p).msiOk = some false ∧ bit (t.raw p) 9 = true)
    ∧ exec (.psiMultiframeBoundary p false false msi) s = .next (s.put s.toDev s.latched))
  ∧ (∀ (s : State) (p : Fin 256) (c : Fin 4) (g : GccRx) (ring : Nat), g = (s.otf1 p).gccRx.getD c {} → ring = s.pRf Reg.OTF_GCC_RING p 0 9 →
    (g.bytes = [] ∨ (g.bytes.length < 256 ∧ s.gccRuns p c = true) → exec (.gccRecordClose p c) s = .next (s.put s.toDev s.latched))
    ∧ (256 ≤ g.bytes.length ∨ (g.bytes ≠ [] ∧ s.gccRuns p c = false) →
      (s.ringState ring ≠ 1 ∨ s.mastering = false → Does (.gccRecordClose p c) s fun t =>
        evtSet t bOTF 4 = true ∧ evtSet t bDMA 3 = true ∧ t.counter bOTF 3 p 0 = s.counter bOTF 3 p 0 + 1
          ∧ t.otf1 p = { s.otf1 p with gccRx := (s.otf1 p).gccRx.set c { bytes := g.bytes.drop 256, mfas := g.mfas.drop 256, discont := true } })
      ∧ (∀ d rest, (s.ring ring).desc = d :: rest → s.ringState ring = 1 → s.mastering = true → 264 ≤ d.2 → Does (.gccRecordClose p c) s fun t =>
        t.otf1 p = { s.otf1 p with gccRx := (s.otf1 p).gccRx.set c { bytes := g.bytes.drop 256, mfas := g.mfas.drop 256, discont := false } }
          ∧ ∃ ro ido, Sent s.toDev t (.hostWrite d.1 (wordsBytes [at_ 0 8 p ||| at_ 8 2 c ||| atB 10 g.discont ||| at_ 16 9 (min 256 g.bytes.length), at_ 0 8 (g.mfas.headD 0)]
            ++ g.bytes.take 256) ro ido))))
  ∧ (∀ (s : State) (ring : Fin 512) (w0 w1 : W32) (bytes : List Byte) (descs : Fin 9) (p c : Nat), p = fld w0 0 8 → c = fld w0 8 2 →
    (s.ringState (512 + ring.val) ≠ 1 ∨ s.mastering = false ∨ s.outstanding (512 + ring.val) < descs →
      exec (.gccTxRecord ring w0 w1 bytes descs) s = .next (s.put s.toDev s.latched))
    ∧ (s.ringState (512 + ring.val) = 1 → s.mastering = true → descs ≤ s.outstanding (512 + ring.val) →
      (w1 ≠ 0 ∨ s.portMode p ≠ 6 ∨ fld w0 16 9 = 0 ∨ 256 < fld w0 16 9 → Does (.gccTxRecord ring w0 w1 bytes descs) s fun t =>
        evtSet t bOTF 4 = true ∧ Noted (s.toDev.bump bOTF 3 p 1 1) t)
      ∧ (s.portOn p = true → s.portMode p = 6 → s.pRf Reg.OTF_GCC_RING p 16 9 = ring → bit (s.pRg Reg.OTF_GCC_CFG p) (4 + c) = true →
        1 ≤ fld w0 16 9 → fld w0 16 9 ≤ 256 → fld w0 10 6 = 0 → fld w0 25 7 = 0 → w1 = 0 →
        (512 < ((s.otf1 p).gccTx.getD c []).length + fld w0 16 9 → exec (.gccTxRecord ring w0 w1 bytes descs) s = .next (s.put s.toDev s.latched))
        ∧ (((s.otf1 p).gccTx.getD c []).length + fld w0 16 9 ≤ 512 → Does (.gccTxRecord ring w0 w1 bytes descs) s (Noted (s.toDev.setOtf p { s.otf1 p with
          gccTx := (s.otf1 p).gccTx.set c ((s.otf1 p).gccTx.getD c [] ++ bytes.take (fld w0 16 9)) }))))))

/-- R155: the load words clear; R156: the end of a context command or load shows DONE and its CODE, with event 5 for a CODE other than 0; a load's end clears the load words; with none in progress it is nothing.
R154, R155: a load in the clear of a context that obeys R152, for a port that is enabled and protected, into an index that no slot holds, is wrapped into the store under the next generation, with CODE 0; CODE 5 for a bad context, 7 for an index restored to a slot, 4 where the generation has come to its end. A key-encryption key load keeps the eight load words. A wrapped load under no key ends with CODE 10, under one that does not unwrap it with CODE 4, and else as the context in the clear would. A load while a command is in progress is refused with CODE 1 and event 5; a write without GO starts nothing. -/
def Obligations.ContextsLoad : Prop :=
  (∀ (s : State) (code : Nat),
    exec .loadWordsClear s = .next (s.put { s.toDev with lci := { s.lci with load := [] } } s.latched)
    ∧ (s.lci.busy = none → exec .contextCommandComplete s = .next (s.put s.toDev s.latched))
    ∧ (s.lci.busy = some code → Does .contextCommandComplete s fun t => (code ≠ 0 → evtSet t bLCI 5 = true)
      ∧ Noted ({ s.toDev with lci := { s.lci with busy := none, busyLoad := false, load := if s.lci.busyLoad then [] else s.lci.load } }.wg
          Reg.LCI_CTX_STATUS 0 0 (1#32 ||| at_ 4 4 code)) t))
  ∧ (∀ (s : State) (q : Req) (x : BitVec 14) (k : Fin 4) (ws : List W32) (v : Dev), v = disarmed s.toDev q →
    (∀ u, u = v.wg Reg.LCI_CLEAR_LOAD 0 0 (at_ 0 14 x.toNat ||| atB 31 true) → Reached s.toDev q Reg.LCI_CLEAR_LOAD 0 0 → s.arming.get q = true → ws = s.loadWords 20 →
      Does (.clearContextLoad q x false) s (Noted (v.wg Reg.LCI_CLEAR_LOAD 0 0 (at_ 0 14 x.toNat ||| atB 31 false)))
      ∧ (s.lci.busy ≠ none → Does (.clearContextLoad q x true) s fun t => evtSet t bLCI 5 = true ∧ Noted (u.wf Reg.LCI_CTX_STATUS 0 0 4 4 1) t)
      ∧ (s.lci.busy = none → (ctxOk ws = false ∨ s.portOn (ctxPort ws) = false ∨ s.protected (ctxPort ws) = false) → Does (.clearContextLoad q x true) s
        (Noted ({ u with lci := { s.lci with busy := some 5, busyLoad := true } }.wg Reg.LCI_CTX_STATUS 0 0 2)))
      ∧ (s.lci.busy = none → ctxOk ws = true → s.portOn (ctxPort ws) = true → s.protected (ctxPort ws) = true →
        (s.restored x.toNat = true → Does (.clearContextLoad q x true) s
          (Noted ({ u with lci := { s.lci with busy := some 7, busyLoad := true } }.wg Reg.LCI_CTX_STATUS 0 0 2)))
        ∧ (s.restored x.toNat = false → s.nextGen x.toNat = none → Does (.clearContextLoad q x true) s
          (Noted ({ u with lci := { s.lci with busy := some 4, busyLoad := true } }.wg Reg.LCI_CTX_STATUS 0 0 2)))
        ∧ (∀ g, s.nextGen x.toNat = some g → s.restored x.toNat = false → Does (.clearContextLoad q x true) s
          (Noted ({ u with lci := { s.lci with
              busy := some 0, busyLoad := true, gens := mset 0 s.lci.gens x.toNat g,
              store := minsert s.lci.store x.toNat ({ key := s.lci.devKey, words := ctxWith ws (wordN ws 2 + 2 ^ 32 * wordN ws 3) g } : Wrapped) } }.wg
            Reg.LCI_CTX_STATUS 0 0 2)))))
    ∧ (∀ u, u = v.wg Reg.LCI_CLEAR_LOAD 0 0 (at_ 0 14 x.toNat ||| atB 16 true ||| atB 31 true) → Reached s.toDev q Reg.LCI_CLEAR_LOAD 0 0 → s.arming.get q = true →
      Does (.clearKekLoad q x false) s (Noted (v.wg Reg.LCI_CLEAR_LOAD 0 0 (at_ 0 14 x.toNat ||| atB 16 true ||| atB 31 false)))
      ∧ (s.lci.busy ≠ none → Does (.clearKekLoad q x true) s fun t => evtSet t bLCI 5 = true ∧ Noted (u.wf Reg.LCI_CTX_STATUS 0 0 4 4 1) t)
      ∧ (s.lci.busy = none → Does (.clearKekLoad q x true) s (Noted ({ u with
          lci := { s.lci with keks := minsert s.lci.keks (x.toNat % 4) (s.loadWords 8), busy := some 0, busyLoad := true } }.wg Reg.LCI_CTX_STATUS 0 0 2))))
    ∧ (Reached s.toDev q Reg.LCI_WRAP_LOAD 0 0 →
      Does (.wrappedContextLoad q x k false) s (Noted v)
      ∧ (s.lci.busy ≠ none → Does (.wrappedContextLoad q x k true) s fun t => evtSet t bLCI 5 = true ∧ Noted (v.wf Reg.LCI_CTX_STATUS 0 0 4 4 1) t)
      ∧ (s.lci.busy = none → (s.lci.keks.find? fun e => e.1 == k.val) = none → Does (.wrappedContextLoad q x k true) s
        (Noted ({ v with lci := { s.lci with busy := some 10, busyLoad := true } }.wg Reg.LCI_CTX_STATUS 0 0 2)))
      ∧ (s.lci.busy = none → ∀ kek, (s.lci.keks.find? fun e => e.1 == k.val) = some kek → Does (.wrappedContextLoad q x k true) s fun t =>
        ∃ code gens store, Noted ({ v with lci := { s.lci with busy := some code, busyLoad := true, gens := gens, store := store } }.wg Reg.LCI_CTX_STATUS 0 0 2) t
          ∧ (code ≠ 0 → gens = s.lci.gens ∧ store = s.lci.store)
          ∧ (Config.keyUnwrap (wordsBytes kek.2) (wordsBytes (s.loadWords 22)) = none → code = 4)
          ∧ (∀ bs, Config.keyUnwrap (wordsBytes kek.2) (wordsBytes (s.loadWords 22)) = some bs → ws = bytesWords 20 bs →
            (ctxOk ws = false ∨ s.portOn (ctxPort ws) = false ∨ s.protected (ctxPort ws) = false → code = 5)
            ∧ (∀ g, s.nextGen x.toNat = some g → ctxOk ws = true → s.portOn (ctxPort ws) = true → s.protected (ctxPort ws) = true → s.restored x.toNat = false →
              code = 0 ∧ gens = mset 0 s.lci.gens x.toNat g
              ∧ store = minsert s.lci.store x.toNat ({ key := s.lci.devKey, words := ctxWith ws (wordN ws 2 + 2 ^ 32 * wordN ws 3) g } : Wrapped))))))

/-- R156, R157: the context commands, with the CODE that their end will show. RESTORE needs the cluster's cipher in service (9), an empty slot (2), a readable store (8), a stored context (4) that no slot holds (7), of this device and under its latest generation (4), whose port lies in the cluster (6), and no other implicit receive context of its port and association number (5); a transmit slot with few numbers left warns at once, with event 1 (R159). PARK and DROP need a valid slot (3); PARK wraps it back into its index, unless its generation has come to its end (4). ERASE needs an index that no slot holds (7). A command while one is in progress is refused with CODE 1 and event 5.
R160: a write of LCI_SWITCH_NOW keeps the record for the next tick. R161: the check of a switch record: its slot becomes the port's current one when it is a valid transmit context of that port with numbers left. R171: RESTORE of a cipher out of service starts the self-test; its pass returns it to service with event 7; its failure returns it to STATE 1; every slot is empty after it. -/
def Obligations.ContextsMove : Prop :=
  (∀ (s : State) (q : Req) (x : BitVec 14) (c : Fin 16) (slot : Byte) (n : Nat), Reached s.toDev q Reg.LCI_CTX_CMD 0 0 → n = slot.toNat →
    (s.lci.busy ≠ none → ∀ i op, (i, op) ∈ [(Instr.restore q x c slot false, 1), (.park q x c slot, 2), (.drop q x c slot, 3), (.erase q x c slot, 4)] → Does i s fun t =>
      evtSet t bLCI 5 = true ∧ Noted (((disarmed s.toDev q).wg Reg.LCI_CTX_CMD 0 0 (at_ 0 14 x.toNat ||| at_ 16 3 op ||| at_ 20 4 c ||| at_ 24 8 n)).wf Reg.LCI_CTX_STATUS 0 0 4 4 1) t)
    ∧ (s.lci.busy = none →
      (s.cipherIn c = false → Does (.restore q x c slot false) s (Noted (ctxStarted s.toDev q 1 x c slot { s.lci with busy := some 9, busyLoad := false })))
      ∧ (s.cipherIn c = true → s.ctx? c n ≠ none → Does (.restore q x c slot false) s (Noted (ctxStarted s.toDev q 1 x c slot { s.lci with busy := some 2, busyLoad := false })))
      ∧ (s.cipherIn c = true → s.ctx? c n = none → Does (.restore q x c slot true) s (Noted (ctxStarted s.toDev q 1 x c slot { s.lci with busy := some 8, busyLoad := false })))
      ∧ (s.cipherIn c = true → s.ctx? c n = none → s.tIso 0 = false → s.lci.store.find? (fun e => e.1 == x.toNat) = none →
        Does (.restore q x c slot false) s (Noted (ctxStarted s.toDev q 1 x c slot { s.lci with busy := some 4, busyLoad := false })))
      ∧ (∀ e, s.lci.store.find? (fun e => e.1 == x.toNat) = some e → ∀ ws, ws = e.2.words → s.cipherIn c = true → s.ctx? c n = none → s.tIso 0 = false →
        (s.restored x.toNat = true → Does (.restore q x c slot false) s (Noted (ctxStarted s.toDev q 1 x c slot { s.lci with busy := some 7, busyLoad := false })))
        ∧ (s.restored x.toNat = false → e.2.key ≠ s.lci.devKey ∨ ctxGen ws ≠ mget 0 s.lci.gens x.toNat →
          Does (.restore q x c slot false) s (Noted (ctxStarted s.toDev q 1 x c slot { s.lci with busy := some 4, busyLoad := false })))
        ∧ (s.restored x.toNat = false → e.2.key = s.lci.devKey → ctxGen ws = mget 0 s.lci.gens x.toNat →
          (ctxPort ws / 16 ≠ c → Does (.restore q x c slot false) s (Noted (ctxStarted s.toDev q 1 x c slot { s.lci with busy := some 6, busyLoad := false })))
          ∧ (ctxPort ws / 16 = c → ctxImplicit ws = true → ctxTx ws = false →
            (∃ z ∈ s.lci.slots, ctxImplicit z.2.words = true ∧ ctxTx z.2.words = false ∧ ctxPort z.2.words = ctxPort ws ∧ ctxAn z.2.words = ctxAn ws) →
            Does (.restore q x c slot false) s (Noted (ctxStarted s.toDev q 1 x c slot { s.lci with busy := some 5, busyLoad := false })))
          ∧ (∀ z, z = ({ words := ws, index := x.toNat, pn := ctxPn ws } : CtxSlot) → ctxPort ws / 16 = c → ctxImplicit ws = false ∨ ctxTx ws = true →
            Does (.restore q x c slot false) s fun t => ∃ warned, Noted (ctxStarted s.toDev q 1 x c slot { s.lci with
                busy := some 0, busyLoad := false, slots := minsert s.lci.slots (c.val * 256 + n) { z with warned := warned } }) t
              ∧ (warned = true ↔ ctxTx ws = true ∧ z.remaining ≤ 2 ^ s.warnExp (ctxPort ws) z) ∧ (warned = true → evtSet t bLCI 1 = true))))
      ∧ (s.ctx? c n = none → Does (.park q x c slot) s (Noted (ctxStarted s.toDev q 2 x c slot { s.lci with busy := some 3, busyLoad := false }))
        ∧ Does (.drop q x c slot) s (Noted (ctxStarted s.toDev q 3 x c slot { s.lci with busy := some 3, busyLoad := false })))
      ∧ (∀ e, s.ctx? c n = some e → s.nextGen e.index = none → Does (.park q x c slot) s (Noted (ctxStarted s.toDev q 2 x c slot { s.lci with busy := some 4, busyLoad := false })))
      ∧ (∀ e, s.ctx? c n = some e → ∀ g, s.nextGen e.index = some g → Does (.park q x c slot) s fun t =>
        t.ctx? c n = none ∧ t.lci.busy = some 0 ∧ mget 0 t.lci.gens e.index = g
          ∧ t.lci.store = minsert s.lci.store e.index ({ key := s.lci.devKey, words := ctxWith e.words e.pn g } : Wrapped)
          ∧ t.lci.slots = merase s.lci.slots (c.val * 256 + n))
      ∧ (s.ctx? c n ≠ none → Does (.drop q x c slot) s fun t => t.ctx? c n = none ∧ t.lci.busy = some 0 ∧ t.lci.store = s.lci.store
        ∧ t.lci.slots = merase s.lci.slots (c.val * 256 + n))
      ∧ (s.restored x.toNat = false → Does (.erase q x c slot) s (Noted (ctxStarted s.toDev q 4 x c slot { s.lci with busy := some 0, busyLoad := false, store := merase s.lci.store x.toNat })))
      ∧ (s.restored x.toNat = true → Does (.erase q x c slot) s (Noted (ctxStarted s.toDev q 4 x c slot { s.lci with busy := some 7, busyLoad := false })))))
  ∧ (∀ (s : State) (q : Req) (r : BitVec 12) (c : Fin 16),
    (Reached s.toDev q Reg.LCI_SWITCH_NOW 0 0 →
      Does (.lciSwitchNow q r true) s (Noted { disarmed s.toDev q with lci := { s.lci with switchReq := s.lci.switchReq ++ [r.toNat] } })
      ∧ Does (.lciSwitchNow q r false) s (Noted (disarmed s.toDev q)))
    ∧ (∀ w, w = word (s.obj bLCI 0x10 r.toNat) 0 → ∀ p, p = fld w 0 8 → ∀ slot, slot = fld w 8 8 → fld w 16 16 = 0 →
      (s.txSlotOk p slot = true → s.toDev.applySwitch r.toNat = (s.toDev.pWf Reg.LCI_PORT_TX p 0 9 (256 + slot), true))
      ∧ (s.txSlotOk p slot = false → s.toDev.applySwitch r.toNat = (s.toDev, false)))
    ∧ (Reached s.toDev q Reg.LCI_CLUSTER_CTRL c 0 →
      (s.rf Reg.LCI_CLUSTER_STATUS c 0 0 2 = 1 → Does (.cipherRestore q c true) s (Noted ((disarmed s.toDev q).wf Reg.LCI_CLUSTER_STATUS c 0 0 2 2)))
      ∧ (s.rf Reg.LCI_CLUSTER_STATUS c 0 0 2 ≠ 1 → Does (.cipherRestore q c true) s (Noted (disarmed s.toDev q)))
      ∧ Does (.cipherRestore q c false) s (Noted (disarmed s.toDev q)))
    ∧ (s.rf Reg.LCI_CLUSTER_STATUS c 0 0 2 = 2 →
      Does (.selfTestComplete c true) s (fun t => evtSet t bLCI 7 = true ∧ t.validSlots c = [] ∧ t.rf Reg.LCI_CLUSTER_STATUS c 0 0 2 = 0)
      ∧ Does (.selfTestComplete c false) s (fun t => t.validSlots c = [] ∧ t.rf Reg.LCI_CLUSTER_STATUS c 0 0 2 = 1)
      ∧ (s.validSlots c = [] → Does (.selfTestComplete c true) s (Noted (s.toDev.wf Reg.LCI_CLUSTER_STATUS c 0 0 2 0))
        ∧ exec (.selfTestComplete c false) s = .next (s.put (s.toDev.wf Reg.LCI_CLUSTER_STATUS c 0 0 2 1) s.latched)))
    ∧ (s.rf Reg.LCI_CLUSTER_STATUS c 0 0 2 ≠ 2 → ∀ b, exec (.selfTestComplete c b) s = .next (s.put s.toDev s.latched)))

/-- R113, R116, R119, R243: a frame on a port that is not up, in an isolated cluster or with a lane in LOOP 1 is gone; a port in LOOP 2 sends it back. Otherwise, in this order: one that its cluster's receive buffer cannot hold is a throttle drop with ACS event 4; a FEC error, a bad length, a bad FCS each count it and discard it, but that a frame of an unprotected port longer than 512 bytes whose FCS fails goes on as one that is not good; a good frame of an unprotected port is counted and joins the buffer, stamped when TS_EN is 1. R163, R170: a good frame of a protected port is dropped and counted while the cipher is out of service; in service, one without a SecTAG is passed with PROT 3 where the port lets it.
R107, R174, R177: a cluster's oldest head leaves its receive buffer; it is gone in an isolated cluster or one without power, a NOBOOK drop while no book is in force, a DRAIN drop in a drained region; otherwise it enters the pipeline with the current epoch, whose house count it joins. An empty buffer gives nothing.
R14, R176, R197: the oldest packet of a port leaves its pipeline. A dropped one leaves the house count; one with a destination and a VOQ joins the Dovetail queue of its cluster and class with its ticket in crossing form, or, where that queue is full (16 urgent, 64 general), is an overflow drop with event 2; one without a VOQ is counted and leaves the house count. The predictor is off here; R192, R193: a flush clears the cluster's entries, with event 3. -/
def Obligations.FramesEnterAndLeaveIngress : Prop :=
  (∀ (s : State) (p : Fin 256) (bytes : List Byte) (fcsOk fec : Bool) (dis : Option (BitVec 14)) (sub : Fin 128) (len lim on : Nat) (fr : List Byte → Nat → Bool → RxFrame),
    len = bytes.length + 4 → lim = s.maxFrame p + (if s.protected p then 32 else 0) → on = (bit (s.portCfg p) 30).toNat →
    fr = (fun b pc good => { port := p, bytes := b, tsNs := on * (s.timeIn sub).2, tsSec := on * ((s.timeIn sub).1 % 2 ^ 32), prot := pc, good := good }) →
    (s.loopShut p = true → exec (.frameReceive p bytes fcsOk fec dis sub) s = .next (s.put s.toDev s.latched))
    ∧ (s.loopShut p = false → s.loopFar p = true → s.protected p = false → Does (.frameReceive p bytes fcsOk fec dis sub) s fun t => Sent s.toDev t (.retimed p bytes fcsOk))
    ∧ (s.loopShut p = false → s.loopFar p = false →
      (s.portUp p = false ∨ s.clusterIso (p.val / 16) = true →
        exec (.frameReceive p bytes fcsOk fec dis sub) s = .next (s.put s.toDev s.latched))
      ∧ (s.portUp p = true → s.clusterIso (p.val / 16) = false → s.rxFull (p.val / 16) (min len lim) = true →
        Does (.frameReceive p bytes fcsOk fec dis sub) s fun t => evtSet t bACS 4 = true ∧ Noted (s.toDev.bump bACS 3 (p.val / 16) 0 1) t)
      ∧ (s.portUp p = true → s.clusterIso (p.val / 16) = false → s.rxFull (p.val / 16) (min len lim) = false →
        exec (.frameReceive p bytes fcsOk true dis sub) s = .next (s.put (s.toDev.bump bLNP 2 p 2 1) s.latched)
        ∧ (len < 64 ∨ lim < len → exec (.frameReceive p bytes fcsOk false dis sub) s = .next (s.put (s.toDev.bump bLNP 1 p 3 1) s.latched))
        ∧ (64 ≤ len → len ≤ lim →
          (s.protected p = true ∨ len ≤ 512 → exec (.frameReceive p bytes false false dis sub) s = .next (s.put (s.toDev.bump bLNP 1 p 2 1) s.latched))
          ∧ (s.protected p = false → 512 < len →
            exec (.frameReceive p bytes false false dis sub) s = .next (s.put ((s.toDev.bump bLNP 1 p 2 1).rxStore (fr bytes 0 false)) s.latched))
          ∧ (s.protected p = false →
            exec (.frameReceive p bytes true false dis sub) s = .next (s.put (((s.toDev.bump bLNP 1 p 0 1).bump bLNP 1 p 1 len).rxStore (fr bytes 0 true)) s.latched))
          ∧ (s.protected p = true → s.cipherIn (p.val / 16) = false →
            exec (.frameReceive p bytes true false dis sub) s = .next (s.put (((s.toDev.bump bLCI 3 p 3 1).bump bLNP 1 p 0 1).bump bLNP 1 p 1 len) s.latched))
          ∧ (s.protected p = true → s.cipherIn (p.val / 16) = true → ofBe (slice bytes 12 2) ≠ 0x88E5 → bit (s.rg Reg.LCI_BYPASS 0 0) 16 = false →
            bit (s.pRg Reg.LCI_PORT_CFG p) 1 = true → len ≤ s.maxFrame p →
            exec (.frameReceive p bytes true false dis sub) s = .next (s.put (((s.toDev.bump bLNP 1 p 0 1).bump bLNP 1 p 1 len).rxStore (fr bytes 3 true)) s.latched)))))
    ∧ (∀ f : RxFrame, s.toDev.rxStore f = { s.toDev with
        ing := { s.ing with rx := mset [] s.ing.rx (f.port / 16) (mget [] s.ing.rx (f.port / 16) ++ [f]) } }))
  ∧ (∀ (s : State) (c : Fin 16),
    (mget [] s.ing.rx c = [] → exec (.headEntry c) s = .next (s.put s.toDev s.latched))
    ∧ ∀ f rest, mget [] s.ing.rx c = f :: rest → ∀ u : Dev, u = { s.toDev with ing := { s.ing with rx := mset [] s.ing.rx c rest } } →
      (s.clusterIso c = true ∨ s.pdOn c = false → exec (.headEntry c) s = .next (s.put u s.latched))
      ∧ (s.clusterIso c = false → s.pdOn c = true →
        (s.noBook = true → exec (.headEntry c) s = .next (s.put
          (u.wg Reg.PBK_DROP_NOBOOK 0 0 (w32 (sat32 ((s.rg Reg.PBK_DROP_NOBOOK 0 0).toNat + 1)))) s.latched))
        ∧ (s.noBook = false → s.drained (c.val / 8) = true → exec (.headEntry c) s = .next (s.put
          (u.wg Reg.PBK_DROP_DRAIN 0 0 (w32 (sat32 ((s.rg Reg.PBK_DROP_DRAIN 0 0).toNat + 1)))) s.latched))
        ∧ (s.noBook = false → s.drained (c.val / 8) = false → (s.bookOf s.epochNow).isSome = true → Does (.headEntry c) s fun t =>
          t.ing.rx = u.ing.rx ∧ t.houseOf s.epochNow = s.houseOf s.epochNow + 1
            ∧ ∃ k : IngPkt, t.ing.pipe = s.ing.pipe ++ [k] ∧ k.port = f.port ∧ k.frame = f.bytes ∧ k.epoch = s.epochNow ∧ k.good = f.good)))
  ∧ (∀ (s : State) (q : Req) (p : Fin 256) (cl : Fin 16) (en : Bool) (k : IngPkt) (i sp : Nat) (b : Book) (tk : Ticket) (u : Dev),
    ((∀ k ∈ s.ing.pipe, k.port ≠ p.val) → exec (.pipelineExit p) s = .next (s.put s.toDev s.latched))
    ∧ (s.ing.pipe.findIdx? (fun k => k.port == p.val) = some i → s.ing.pipe[i]? = some k →
      u = { s.toDev with ing := { s.ing with pipe := s.ing.pipe.eraseIdx i } } →
      (s.clusterIso (p.val / 16) = true → exec (.pipelineExit p) s = .next (s.put (u.houseOut k.epoch 1) s.latched))
      ∧ (s.clusterIso (p.val / 16) = false → s.bookOf k.epoch = some b → bit (s.rg Reg.IPP_PRED_CTRL (k.port / 16) 0) 0 = false →
        (k.drop ≠ none → exec (.pipelineExit p) s = .next (s.put (u.houseOut k.epoch 1) s.latched))
        ∧ (k.drop = none → k.red = none → k.dest = .sysPort sp → k.good = true →
          (s.ticketFor k (s.flowHash k) 0 (at_ 10 22 sp) 0 k.eq none k.res = none → Does (.pipelineExit p) s fun t => evtSet t bSCH 1 = true
            ∧ Noted ((u.bump bSCH 0x20 0 0 1).houseOut k.epoch 1) t)
          ∧ (s.ticketFor k (s.flowHash k) 0 (at_ 10 22 sp) 0 k.eq none k.res = some tk →
            (tk.tc ≠ 0 → (mget [] s.tm.general (k.port / 16)).length < 64 → exec (.pipelineExit p) s = .next (s.put (({ u with tm := { s.tm with
                general := mset [] s.tm.general (k.port / 16) (mget [] s.tm.general (k.port / 16)
                  ++ [{ ticket := tk.crossed s.carried, frame := k.frame, since := k.since, good := k.good }]) } } : Dev).bump bIPP 1 k.port 0 1) s.latched))
            ∧ (tk.tc = 0 → (mget [] s.tm.urgent (k.port / 16)).length < 16 → exec (.pipelineExit p) s = .next (s.put (({ u with tm := { s.tm with
                urgent := mset [] s.tm.urgent (k.port / 16) (mget [] s.tm.urgent (k.port / 16)
                  ++ [{ ticket := tk.crossed s.carried, frame := k.frame, since := k.since, good := k.good }]) } } : Dev).bump bIPP 1 k.port 0 1) s.latched))
            ∧ ((tk.tc ≠ 0 ∧ 64 ≤ (mget [] s.tm.general (k.port / 16)).length) ∨ (tk.tc = 0 ∧ 16 ≤ (mget [] s.tm.urgent (k.port / 16)).length) →
              Does (.pipelineExit p) s fun t => evtSet t bIPP 2 = true ∧ Noted ((u.bump bIPP 4 (k.port / 16) 0 1).houseOut k.epoch 1) t)))))
    ∧ (Reached s.toDev q Reg.IPP_PRED_CTRL cl 0 →
      Does (.predictorFlush q cl en false) s (Noted ((disarmed s.toDev q).wg Reg.IPP_PRED_CTRL cl 0 (atB 0 en)))
      ∧ Does (.predictorFlush q cl en true) s fun t => evtSet t bIPP 3 = true
        ∧ Noted ({ disarmed s.toDev q with ing := { s.ing with pred := s.ing.pred.filter fun e => e.1 / 1024 != cl.val } }.wg Reg.IPP_PRED_CTRL cl 0 (atB 0 en)) t))

/-- R15, R89, R329, R333, R336: the crossing that leaves the Dovetail next, once its flits have delivered it whole, enters the egress pipeline of its port and no other: one of a quarantined epoch is a straggler; one that its book does not rewrite goes on to the line, padded to 60 bytes, or, longer than the port's largest frame, is dropped with event 1. One that is not delivered waits.
R119, R335: the oldest frame of a port that is up leaves on the line with its FCS, is counted, and leaves the house count; its capture tag stores the transmit stamp, and its insertion mark writes the stamp into it; LOOP 2 keeps it off the line. On a port that is not up it only leaves the house count. The port is unprotected here, and its book counts no range. R151, R158, R170: a protected port sends it under the next PN of its current slot, and drops it, counted, while its cipher is out of service. -/
def Obligations.PacketsLeaveEgress : Prop :=
  (∀ (s : State) (p : Fin 256) (k : EgPkt) (rest : List EgPkt) (u : Dev),
    (s.tm.toEgress = [] → exec (.egressPipelineEntry p) s = .next (s.put s.toDev s.latched))
    ∧ (s.tm.toEgress = k :: rest → u = { s.toDev with tm := { s.tm with toEgress := rest } } →
      (k.fin = none ∨ (∃ n, k.fin = some n ∧ s.dvtTF.delivered < n) ∨ k.port ≠ p → exec (.egressPipelineEntry p) s = .next (s.put s.toDev s.latched))
      ∧ (∀ n, k.fin = some n → n ≤ s.dvtTF.delivered → k.port = p →
        (s.quarantined k.ticket.epoch.toNat = true → Does (.egressPipelineEntry p) s fun t => evtSet t bCUE 7 = true
          ∧ Noted ((u.houseOut k.ticket.epoch.toNat 1).wg Reg.CUE_STRAGGLER 0 0
              (setFld (s.rg Reg.CUE_STRAGGLER 0 0) 0 16 (satAdd 16 (s.rf Reg.CUE_STRAGGLER 0 0 0 16) 1))) t)
        ∧ (s.quarantined k.ticket.epoch.toNat = false → (∀ b, s.bookOf k.ticket.epoch.toNat = some b → b.emap = []) →
          ∀ m, m = max 1518 (min 9600 (fld (s.cfg k.since Reg.LNP_PORT_CFG (p.val / 16) (p.val % 16)) 8 14)) →
          (k.frame.length + 4 ≤ m → Does (.egressPipelineEntry p) s (Noted (({ u with tm := { u.tm with toLine := s.tm.toLine ++
              [{ port := p, queue := k.queue, frame := if k.frame.length < 60 then slice k.frame 0 60 else k.frame, ticket := k.ticket,
                 since := k.since, insert := none, capture := none }] } } : Dev).bump bEPP 1 p 0 1)))
          ∧ (m < k.frame.length + 4 → Does (.egressPipelineEntry p) s fun t => evtSet t bEPP 1 = true
            ∧ Noted (((u.bump bEPP 1 p 0 1).bump bEPP 1 p 2 1).houseOut k.ticket.epoch.toNat 1) t)))))
  ∧ (∀ (s : State) (p : Fin 256) (sub : Fin 128) (agree : Option (BitVec 14)) (i sec ns : Nat) (x : TxFrame) (f : List Byte) (u : Dev),
    ((∀ x ∈ s.tm.toLine, x.port ≠ p.val) → exec (.frameTransmit p sub agree) s = .next (s.put s.toDev s.latched))
    ∧ (s.tm.toLine.findIdx? (fun x => x.port == p.val) = some i → s.tm.toLine[i]? = some x → s.timeIn sub = (sec, ns) →
      u = { s.toDev with tm := { s.tm with toLine := s.tm.toLine.eraseIdx i } } →
      (s.portUp p = false → exec (.frameTransmit p sub agree) s = .next (s.put (u.houseOut x.ticket.epoch.toNat 1) s.latched))
      ∧ (s.portUp p = true → s.protectedAt x.since p = false → s.loopNear p = false → (∀ b, s.bookOf x.ticket.epoch.toNat = some b → b.ranges = []) →
        ((x.insert = none ∧ f = x.frame) ∨ ∃ off, x.insert = some (1, off, none) ∧ off + 10 ≤ min 256 x.frame.length
          ∧ bit (s.cfg x.since Reg.EPP_PORT_CFG (p.val / 16) (p.val % 16)) 0 = true ∧ f = patch x.frame off (beBytes 6 sec ++ beBytes 4 ns)) →
        ((s.port p).stamps.length < 64 ∨ x.capture = none) →
        Does (.frameTransmit p sub agree) s fun t =>
          t.out = (if s.loopFar p then s.out else s.out ++ [.frame p (f ++ fcs f)]) ∧ t.tm = u.tm
            ∧ t.counter bLNP 2 p 0 = s.counter bLNP 2 p 0 + 1 ∧ t.counter bLNP 2 p 1 = s.counter bLNP 2 p 1 + (f.length + 4)
            ∧ (t.port p).stamps = (match x.capture with | some tag => (s.port p).stamps ++ [(ns, sec, tag)] | none => (s.port p).stamps)
            ∧ t.houseOf x.ticket.epoch.toNat = s.houseOf x.ticket.epoch.toNat - 1)
      ∧ (s.portUp p = true → s.protectedAt x.since p = true → x.insert = none → s.cipherIn (p.val / 16) = false →
        exec (.frameTransmit p sub agree) s = .next (s.put ((u.bump bLCI 3 p 3 1).houseOut x.ticket.epoch.toNat 1) s.latched))
      ∧ (∀ slot, slot = fld (s.pRg Reg.LCI_PORT_TX p) 0 8 → ∀ y, s.ctx? (p.val / 16) slot = some y →
        s.portUp p = true → s.protectedAt x.since p = true → x.insert = none → x.capture = none → s.loopNear p = false → s.loopFar p = false →
        (∀ b, s.bookOf x.ticket.epoch.toNat = some b → b.ranges = []) → s.cipherIn (p.val / 16) = true →
        bit (s.pRg Reg.LCI_PORT_TX p) 8 = true → 
        x.frame.length + 4 + (if ctxTxSci y.words then 32 else 24) ≤ s.maxFrame p + 32 → 2 ^ s.warnExp (ctxPort y.words) y + 1 < y.remaining → 12 ≤ x.frame.length →
        Does (.frameTransmit p sub none) s fun t =>
          (∃ data, t.out = s.out ++ [.frame p (data ++ fcs data)] ∧ data.take 12 = x.frame.take 12)
            ∧ t.ctx? (p.val / 16) slot = some { y with pn := y.pn + 1 } ∧ t.counter bLCI 3 p 0 = s.counter bLCI 3 p 0 + 1
            ∧ t.counter bLNP 2 p 0 = s.counter bLNP 2 p 0 + 1)))

/-- R208, R210, R211: a command of a ring that the engine does not serve waits; a command with a malformed word 0 answers status 1; one whose TABLE is not of its kind 2; one whose REGION is refused the status of that refusal. The tables stay as they are.
R209, R210: NOP answers status 0, and an OP that names no operation status 1. FIB_SET writes the route to the replicas its REGION names, or answers 4 when the key source's units do not suffice; FIB_DEL takes it out, or answers 6; FIB_GET and FIB_MATCH return a route, or answer 6; operands that do not fit the key source answer the status that refuses them, a route that is unreadable 8. -/
def Obligations.TableWorkOnFib : Prop :=
  (∀ (s : State) (c : TwCmd) (i : Instr) (op kind : Nat) (write : Bool),
    (i, op, kind, write) ∈ [(.fibSet c, 0x01, 3, true), (.fibDel c, 0x02, 3, true), (.fibGet c, 0x03, 3, false), (.fibMatch c, 0x04, 3, false),
      (.nhSet c, 0x10, 8, true), (.nhGet c, 0x11, 8, false), (.ecmpSet c, 0x18, 8, true), (.ecmpGet c, 0x19, 8, false), (.membersSet c, 0x1A, 8, true),
      (.membersGet c, 0x1B, 8, false), (.exmSet c, 0x20, 2, true), (.exmDel c, 0x21, 2, true), (.exmGet c, 0x22, 2, false), (.rehashStart c, 0x28, 2, true),
      (.rehashAbort c, 0x29, 2, true), (.acsDel c, 0x32, 1, true), (.acsGet c, 0x33, 1, false)] →
    (s.twTakes c.ring = false → exec i s = .next (s.put s.toDev s.latched))
    ∧ (Serves s c →
      (c.badWord0 = true → Answers i s c op 1 [] s.toDev)
      ∧ (c.badWord0 = false → (∀ t, s.shape? c.table (s.twRead c) = some t → t.tkind ≠ kind) → Answers i s c op 2 [] s.toDev)
      ∧ (c.badWord0 = false → ∀ t, s.shape? c.table (s.twRead c) = some t → t.tkind = kind → ∀ st, s.twRegion c write = some st → Answers i s c op st [] s.toDev)))
  ∧ (∀ (s : State) (c : TwCmd) (t : TShape), Serves s c →
    Answers (.nop ⟨c, 0x3F⟩) s c 0x3F 0 [] s.toDev
    ∧ (∀ op : BitVec 8, op ≠ 0x3F → Answers (.nop ⟨c, op⟩) s c op.toNat 1 [] s.toDev)
    ∧ (Names s.toDev c 3 true t →
      (∀ ks len pfx addr wide alloc, fibOperands c t true 9 = .ok (ks, len, pfx, addr, wide, alloc) → ∀ k, k = routeKey ks pfx len addr →
        ((s.rep (s.twRead c)).routes.any (fun e => e.1 == k) = true ∨ (s.rep (s.twRead c)).fibUnits ks wide + routeCost wide len ≤ alloc →
          Answers (.fibSet c) s c 0x01 0 [] (s.writeReps c.region fun r =>
            ({ r with routes := minsert r.routes k (c.fld 8 0 20, c.fld 8 20 12) } : Rep).unmark 0 k))
        ∧ ((s.rep (s.twRead c)).routes.any (fun e => e.1 == k) = false → alloc < (s.rep (s.twRead c)).fibUnits ks wide + routeCost wide len →
          Answers (.fibSet c) s c 0x01 4 [] s.toDev))
      ∧ (∀ ks len pfx addr wide alloc, fibOperands c t true 8 = .ok (ks, len, pfx, addr, wide, alloc) → ∀ k, k = routeKey ks pfx len addr →
        ((s.rep (s.twRead c)).routes.any (fun e => e.1 == k) = true → Answers (.fibDel c) s c 0x02 0 [] (s.writeReps c.region fun r =>
          ({ r with routes := merase r.routes k } : Rep).unmark 0 k))
        ∧ ((s.rep (s.twRead c)).routes.any (fun e => e.1 == k) = false → Answers (.fibDel c) s c 0x02 6 [] s.toDev)))
    ∧ (Names s.toDev c 3 false t →
      (∀ ks len pfx addr wide alloc, fibOperands c t true 8 = .ok (ks, len, pfx, addr, wide, alloc) →
        ((s.rep (s.twRead c)).routes.find? (fun e => e.1 == routeKey ks pfx len addr) = none → Answers (.fibGet c) s c 0x03 6 [] s.toDev)
        ∧ ∀ e, (s.rep (s.twRead c)).routes.find? (fun e => e.1 == routeKey ks pfx len addr) = some e → (s.rep (s.twRead c)).isBad 0 e.1 = false →
          Answers (.fibGet c) s c 0x03 0 (routeWords e.1 e.2) s.toDev)
      ∧ (∀ ks len pfx addr wide alloc, fibOperands c t true 8 = .ok (ks, len, pfx, addr, wide, alloc) →
        ∀ e, (s.rep (s.twRead c)).routes.find? (fun e => e.1 == routeKey ks pfx len addr) = some e → (s.rep (s.twRead c)).isBad 0 e.1 = true →
          Answers (.fibGet c) s c 0x03 8 [] s.toDev)
      ∧ (∀ st, fibOperands c t true 8 = .error st → Answers (.fibGet c) s c 0x03 st [] s.toDev)
      ∧ (∀ st, fibOperands c t false 8 = .error st → Answers (.fibMatch c) s c 0x04 st [] s.toDev)
      ∧ (∀ ks len pfx addr wide alloc, fibOperands c t false 8 = .ok (ks, len, pfx, addr, wide, alloc) →
        ((s.rep (s.twRead c)).fibBest ks pfx addr = none → Answers (.fibMatch c) s c 0x04 6 [] s.toDev)
        ∧ ∀ e, (s.rep (s.twRead c)).fibBest ks pfx addr = some e → (s.rep (s.twRead c)).isBad 0 e.1 = false →
          Answers (.fibMatch c) s c 0x04 0 (routeWords e.1 e.2) s.toDev))
    ∧ (Names s.toDev c 3 true t → (∀ st, fibOperands c t true 9 = .error st → Answers (.fibSet c) s c 0x01 st [] s.toDev)
      ∧ (∀ st, fibOperands c t true 8 = .error st → Answers (.fibDel c) s c 0x02 st [] s.toDev)))

/-- R206: a FIB lookup finds a route of its key source and prefix that covers the address, and none that covers it is longer; it finds none only where none covers it. R235: of several matching positions an associative search takes the least, by priority, bank and index. -/
def Obligations.LookupsFindTheBest : Prop :=
  (∀ (r : Rep) (ks pfx addr : Nat),
    (∀ e, r.fibBest ks pfx addr = some e → e ∈ r.routes ∧ rkKs e.1 = ks ∧ rkPfx e.1 = pfx ∧ covers e.1 addr = true
      ∧ ∀ e' ∈ r.routes, rkKs e'.1 = ks → rkPfx e'.1 = pfx → covers e'.1 addr = true → rkLen e'.1 ≤ rkLen e.1)
    ∧ (r.fibBest ks pfx addr = none → ∀ e ∈ r.routes, rkKs e.1 = ks → rkPfx e.1 = pfx → covers e.1 addr = false))
  ∧ ∀ l : List (Nat × Nat × Nat), (∀ p, minPos l = some p → p ∈ l ∧ ∀ q ∈ l, posLt q p = false) ∧ (minPos l = none → l = [])

/-- R209, R213, R215: a next hop, an ECMP group or member slots are written to the replicas that REGION names, and read back from the one that serves; an index beyond the allocation answers 3, content that the rules refuse 12.
R217, R218: a host watch takes the state that software gives it, with event 1 or 0; a number outside 16,640–16,895, or the state it has, changes nothing. A re-arm ends the latch of a watch whose port is up: the watch is live at once when its REVERT_MS has passed since the port came up, with event 1, and otherwise at that time, not before. -/
def Obligations.NextHopsAndWatches : Prop :=
  (∀ (s : State) (c : TwCmd) (t : TShape), Serves s c →
    (Names s.toDev c 8 true t →
      (c.only 2 0xFFFFF#32 = true → c.zeroFrom 7 = true → ∀ ws, ws = [c.word 3, c.word 4, c.word 5, c.word 6] →
        (t.alloc ≤ c.fld 2 0 20 → Answers (.nhSet c) s c 0x10 3 [] s.toDev)
        ∧ (c.fld 2 0 20 < t.alloc → nhBad ws = true → Answers (.nhSet c) s c 0x10 12 [] s.toDev)
        ∧ (c.fld 2 0 20 < t.alloc → nhBad ws = false → Answers (.nhSet c) s c 0x10 0 [] (s.writeReps c.region fun r =>
          ({ r with nh := mset [0, 0, 0, 0] r.nh (c.fld 2 0 20) ws } : Rep).unmark 1 (c.fld 2 0 20))))
      ∧ (c.only 2 0xFFFF#32 = true → c.zeroFrom 5 = true →
        (t.alloc2 ≤ c.fld 2 0 16 → Answers (.ecmpSet c) s c 0x18 3 [] s.toDev)
        ∧ (c.fld 2 0 16 < t.alloc2 → bit (c.word 3) 31 = true → c.fld 4 0 10 = 0 → Answers (.ecmpSet c) s c 0x18 12 [] s.toDev)
        ∧ (c.fld 2 0 16 < t.alloc2 → c.only 3 0x801FFFFF#32 = true → c.only 4 0x3FF#32 = true →
          (bit (c.word 3) 31 = false ∨ (1 ≤ c.fld 4 0 10 ∧ c.fld 4 0 10 ≤ 512 ∧ c.fld 3 0 21 + c.fld 4 0 10 ≤ (t.w 0 0).toNat)) →
          Answers (.ecmpSet c) s c 0x18 0 [] (s.writeReps c.region fun r =>
            ({ r with ecmp := mset [0, 0] r.ecmp (c.fld 2 0 16) [c.word 3, c.word 4] } : Rep).unmark 2 (c.fld 2 0 16))))
      ∧ (memberBad c t (fun n => 3 + n) = none → ∀ ws, ws = (List.range (c.fld 2 24 4)).map (fun i => c.word (3 + i)) →
        ((∃ w ∈ ws, t.alloc ≤ fld w 0 20) → Answers (.membersSet c) s c 0x1A 3 [] s.toDev)
        ∧ ((∀ w ∈ ws, fld w 0 20 < t.alloc ∧ fld w 20 12 = 0) → Answers (.membersSet c) s c 0x1A 0 [] (s.writeReps c.region fun r =>
          (List.range ws.length).foldl (fun (r : Rep) i =>
            ({ r with members := mset 0 r.members (c.fld 2 0 21 + i) (word ws i) } : Rep).unmark 3 (c.fld 2 0 21 + i)) r))))
    ∧ (Names s.toDev c 8 false t →
      (c.only 2 0xFFFFF#32 = true → c.zeroFrom 3 = true → t.alloc ≤ c.fld 2 0 20 → Answers (.nhGet c) s c 0x11 3 [] s.toDev)
      ∧ (c.only 2 0xFFFF#32 = true → c.zeroFrom 3 = true → t.alloc2 ≤ c.fld 2 0 16 → Answers (.ecmpGet c) s c 0x19 3 [] s.toDev)
      ∧ (c.only 2 0xFFFFF#32 = true → c.zeroFrom 3 = true → c.fld 2 0 20 < t.alloc → (s.rep (s.twRead c)).isBad 1 (c.fld 2 0 20) = false →
        Answers (.nhGet c) s c 0x11 0 (w32 (c.fld 2 0 20) :: mget [0, 0, 0, 0] (s.rep (s.twRead c)).nh (c.fld 2 0 20)) s.toDev)
      ∧ (c.only 2 0xFFFF#32 = true → c.zeroFrom 3 = true → c.fld 2 0 16 < t.alloc2 → (s.rep (s.twRead c)).isBad 2 (c.fld 2 0 16) = false →
        Answers (.ecmpGet c) s c 0x19 0 (w32 (c.fld 2 0 16) :: mget [0, 0] (s.rep (s.twRead c)).ecmp (c.fld 2 0 16)) s.toDev)
      ∧ (memberBad c t (fun _ => 3) = none → (∀ i < c.fld 2 24 4, (s.rep (s.twRead c)).isBad 3 (c.fld 2 0 21 + i) = false) →
        Answers (.membersGet c) s c 0x1B 0 (c.word 2 :: (List.range (c.fld 2 24 4)).map fun i => mget 0 (s.rep (s.twRead c)).members (c.fld 2 0 21 + i)) s.toDev)))
  ∧ (∀ (s : State) (q : Req) (w : BitVec 15) (p : Fin 256) (k : Nat), w.toNat = 16640 + k →
    (k < 256 → Reached s.toDev q Reg.FIB_WATCH_CMD 0 0 →
      (k ∈ s.tbl.hostDead → (Does (.hostWatchLive q w) s fun t => evtSet t bFIB 1 = true
          ∧ Noted { disarmed s.toDev q with tbl := { s.tbl with hostDead := delKey s.tbl.hostDead k } } t)
        ∧ Does (.hostWatchDead q w) s (Noted (disarmed s.toDev q)))
      ∧ (k ∉ s.tbl.hostDead → (Does (.hostWatchDead q w) s fun t => evtSet t bFIB 0 = true
          ∧ Noted { disarmed s.toDev q with tbl := { s.tbl with hostDead := k :: s.tbl.hostDead } } t)
        ∧ Does (.hostWatchLive q w) s (Noted (disarmed s.toDev q))))
    ∧ (∀ w' : BitVec 15, w'.toNat < 16640 ∨ 16896 ≤ w'.toNat → Reached s.toDev q Reg.FIB_WATCH_CMD 0 0 →
      Does (.hostWatchLive q w') s (Noted (disarmed s.toDev q)) ∧ Does (.hostWatchDead q w') s (Noted (disarmed s.toDev q)))
    ∧ (Reached s.toDev q Reg.FIB_WATCH_CMD 0 0 → ∀ x, x = BitVec.ofNat 15 p.val → ∀ due, due = mget 0 s.tbl.upAt p + s.rf Reg.FIB_WATCH_CFG 0 p 8 8 * 1000000 →
      (p.val ∉ s.tbl.latched ∨ s.portUp p = false → Does (.rearm q x) s (Noted (disarmed s.toDev q)))
      ∧ (p.val ∈ s.tbl.latched → s.portUp p = true → s.cue.localNs < due → Does (.rearm q x) s (Noted { disarmed s.toDev q with
          tbl := { s.tbl with latched := delKey s.tbl.latched p, revertAt := minsert s.tbl.revertAt p due } }))
      ∧ (p.val ∈ s.tbl.latched → s.portUp p = true → due ≤ s.cue.localNs → p.val ∉ s.tbl.live → Does (.rearm q x) s fun t => evtSet t bFIB 1 = true
        ∧ Noted { disarmed s.toDev q with
            tbl := { s.tbl with latched := delKey s.tbl.latched p, live := p.val :: s.tbl.live, revertAt := merase s.tbl.revertAt p } } t))
    ∧ (s.tbl.revertAt.find? (fun e => e.1 == p.val) = none → exec (.watchRevert p) s = .next (s.put s.toDev s.latched))
    ∧ (∀ e, s.tbl.revertAt.find? (fun e => e.1 == p.val) = some e →
      (s.cue.localNs < e.2 → exec (.watchRevert p) s = .next (s.put s.toDev s.latched))
      ∧ (e.2 ≤ s.cue.localNs → p.val ∉ s.tbl.latched → s.portUp p = true → p.val ∉ s.tbl.live → Does (.watchRevert p) s fun t => evtSet t bFIB 1 = true
        ∧ Noted { s.toDev with tbl := { s.tbl with live := p.val :: s.tbl.live, revertAt := merase s.tbl.revertAt p } } t)))

/-- R209, R221, R222: EXM_SET of a key that is held replaces its data, keeping HIT, or answers 5 in mode 0; of a key that is not held it answers 6 in mode 1, and otherwise inserts it along a path with the fewest moves, answering their number, or, where no path exists, is refused with 9, counted, FULL set. EXM_DEL takes a key out, or answers 6. EXM_GET returns it, or answers 6.
R223: REHASH_START puts a table into dual-seed mode, and its completion waits; it answers 10 for a table in that mode or for the active seed. REHASH_ABORT exchanges the seeds, or answers 10. The Lead migrates an entry under the old seed along a path, and sets it aside where no path exists; a pass over all of them that moved none is stuck, with event 2; it waits while an open split changes the table (R108). With none left the target becomes the active seed, with event 1, and the command that waited completes. -/
def Obligations.ExactMatchAndRehash : Prop :=
  (∀ (s : State) (c : TwCmd) (t : TShape) (key : Nat) (r : Rep), Serves s c → exmKey c t = .ok key → c.zeroFrom 9 = true → r = s.rep (s.twRead c) →
    (Names s.toDev c 2 true t → c.fld 2 0 2 ≠ 3 → c.only 2 0x103#32 = true → ∀ e : ExmEnt,
      e = { key := key, data := c.fld 3 16 16 * 2 ^ 32 + (c.word 4).toNat, prog := c.fld 3 0 16, static := bit (c.word 2) 8, hit := true, gen := s.genInto t.id } →
      (∀ p x, s.exmWhere r t key = some (p, x) →
        (c.fld 2 0 2 = 0 → Answers (.exmSet c) s c 0x20 5 [] s.toDev)
        ∧ (c.fld 2 0 2 ≠ 0 → Answers (.exmSet c) s c 0x20 0 [] (s.writeReps c.region fun r =>
          ({ r with exm := minsert r.exm p ({ x with data := e.data, prog := e.prog, static := e.static } : ExmEnt) } : Rep).unmark 4 p)))
      ∧ (s.exmWhere r t key = none →
        (c.fld 2 0 2 = 1 → Answers (.exmSet c) s c 0x20 6 [] s.toDev)
        ∧ (c.fld 2 0 2 ≠ 1 → ∀ l, l = s.freePaths t r 33 (s.exmInto t key) ((s.exmInto t key).map fun p => [p]) →
          (l = [] → Answers (.exmSet c) s c 0x20 9 [] ((s.toDev.bump bEXM 1 t.id 2 1).wf Reg.EXM_TBL_STATUS 0 t.id 25 1 1))
          ∧ (l ≠ [] → ∃ path ∈ l, Answers (.exmSet c) s c 0x20 0 [at_ 0 6 (path.length - 1)]
            (({ s.toDev with freeCtr := s.freeCtr + 1 }.writeReps c.region (movePath e path)).bump bEXM 1 t.id 3 (path.length - 1))))))
    ∧ (c.word 2 = 0 → c.word 3 = 0 → c.word 4 = 0 →
      (Names s.toDev c 2 true t →
        (s.exmWhere r t key = none → Answers (.exmDel c) s c 0x21 6 [] s.toDev)
        ∧ ∀ p x, s.exmWhere r t key = some (p, x) → Answers (.exmDel c) s c 0x21 0 [] (s.writeReps c.region fun r => r.exmDrop p))
      ∧ (Names s.toDev c 2 false t →
        (s.exmWhere r t key = none → Answers (.exmGet c) s c 0x22 6 [] s.toDev)
        ∧ ∀ p x, s.exmWhere r t key = some (p, x) → r.isBad 4 p = false → Answers (.exmGet c) s c 0x22 0
          ([atB 8 x.static ||| atB 9 x.hit ||| atB 10 x.gen ||| at_ 12 2 (p / 2 ^ 20 % 4), at_ 16 16 (x.data / 2 ^ 32) ||| at_ 0 16 x.prog, w32 x.data]
            ++ w128 x.key ++ [w32 (p % 2 ^ 20)]) s.toDev)))
  ∧ (∀ (s : State) (c : TwCmd) (t : Fin 128) (sh : TShape) (r : Rehash),
    (Serves s c → Names s.toDev c 2 true sh → c.zeroFrom 3 = true →
      (s.rehash? sh.id = none → c.word 2 ≠ s.seedOf sh → exec (.rehashStart c) s = .next (s.put
        ((s.toDev.setRehash sh.id (some { target := c.word 2, ring := c.ring, tag := c.tag })).setRing (twRing c.ring)
          { s.ring (twRing c.ring) with held := [(c.table + 1, completion 0x28 0 c.tag [])] }) s.latched))
      ∧ (s.rehash? sh.id ≠ none ∨ c.word 2 = s.seedOf sh → Answers (.rehashStart c) s c 0x28 10 [] s.toDev))
    ∧ (Serves s c → Names s.toDev c 2 true sh → c.zeroFrom 2 = true →
      (s.rehash? sh.id = none → Answers (.rehashAbort c) s c 0x29 10 [] s.toDev)
      ∧ (s.rehash? sh.id = some r → Answers (.rehashAbort c) s c 0x29 0 [] ({ s.toDev with tbl := { s.tbl with
          seeds := if r.target = sh.seed then merase s.tbl.seeds sh.id else minsert s.tbl.seeds sh.id r.target
          gens := if s.genActive sh.id then delKey s.tbl.gens sh.id else addKey s.tbl.gens sh.id } }.setRehash sh.id
            (some { r with target := s.seedOf sh, tried := [], moved := false }))))
    ∧ (s.rehash? t = none → exec (.rehashMigration t) s = .next (s.put s.toDev s.latched) ∧ exec (.rehashComplete t) s = .next (s.put s.toDev s.latched))
    ∧ (s.rehash? t = some r → s.shape? t s.primary = some sh →
      (s.leadRuns = false ∨ s.splitNames t = true → exec (.rehashMigration t) s = .next (s.put s.toDev s.latched))
      ∧ (s.leadRuns = true → s.splitNames t = false → s.oldEntries t ≠ [] → (∀ e ∈ s.oldEntries t, e.1 ∈ r.tried) →
        (r.moved = true → exec (.rehashMigration t) s = .next (s.put
          ((s.toDev.setRehash t (some { r with tried := [], moved := false })).wf Reg.EXM_TBL_STATUS 0 t 24 1 0) s.latched))
        ∧ (r.moved = false → Does (.rehashMigration t) s fun u => evtSet u bEXM 2 = true
          ∧ Noted ((s.toDev.setRehash t (some { r with tried := [], moved := false })).wf Reg.EXM_TBL_STATUS 0 t 24 1 1) u))
      ∧ (s.leadRuns = true → s.splitNames t = false → ∀ p e, (s.oldEntries t).find? (fun e => !r.tried.contains e.1) = some (p, e) → ∀ l,
        l = s.freePaths sh (s.rep s.primary) 33 (s.exmInto sh e.key) ((s.exmInto sh e.key).map fun p => [p]) →
        (l = [] → exec (.rehashMigration t) s = .next (s.put (s.toDev.setRehash t (some { r with tried := p :: r.tried })) s.latched))
        ∧ (l ≠ [] → ∃ path ∈ l, Does (.rehashMigration t) s (Noted (((({ s.toDev with freeCtr := s.freeCtr + 1 }.writeReps 0
            (movePath { e with gen := s.genInto sh.id } path)).bump bEXM 1 sh.id 3 (path.length - 1)).writeReps 0 fun r =>
              if (r.exmAt p).map (fun (x : ExmEnt) => x.gen) == some (s.genActive t) then r.exmDrop p else r).setRehash t (some { r with moved := true })))))
      ∧ (s.oldEntries t ≠ [] → exec (.rehashComplete t) s = .next (s.put s.toDev s.latched))
      ∧ (s.oldEntries t = [] → Does (.rehashComplete t) s fun u => evtSet u bEXM 1 = true
        ∧ (∀ ws, (s.ring (twRing r.ring)).held = [(t.val + 1, ws)] →
          Sent s.toDev u (.hostWrite (s.slotAddr (twRing r.ring) (s.devIdx (twRing r.ring)) 64) (wordsBytes ws) false false))
        ∧ Noted (({ s.toDev with tbl := { s.tbl with
            seeds := if r.target = sh.seed then merase s.tbl.seeds t else minsert s.tbl.seeds t r.target
            gens := if s.genActive t then delKey s.tbl.gens t else addKey s.tbl.gens t } }.setRehash t none).wf Reg.EXM_TBL_STATUS 0 t 24 2 0) u)))

/-- R225: the oldest candidate is dropped while learning is off; beyond LRN_RATE in its millisecond it is a rate drop with event 4. One that no live filter entry names makes an entry, and a learn record, or a counted ring drop with event 5; one of the source that the entry names is suppressed; one of another source moves the entry, with a record, and is a flap once the entry has moved; a full filter drops the candidate, with event 3. Entries cease to be live after HOLD.
R228, R404: a scan of a table that ages takes out every entry that is neither STATIC nor HIT, and clears HIT of the others; the first scan after a takeover only clears HIT. A table without an age, or a device without a Lead, is left as it is. -/
def Obligations.LearningAndAging : Prop :=
  (∀ (s : State) (c : LearnCand) (rest : List LearnCand) (n : Nat) (live : List LearnEnt),
    (s.ing.cands = [] → exec .learnCandidate s = .next (s.put s.toDev s.latched))
    ∧ (s.ing.cands = c :: rest → bit (s.rg Reg.EXM_LRN_CFG 0 0) 31 = false →
      exec .learnCandidate s = .next (s.put { s.toDev with ing := { s.ing with cands := rest } } s.latched))
    ∧ (s.ing.cands = c :: rest → bit (s.rg Reg.EXM_LRN_CFG 0 0) 31 = true → n = (if s.tbl.rateMs = s.cue.localNs / 1000000 then s.tbl.rateN else 0) →
      live = s.tbl.filter.filter (fun e => decide (s.cue.localNs < e.time + s.learnHold)) → ∀ u : Dev, u = { s.toDev with
        ing := { s.ing with cands := rest }, tbl := { s.tbl with rateMs := s.cue.localNs / 1000000, rateN := n + 1 } } →
      (max 1 (s.rf Reg.EXM_LRN_RATE 0 0 0 16) ≤ n → Does .learnCandidate s fun t => evtSet t bEXM 4 = true ∧ Noted (u.bump bEXM 2 0 4 1) t)
      ∧ (n < max 1 (s.rf Reg.EXM_LRN_RATE 0 0 0 16) →
        (live.find? (fun e => e.table == c.table && e.key == c.key) = none → 16384 ≤ live.length → Does .learnCandidate s fun t =>
          evtSet t bEXM 3 = true ∧ Noted ({ u with tbl := { u.tbl with filter := live } }.bump bEXM 2 0 3 1) t)
        ∧ (live.find? (fun e => e.table == c.table && e.key == c.key) = none → live.length < 16384 → ∀ v : Dev, v = { u with tbl := { u.tbl with
            filter := live ++ [{ table := c.table, key := c.key, src := c.src, time := s.cue.localNs, moved := false }] } } →
          (s.ringState (1024 + s.rf Reg.EXM_LRN_CFG 0 0 16 6) = 1 → 0 < s.freeSlots (1024 + s.rf Reg.EXM_LRN_CFG 0 0 16 6) → s.mastering = true →
            Does .learnCandidate s fun t => Noted (v.bump bEXM 2 0 0 1) t ∧ s.out.length < t.out.length)
          ∧ (s.ringState (1024 + s.rf Reg.EXM_LRN_CFG 0 0 16 6) ≠ 1 → Does .learnCandidate s fun t =>
            evtSet t bEXM 5 = true ∧ Noted (v.bump bEXM 2 0 5 1) t))
        ∧ (∀ e, live.find? (fun e => e.table == c.table && e.key == c.key) = some e →
          (e.src = c.src → exec .learnCandidate s = .next (s.put (u.bump bEXM 2 0 1 1) s.latched))
          ∧ (e.src ≠ c.src → e.moved = false → s.ringState (1024 + s.rf Reg.EXM_LRN_CFG 0 0 16 6) ≠ 1 → Does .learnCandidate s fun t =>
            evtSet t bEXM 5 = true ∧ Noted ({ u with tbl := { u.tbl with filter := live.map fun (x : LearnEnt) =>
              if x == e then ({ e with src := c.src, moved := true, time := s.cue.localNs } : LearnEnt) else x } }.bump bEXM 2 0 5 1) t)
          ∧ (e.src ≠ c.src → e.moved = true → exec .learnCandidate s = .next (s.put (u.bump bEXM 2 0 2 1) s.latched)))))
    ∧ exec .learnHoldExpiry s = .next (s.put { s.toDev with
        tbl := { s.tbl with filter := s.tbl.filter.filter fun e => decide (s.cue.localNs < e.time + s.learnHold) } } s.latched))
  ∧ (∀ (s : State) (t : Fin 128) (sh : TShape), s.shape? t s.primary = some sh →
    (sh.tkind ≠ 2 ∨ s.rf Reg.EXM_TBL_AGE 0 t 0 16 = 0 ∨ s.leadRuns = false → exec (.agingScan t) s = .next (s.put s.toDev s.latched))
    ∧ (sh.tkind = 2 → s.rf Reg.EXM_TBL_AGE 0 t 0 16 ≠ 0 → s.leadRuns = true → s.fIso 0 = false → sortedKeys s.rep0.exm = true →
      ∀ p e, s.rep0.exmAt p = some e →
      (p / 2 ^ 22 ≠ t → Does (.agingScan t) s fun u => u.rep0.exmAt p = some e)
      ∧ (p / 2 ^ 22 = t →
        (t.val ∈ s.ccx.agingFirst ∨ e.static = true ∨ e.hit = true → Does (.agingScan t) s fun u =>
          u.rep0.exmAt p = some { e with hit := false } ∧ t.val ∉ u.ccx.agingFirst)
        ∧ (t.val ∉ s.ccx.agingFirst → e.static = false → e.hit = false → Does (.agingScan t) s fun u => u.rep0.exmAt p = none ∧ t.val ∉ u.ccx.agingFirst))))

/-- R237, R238: ACS_UNIT stages a unit in its ring's assembly buffer. ACS_SET writes the staged entry to the replicas that REGION names and empties the buffer; with a unit missing it answers 1, and the buffer is emptied all the same. ACS_DEL clears VALID. ACS_GET returns part 4, and the units' VALUE and CARE.
R240: START captures the key words, TABLE, REGION and EPOCH and finds the first match of an ACS table, in ACS_STEP_STATUS; NEXT finds the first one after the last; NEXT without START, and a table that is none, set ERROR. -/
def Obligations.AssociativeSearch : Prop :=
  (∀ (s : State) (c : TwCmd) (t : TShape), Serves s c →
    (bit c.hi 7 = false → fld c.hi 10 14 = 0 → c.only 2 3#32 = true → c.zeroFrom 13 = true → ∀ x,
      x = (unitOf [c.word 3, c.word 4, c.word 5, c.word 6, c.word 7], unitOf [c.word 8, c.word 9, c.word 10, c.word 11, c.word 12]) →
      Answers (.acsUnit c) s c 0x30 0 [] { s.toDev with tbl := { s.tbl with asm := minsert s.tbl.asm (4 * c.ring.val + c.fld 2 0 2) x } })
    ∧ (Names s.toDev c 1 true t →
      ((∃ u < t.acsWidth, s.asmUnit c.ring u = none) → Answers (.acsSet c) s c 0x31 1 [] { s.toDev with
        tbl := { s.tbl with asm := s.tbl.asm.filter fun e => e.1 / 4 != c.ring.val } })
      ∧ (c.only 2 0x3F0FFF#32 = true → c.only 3 0x8000FFFF#32 = true → c.zeroFrom 7 = true → t.acsIn (c.fld 2 16 6) (c.fld 2 0 12) = true →
        (∀ u < t.acsWidth, ∃ v m, s.asmUnit c.ring u = some (v, m) ∧ v &&& m = v ∧ m % 2 ^ (8 * (20 - min 20 (selWidth t.acsSel - 20 * u))) = 0) →
        ∀ e : AcsEnt,
        e = { value := (List.range t.acsWidth).map fun u => ((s.asmUnit c.ring u).getD (0, 0)).1,
              care := (List.range t.acsWidth).map fun u => ((s.asmUnit c.ring u).getD (0, 0)).2,
              valid := bit (c.word 3) 31, mask := c.fld 3 0 16, prog := c.fld 4 16 16,
              data := c.fld 4 0 16 * 2 ^ 64 + (c.word 5).toNat * 2 ^ 32 + (c.word 6).toNat } →
        ∀ u : Dev, u = s.writeReps c.region (fun r => ({ r with acs := mset {} r.acs (acsPos c) e } : Rep).unmark 5 (acsPos c)) →
          Answers (.acsSet c) s c 0x31 0 [] { u with tbl := { u.tbl with asm := u.tbl.asm.filter fun e => e.1 / 4 != c.ring.val } }))
    ∧ (Names s.toDev c 1 true t → c.only 2 0x3F0FFF#32 = true → c.zeroFrom 3 = true → t.acsIn (c.fld 2 16 6) (c.fld 2 0 12) = true →
      Answers (.acsDel c) s c 0x32 0 [] (s.writeReps c.region fun r =>
        ({ r with acs := mset {} r.acs (acsPos c) { r.acsAt (acsPos c) with valid := false } } : Rep).unmark 5 (acsPos c)))
    ∧ (Names s.toDev c 1 false t → c.only 2 0x073F0FFF#32 = true → c.zeroFrom 3 = true → t.acsIn (c.fld 2 16 6) (c.fld 2 0 12) = true →
      (s.rep (s.twRead c)).isBad 5 (acsPos c) = false → ∀ e, e = (s.rep (s.twRead c)).acsAt (acsPos c) →
      (c.fld 2 24 3 = 4 → Answers (.acsGet c) s c 0x33 0 [c.word 2, at_ 0 16 e.mask ||| atB 31 e.valid,
        at_ 16 16 e.prog ||| at_ 0 16 (e.data / 2 ^ 64), w32 (e.data / 2 ^ 32), w32 e.data] s.toDev)
      ∧ (c.fld 2 24 3 < 4 → c.fld 2 24 3 < t.acsWidth → Answers (.acsGet c) s c 0x33 0
        (c.word 2 :: (unitWords (e.value.getD (c.fld 2 24 3) 0) ++ unitWords (e.care.getD (c.fld 2 24 3) 0))) s.toDev)))
  ∧ (∀ (s : State) (q : Req) (table : Fin 128) (region : Fin 4) (epoch : Fin 16), Reached s.toDev q Reg.ACS_STEP_CTRL 0 0 →
    (∀ r, s.stepRegion region table = some r → ∀ t, s.shape? table r = some t → t.tkind = 1 → ∀ key,
      key = wordsBytes (s.obj bACS 1 0 ++ s.obj bACS 1 1 ++ s.obj bACS 1 2) → ∀ m, m = (s.rep r).acsMatches t (key.take (selWidth t.acsSel)) epoch →
      ∀ u : Dev, u = { disarmed s.toDev q with tbl := { s.tbl with
        stepKey := key, stepTable := table, stepRegion := region, stepEpoch := epoch, stepLast := minPos m, stepOn := true } } →
      (minPos m = none → Does (.start q table region epoch) s (Noted (u.wg Reg.ACS_STEP_STATUS 0 0 1#32)))
      ∧ (∀ p, minPos m = some p → Does (.start q table region epoch) s (Noted (u.wg Reg.ACS_STEP_STATUS 0 0 (3#32 ||| at_ 4 12 p.2.2 ||| at_ 16 6 p.2.1)))))
    ∧ (s.stepRegion region table = none → Does (.start q table region epoch) s fun t => t.rg Reg.ACS_STEP_STATUS 0 0 = 9#32 ∧ t.tbl.stepOn = false)
    ∧ (s.tbl.stepOn = false → Does (.next q) s (Noted ((disarmed s.toDev q).wg Reg.ACS_STEP_STATUS 0 0 9#32)))
    ∧ (s.tbl.stepOn = true → ∀ a, s.tbl.stepLast = some a → ∀ r, s.stepRegion s.tbl.stepRegion s.tbl.stepTable = some r →
      ∀ t, s.shape? s.tbl.stepTable r = some t → t.tkind = 1 →
      ∀ p, minPos (((s.rep r).acsMatches t (s.tbl.stepKey.take (selWidth t.acsSel)) s.tbl.stepEpoch).filter fun p => posLt a p) = some p →
      Does (.next q) s (Noted ({ disarmed s.toDev q with tbl := { s.tbl with stepLast := some p } }.wg Reg.ACS_STEP_STATUS 0 0
        (3#32 ||| at_ 4 12 p.2.2 ||| at_ 16 6 p.2.1)))))

/-- R241, R242, R244: a sample raises the throttle at once to the step whose threshold it meets, with event 0; an invalid one keeps at least step 1, with event 2; ten samples below the fall threshold of the step, above the floor, lower it by one, with event 1; any other is only kept. A change of step counts the time that the old one lasted. A write of ACS_THROTTLE with thresholds that do not rise is discarded with event 3; one that is stored raises the step to its floor.
R319–R322: a group entry, replica entries and a mirror session are written as their commands give them and read back; malformed operands answer 1, content that the rules refuse 12, session 0 and replica entries beyond the pool 3. -/
def Obligations.ThrottleAndReplicationTables : Prop :=
  (∀ (s : State) (q : Req) (b : Byte) (w v : W32) (u : Dev) (n fall : Nat) (temps : List Nat) (moved : Dev → Nat → Dev),
    w = s.rg Reg.ACS_THROTTLE 0 0 → n = s.throttleStep → fall = max 1 (fld w 24 4) → temps = (b.toNat :: s.tbl.cools).take 10 →
    u = (s.toDev.wf Reg.ACS_STATUS 0 0 2 1 1).wf Reg.ACS_STATUS 0 0 8 8 b.toNat →
    moved = (fun d k => { d.bump bACS 4 0 n (s.cue.localNs - s.tbl.stepAt) with tbl := { s.tbl with cools := [], stepAt := s.cue.localNs } }.wf Reg.ACS_STATUS 0 0 0 2 k) →
    (n < stepOf w b.toNat → Does (.throttleSample (some b)) s fun t => evtSet t bACS 0 = true ∧ Noted (moved u (stepOf w b.toNat)) t)
    ∧ (stepOf w b.toNat ≤ n → fld w 28 2 < n → temps.length = 10 → (∀ x ∈ temps, x + fall < stepThresh w n) →
      Does (.throttleSample (some b)) s fun t => evtSet t bACS 1 = true ∧ Noted (moved u (n - 1)) t)
    ∧ (stepOf w b.toNat ≤ n → (n ≤ fld w 28 2 ∨ temps.length < 10 ∨ ∃ x ∈ temps, stepThresh w n ≤ x + fall) →
      exec (.throttleSample (some b)) s = .next (s.put { u with tbl := { s.tbl with cools := temps } } s.latched))
    ∧ (Does (.throttleSample none) s fun t => evtSet t bACS 2 = true ∧ t.throttleStep = max n 1 ∧ t.rf Reg.ACS_STATUS 0 0 2 1 = 0 ∧ t.tbl.cools = []
      ∧ (n = 0 → evtSet t bACS 0 = true ∧ t.counter bACS 4 0 0 = s.counter bACS 4 0 0 + (s.cue.localNs - s.tbl.stepAt)))
    ∧ (Reached s.toDev q Reg.ACS_THROTTLE 0 0 →
      (fld v 8 8 ≤ fld v 0 8 ∨ fld v 16 8 ≤ fld v 8 8 → Does (.throttleWrite q v) s fun t => evtSet t bACS 3 = true ∧ Noted (disarmed s.toDev q) t)
      ∧ (fld v 0 8 < fld v 8 8 → fld v 8 8 < fld v 16 8 →
        (fld v 28 2 ≤ n → Does (.throttleWrite q v) s (Noted ((disarmed s.toDev q).storeRw Reg.ACS_THROTTLE 0 0 v)))
        ∧ (n < fld v 28 2 → Does (.throttleWrite q v) s fun t => evtSet t bACS 0 = true
          ∧ Noted (moved ((disarmed s.toDev q).storeRw Reg.ACS_THROTTLE 0 0 v) (fld v 28 2)) t))))
  ∧ (∀ (s : State) (c : TwCmd), Serves s c →
    (c.plain = true → c.only 2 0x1FFFF#32 = true → c.zeroFrom 5 = true →
      (groupBad (c.word 3) (c.word 4) = true → Answers (.mcGroupSet c) s c 0x40 12 [] s.toDev)
      ∧ (groupBad (c.word 3) (c.word 4) = false → Answers (.mcGroupSet c) s c 0x40 0 [] { s.toDev with
        tbl := { s.tbl with groups := mset [0, 0] s.tbl.groups (c.fld 2 0 17) [c.word 3, c.word 4] } }))
    ∧ (c.plain = true → c.only 2 0x1FFFF#32 = true → c.zeroFrom 3 = true →
      Answers (.mcGroupGet c) s c 0x41 0 (c.word 2 :: mget [0, 0] s.tbl.groups (c.fld 2 0 17)) s.toDev)
    ∧ (c.plain = false → Answers (.mcGroupSet c) s c 0x40 1 [] s.toDev ∧ Answers (.mcGroupGet c) s c 0x41 1 [] s.toDev
      ∧ Answers (.replSet c) s c 0x42 1 [] s.toDev ∧ Answers (.replGet c) s c 0x43 1 [] s.toDev
      ∧ Answers (.mirrorSet c) s c 0x44 1 [] s.toDev ∧ Answers (.mirrorGet c) s c 0x45 1 [] s.toDev)
    ∧ (c.plain = true → c.only 2 0x0F0FFFFF#32 = true → 1 ≤ c.fld 2 24 4 → c.fld 2 24 4 ≤ 6 →
      (c.zeroFrom (3 + 2 * c.fld 2 24 4) = true →
        (1048576 < c.fld 2 0 20 + c.fld 2 24 4 → Answers (.replSet c) s c 0x42 3 [] s.toDev)
        ∧ (c.fld 2 0 20 + c.fld 2 24 4 ≤ 1048576 → (∃ i < c.fld 2 24 4, replBad (c.word (3 + 2 * i)) (c.word (4 + 2 * i)) = true) →
          Answers (.replSet c) s c 0x42 12 [] s.toDev)
        ∧ (c.fld 2 0 20 + c.fld 2 24 4 ≤ 1048576 → (∀ i < c.fld 2 24 4, replBad (c.word (3 + 2 * i)) (c.word (4 + 2 * i)) = false) →
          Answers (.replSet c) s c 0x42 0 [] { s.toDev with tbl := { s.tbl with pool := (List.range (c.fld 2 24 4)).foldl (fun m i =>
            mset [0, 0] m (c.fld 2 0 20 + i) [c.word (3 + 2 * i), c.word (4 + 2 * i)]) s.tbl.pool } }))
      ∧ (c.zeroFrom 3 = true → c.fld 2 0 20 + c.fld 2 24 4 ≤ 1048576 → Answers (.replGet c) s c 0x43 0
        (c.word 2 :: (List.range (c.fld 2 24 4)).flatMap fun i => mget [0, 0] s.tbl.pool (c.fld 2 0 20 + i)) s.toDev))
    ∧ (c.plain = true → c.only 2 0xF#32 = true → c.zeroFrom 5 = true →
      (c.fld 2 0 4 = 0 → Answers (.mirrorSet c) s c 0x44 3 [] s.toDev)
      ∧ (c.fld 2 0 4 ≠ 0 → mirrorBad (c.word 3) (c.word 4) = true → Answers (.mirrorSet c) s c 0x44 12 [] s.toDev)
      ∧ (c.fld 2 0 4 ≠ 0 → mirrorBad (c.word 3) (c.word 4) = false → Answers (.mirrorSet c) s c 0x44 0 [] { s.toDev with
        tbl := { s.tbl with mirrors := mset [0, 0] s.tbl.mirrors (c.fld 2 0 4) [c.word 3, c.word 4] } }))
    ∧ (c.plain = true → c.only 2 0xF#32 = true → c.zeroFrom 3 = true → c.fld 2 0 4 ≠ 0 →
      Answers (.mirrorGet c) s c 0x45 0 (c.word 2 :: mget [0, 0] s.tbl.mirrors (c.fld 2 0 4)) s.toDev))

/-- R259, R260: how a packet of colour `c` for queue `q` is judged: dropped at the queue limit; admitted from the queue reserve; dropped when its pool can take nothing more, or when the queue's excess is not below α times what the pool can take; admitted otherwise. ALPHA 0 is α = 0; ALPHA from 1 to 12 is α = 2^(ALPHA − 8); 13 to 15 act as 12. -/
def Obligations.AdmissionThresholds : Prop :=
  ∀ (s : Dev) (q c t prof a d m room : Nat), c < 3 → prof = fld (s.qmap q t) 8 6 → a = wfld (s.cfgObj t bQAD 0x10 prof) 2 (4 * c) 4 →
    d = (s.queue q).depth → m = thresh (word (s.cfgObj t bQAD 0x10 prof) 0) → room = s.poolRoom (fld (s.qmap q t) 0 4) →
    (thresh (word (s.cfgObj t bQAD 0x11 prof) (3 + c)) ≤ d → s.judge q c t = some .limit)
    ∧ (d < thresh (word (s.cfgObj t bQAD 0x11 prof) (3 + c)) →
      (d < m → s.judge q c t = none)
      ∧ (m ≤ d → (room = 0 ∨ a = 0 → s.judge q c t = some .threshold)
        ∧ (0 < room →
          (∀ k, 1 ≤ k → k < 8 → a = k → s.judge q c t = if room ≤ (d - m) * 2 ^ (8 - k) then some .threshold else none)
          ∧ (∀ k, 8 ≤ k → k ≤ 12 → a = k → s.judge q c t = if room * 2 ^ (k - 8) ≤ d - m then some .threshold else none)
          ∧ (13 ≤ a → s.judge q c t = if room * 2 ^ 4 ≤ d - m then some .threshold else none))))

/-- R12, R14, R82, R257, R259: the oldest crossing whose head the flits have delivered is decided, under the staged values of the tick at which its ingress section began: one for an isolated queue, one beyond its queue's limit or its threshold, or one without a place, is dropped and counted; one that the queue admits arrives, with its queue, its frame and its verdict, and a chain of as many buffers as its stored bytes take. With no such crossing nothing happens. The crossing is one that is not cut through.
R165, R257: the first packet that has wholly arrived ends. One that is not trusted, and one whose chain is incomplete, are dropped and counted, the first with event 3, or, where it is cut through to a port already, ended on the line (R311); a good one joins the tail of its queue with its FRAME_LEN. -/
def Obligations.CrossingsAreAdmitted : Prop :=
  (∀ (s : State) (x : Crossing) (fin : Nat) (rest : List (Crossing × Nat)) (u : Dev) (q : Nat),
    (s.tm.packed = [] → exec .crossingHeadArrival s = .next (s.put s.toDev s.latched))
    ∧ (s.tm.packed = (x, fin) :: rest → s.dvtFT.delivered < fin - x.frame.length → exec .crossingHeadArrival s = .next (s.put s.toDev s.latched))
    ∧ (s.tm.packed = (x, fin) :: rest → fin - x.frame.length ≤ s.dvtFT.delivered → u = { s.toDev with tm := { s.tm with packed := rest } } →
      q = x.ticket.voq.toNat → s.stopped = false → (∀ b, s.bookOf x.ticket.epoch.toNat = some b → b.ranges = []) →
      ((s.queue q).isolated = true → Does .crossingHeadArrival s fun t =>
        t.counter bHBM 0x40 0 0 = s.counter bHBM 0x40 0 0 + 1 ∧ t.tm = u.tm ∧ t.houseOf x.ticket.epoch.toNat = s.houseOf x.ticket.epoch.toNat - 1)
      ∧ ((s.queue q).isolated = false →
        (∀ r j, (r, j) ∈ [(Refuse.limit, 0), (.threshold, 1)] → s.judge q x.ticket.colour.toNat x.since = some r → Does .crossingHeadArrival s fun t =>
          t.counter bQAD 0x30 0 j = s.counter bQAD 0x30 0 j + 1 ∧ t.tm = u.tm ∧ t.houseOf x.ticket.epoch.toNat = s.houseOf x.ticket.epoch.toNat - 1)
        ∧ (s.judge q x.ticket.colour.toNat x.since = none →
          (∀ r j, (r, j) ∈ [(Refuse.onDieFull, 2), (.hbmRate, 3)] → u.place q x.ticket.tc.toNat false x.since = .error r → Does .crossingHeadArrival s fun t =>
            t.counter bQAD 0x30 0 j = s.counter bQAD 0x30 0 j + 1 ∧ t.tm = u.tm ∧ t.houseOf x.ticket.epoch.toNat = s.houseOf x.ticket.epoch.toNat - 1)
          ∧ (∀ m o, u.place q x.ticket.tc.toNat false x.since = .ok (m, o) → (x.good = false ∧ x.ticket.prot ≠ 0) ∨ x.ticket.prot = 1 → Does .crossingHeadArrival s fun t =>
            ∃ a, t.tm.arriving = s.tm.arriving ++ [a] ∧ a.queue = q ∧ a.good = x.good ∧ a.pkt.frame = x.frame ∧ a.pkt.whole = false ∧ a.key = none
              ∧ a.fin = fin ∧ a.since = x.since
              ∧ (a.noBuffer = false → ∃ ch, t.chain? a.pkt.head = some ch ∧ ch.bufs.length = bufsFor (s.stored x.frame) ∧ ch.owners = [0]))))))
  ∧ (∀ (s : State) (a : Arriving),
    ((∀ a ∈ s.tm.arriving, a.key ≠ none ∨ s.dvtFT.delivered < a.fin) → exec .admissionCommit s = .next (s.put s.toDev s.latched))
    ∧ (s.tm.arriving.find? (fun a => a.key.isNone && decide (a.fin ≤ s.dvtFT.delivered)) = some a →
      (a.linked = false →
        (a.good = false → a.pkt.ticket.prot ≠ 0 → Does .admissionCommit s fun t => evtSet t bQAD 3 = true ∧ t.counter bQAD 0x31 0 0 = s.counter bQAD 0x31 0 0 + 1
          ∧ a ∉ t.tm.arriving ∧ t.houseOf a.pkt.ticket.epoch.toNat = s.houseOf a.pkt.ticket.epoch.toNat - 1)
        ∧ (a.good = false → a.pkt.ticket.prot = 0 → Does .admissionCommit s fun t => a ∉ t.tm.arriving
          ∧ t.houseOf a.pkt.ticket.epoch.toNat = s.houseOf a.pkt.ticket.epoch.toNat - 1)
        ∧ (a.good = true → a.noBuffer = true → Does .admissionCommit s fun t => t.counter bQAD 0x31 0 1 = s.counter bQAD 0x31 0 1 + 1 ∧ a ∉ t.tm.arriving
          ∧ t.houseOf a.pkt.ticket.epoch.toNat = s.houseOf a.pkt.ticket.epoch.toNat - 1)
        ∧ (a.good = true → a.noBuffer = false → s.ptrBad a.pkt.head true = none → Does .admissionCommit s fun t =>
          (t.queue a.queue).pkts = (s.queue a.queue).pkts ++ [{ a.pkt with
              ticket := { a.pkt.ticket with frameLen := BitVec.ofNat 14 (a.pkt.frame.length + 4) }, whole := true, pend := none }]
            ∧ (t.queue a.queue).link = ((s.queue a.queue).link ^^^ linkTerm a.pkt.head) ∧ a ∉ t.tm.arriving
            ∧ (s.tm.auditing = false → t.tm.chains = s.tm.chains)))
      ∧ (∀ e, s.tm.toEgress.find? (fun e => e.pend == some a.tailKey) = some e → a.linked = true → a.good = false → Does .admissionCommit s fun t =>
        Sent s.toDev t (.frameAborted e.port e.frame) ∧ (∀ e ∈ t.tm.toEgress, e.pend ≠ some a.tailKey) ∧ a ∉ t.tm.arriving)))

/-- R249, R343: setting SPILL_EN counts the free buffers of the packet regions of the stacks that serve into HBM_FREE, with HBM event 9 where a region is clipped at 15 GiB. A region is written while SPILL_EN is 0; while it is 1 the write is discarded with event 3; that of an absent stack stays 0.
R252, R253, R255, R256: pre-pull stages the first packet of a queue's HBM head that is not staged, charged to the read limiter: one predicted within LOOK_NS, within the queue's depth, not of class 0, while the limiter has budget and the staging memory room; with no room it discards none that is predicted no later. A read that meets an uncorrectable error stages it as poisoned, with event 4. -/
def Obligations.SpillAndPrePull : Prop :=
  (∀ (s : State) (q : Req) (k : Fin 8) (v : W32),
    (Reached s.toDev q Reg.BPM_CTRL 0 0 → Does (.spillEnable q v) s fun t => t.rg Reg.BPM_CTRL 0 0 = writeValue Reg.BPM_CTRL (s.rg Reg.BPM_CTRL 0 0) v false
      ∧ (s.spillEn = false → bit v 0 = true → t.tm = { s.tm with spilled := true, auditAt := if s.tm.spilled then s.tm.auditAt else s.cue.localNs }
        ∧ t.hbmFree = ((List.range 8).foldl (fun n k => if s.stackServes k then n + ((s.region k).2 - (s.region k).1 - s.stackUsed k) else n) 0) % 2 ^ 29
        ∧ ((∃ k < 8, s.variant.hasStack k = true ∧ 60 < s.rf Reg.BPM_HBM_REGION 0 k 8 7) → evtSet t bHBM 9 = true))
      ∧ (s.spillEn = true ∨ bit v 0 = false → t.tm = s.tm ∧ t.hbmFree = s.hbmFree))
    ∧ (Reached s.toDev q Reg.BPM_HBM_REGION 0 k →
      (s.spillEn = true → Does (.hbmRegionWrite q k v) s fun t => evtSet t bBPM 3 = true ∧ Noted (disarmed s.toDev q) t)
      ∧ (s.spillEn = false → s.variant.hasStack k = false → Does (.hbmRegionWrite q k v) s (Noted (disarmed s.toDev q)))
      ∧ (s.spillEn = false → s.variant.hasStack k = true →
        Does (.hbmRegionWrite q k v) s (Noted ((disarmed s.toDev q).storeRw Reg.BPM_HBM_REGION 0 k v)))))
  ∧ (∀ (s : State) (q : Fin 262144) (ahead : BitVec 16) (err : Bool) (k : Pkt) (n due queued : Nat) (c : W32) (bad : Bool),
    c = s.rg Reg.BPM_PREPULL_CFG 0 0 → n = s.stored k.frame → due = s.cue.localNs + ahead.toNat →
    queued = (s.tm.staged.filter fun z => z.queue == q.val).foldl (fun n z => n + z.bytes) 0 →
    (s.nextUnstaged q = none → exec (.prePullRead q ⟨ahead, err⟩) s = .next (s.put s.toDev s.latched))
    ∧ (s.nextUnstaged q = some k →
      (bit c 0 = false ∨ k.ticket.tc = 0 ∨ max 1 (fld c 8 8) * 100 < ahead.toNat ∨ max 1 (fld c 16 8) * 1024 < queued + n ∨ s.readTokens ≤ 0 →
        exec (.prePullRead q ⟨ahead, err⟩) s = .next (s.put s.toDev s.latched))
      ∧ (bit c 0 = true → k.ticket.tc ≠ 0 → s.stopped = false → ahead.toNat ≤ max 1 (fld c 8 8) * 100 → queued + n ≤ max 1 (fld c 16 8) * 1024 → n ≤ 2 ^ 22 →
        0 < s.readTokens → s.ptrBad k.head true = none → s.tm.auditing = false →
        (2 ^ 22 < s.stagedBytes + n → (∀ z ∈ s.tm.staged, z.due ≤ due) → exec (.prePullRead q ⟨ahead, err⟩) s = .next (s.put s.toDev s.latched))
        ∧ (s.stagedBytes + n ≤ 2 ^ 22 → bad = (err || !s.stackServes (k.head / 2 ^ 26 % 8)) → Does (.prePullRead q ⟨ahead, err⟩) s fun t =>
          t.tm = { (s.chargeRead n).tm with staged := s.tm.staged ++ [{ queue := q.val, head := k.head, bytes := n, poisoned := bad, due := due }] }
          ∧ t.counter bBPM 1 1 0 = s.counter bBPM 1 1 0 + 1 ∧ (bad = true → evtSet t bBPM 4 = true ∧ t.counter bBPM 1 1 3 = s.counter bBPM 1 1 3 + 1))))
    ∧ (∀ k, s.nextUnstaged q = some k → k ∈ (s.queue q).pkts ∧ isOnDie k.head = false))

/-- R248, R264, R267: a free with a pointer that is none is refused, counted, with event 0 and a detection of class 10 (here without a reaction), and logged with the owner that it names; one by an owner that the chain does not have is counted with event 1; an owner among others leaves the chain; the last one returns its buffers, and the charge of a queue that still holds the chain.
R265: a periodic pass of the leak audit begins when it is due, and takes every chain in use as old and unmarked; what names a chain during a pass marks it; at its end, with every list's checksum right, a chain that was in use throughout, and that neither a mark nor a list nor an unreadable location accounts for, is reclaimed, and every other one stays. -/
def Obligations.BuffersAreGuarded : Prop :=
  (∀ (s : State) (p : BitVec 30) (owner : BitVec 10) (agent : Fin 9) (c : Chain),
    (s.ptrBad p.toNat true ≠ none → s.reactOf 10 = 0 → s.tm.auditing = false → Does (.bufferFree p owner agent) s fun t => evtSet t bBPM 0 = true ∧ evtSet t bINT 9 = true
      ∧ t.counter bBPM 1 0 0 = s.counter bBPM 1 0 0 + 1 ∧ t.tm.chains = s.tm.chains ∧ t.tm.ptrLog.length = min 64 (s.tm.ptrLog.length + 1)
      ∧ ∀ cause, s.ptrBad p.toNat true = some cause → t.tm.ptrLog.head? = (s.ptrLogAdd p.toNat cause agent owner.toNat).tm.ptrLog.head?)
    ∧ (s.ptrBad p.toNat true = none → s.chain? p.toNat = some c → s.tm.auditing = false →
      (owner.toNat ∉ c.owners → Does (.bufferFree p owner agent) s fun t => evtSet t bBPM 1 = true
        ∧ t.counter bBPM 1 0 1 = s.counter bBPM 1 0 1 + 1 ∧ t.tm.chains = s.tm.chains)
      ∧ (owner.toNat ∈ c.owners → delKey c.owners owner.toNat ≠ [] → Does (.bufferFree p owner agent) s fun t =>
        t.tm = { s.tm with chains := minsert s.tm.chains p.toNat { c with owners := delKey c.owners owner.toNat, mark := true } } ∧ t.onDieFree = s.onDieFree)
      ∧ (owner.toNat ∈ c.owners → delKey c.owners owner.toNat = [] → Does (.bufferFree p owner agent) s fun t =>
        t.tm.chains = merase s.tm.chains p.toNat ∧ (s.chargedTo p.toNat = [] → t.tm.queues = s.tm.queues)
          ∧ (∀ q, s.chargedTo p.toNat = [q] → (t.queue q).depth = (s.queue q).depth - c.bufs.length ∧ (t.queue q).pkts = (s.queue q).pkts)
          ∧ (isOnDie p.toNat = true → t.onDieFree = (s.onDieFree + c.bufs.length) % 2 ^ 20)))
    ∧ (s.ptrBad p.toNat true = none → s.chain? p.toNat = some c → s.tm.auditing = true → p.toNat ∈ c.bufs → owner.toNat ∉ c.owners →
      Does (.bufferFree p owner agent) s fun t => t.chain? p.toNat = some { c with mark := true }))
  ∧ (∀ (s : State) (skip : List (BitVec 30)),
    (s.tm.auditing = true ∨ s.auditDue = false → exec .auditPassStart s = .next (s.put s.toDev s.latched))
    ∧ (s.auditDue = decide (bit (s.rg Reg.BPM_AUDIT_CTRL 0 0) 0 = true ∧ s.tm.spilled = true
        ∧ s.tm.auditAt + max 10 (s.rf Reg.BPM_AUDIT_CTRL 0 0 8 8) * 1000000000 ≤ s.cue.localNs))
    ∧ (s.tm.auditing = false → s.auditDue = true → exec .auditPassStart s = .next (s.put { s.toDev.wf Reg.BPM_AUDIT_STATUS 0 0 0 1 1 with
        tm := { s.tm with auditing := true, auditAt := s.cue.localNs,
                          chains := s.tm.chains.map fun (c : Nat × Chain) => (c.1, { c.2 with mark := false, old := true }) } } s.latched))
    ∧ (s.tm.auditing = false → exec (.auditPassEnd skip) s = .next (s.put s.toDev s.latched))
    ∧ (s.tm.auditing = true → (∀ e ∈ s.tm.queues, e.2.relink = e.2.link) → sortedKeys s.tm.chains = true → ∀ h c, s.chain? h = some c →
      (c.old = true → c.mark = false → s.reached h = false → h ∉ skip.map BitVec.toNat → Does (.auditPassEnd skip) s fun t =>
        t.chain? h = none ∧ evtSet t bBPM 2 = true ∧ t.tm.auditing = false)
      ∧ (c.old = false ∨ c.mark = true ∨ s.reached h = true ∨ h ∈ skip.map BitVec.toNat → Does (.auditPassEnd skip) s fun t =>
        t.chain? h = some { c with old := false } ∧ t.tm.queues = s.tm.queues ∧ t.rg Reg.BPM_AUDIT_STATUS 0 0 = at_ 16 16 (s.rf Reg.BPM_AUDIT_STATUS 0 0 16 16 + 1))))

/-- R89, R254, R276–R278, R291: the VOQ served next gives its head: a straggler is discarded and counted, with CUE event 7; a host packet goes to its ring; one for a port of this device goes to its egress queue, when it is attached, the port takes packets and the queue admits it; one for another device joins its lane's stream, and its pin entry has one more in flight. It counts, and the rest of the VOQ keeps its order. With no VOQ ready nothing happens.
R254, R283: the egress scheduler takes the head of the queue that the hierarchy selects for the port: it is charged, leaves its queue in order, its buffers are freed, and it waits for the egress pipeline; a straggler is discarded and counted. A port that may not choose, or has nothing to choose, takes nothing.
R89, R90: a sweep takes the stragglers out of the queues, each counted with event 7, and keeps the order of the rest; without one it changes nothing. Shown for one queue with one straggler. -/
def Obligations.QueuesAreServed : Prop :=
  (∀ (s : State) (err : Fin 3) (v : Nat) (c0 : Bool) (k : Pkt) (rest : List Pkt) (e : Nat),
    (s.nextVoq = none ∨ s.stopped = true → exec (.voqService err) s = .next (s.put s.toDev s.latched))
    ∧ (s.stopped = false → s.nextVoq = some (v, c0) → v < nQ → HeadFine s.toDev v k rest → k.ticket.voq.toNat = v →
      (s.quarantined k.ticket.epoch.toNat = true → Does (.voqService err) s fun t => (t.queue v).pkts = rest ∧ evtSet t bCUE 7 = true
        ∧ t.counter bSCH 0x11 v 0 = s.counter bSCH 0x11 v 0 + 1)
      ∧ (s.quarantined k.ticket.epoch.toNat = false → k.ticket.dkind = 2 → Does (.voqService err) s fun t => (t.queue v).pkts = rest
        ∧ t.counter bSCH 0x11 v 0 = s.counter bSCH 0x11 v 0 + 1 ∧ t.counter bSCH 0x11 v 1 = s.counter bSCH 0x11 v 1 + k.len)
      ∧ (s.quarantined k.ticket.epoch.toNat = false → k.ticket.dkind = 0 → s.voqReserved v = false → s.session? k.ticket.mirror.toNat = none →
        k.ticket.dstDev = s.devId → e = s.eqOf k.ticket.eq? k.ticket.dstPort k.ticket.tc.toNat → s.attached e k.ticket.dstPort = true →
        s.portDiscards k.ticket.dstPort = false → Roomy s.toDev (nQ + e) k.ticket.colour.toNat → Does (.voqService err) s fun t =>
          (t.queue v).pkts = rest ∧ t.counter bSCH 0x11 v 1 = s.counter bSCH 0x11 v 1 + k.len
            ∧ ∃ k', (t.queue (nQ + e)).pkts = (s.queue (nQ + e)).pkts ++ [k'] ∧ k'.head = k.head ∧ k'.frame = k.frame ∧ k'.ticket.dst = k.ticket.dst)
      ∧ (∀ m, s.meshFor k.ticket.dstDev = some m → ∀ key, key = s.laneFor k.ticket.pinOf m * 4 + streamOf 0 k.ticket.tc.toNat →
        s.quarantined k.ticket.epoch.toNat = false → k.ticket.dkind = 0 → s.voqReserved v = false → s.session? k.ticket.mirror.toNat = none → k.ticket.dstDev ≠ s.devId →
        Does (.voqService err) s fun t => (t.queue v).pkts = rest ∧ (t.pin k.ticket.pinOf).inflight = (s.pin k.ticket.pinOf).inflight + 1
          ∧ ∃ x, mget [] t.tm.laneQ key = mget [] s.tm.laneQ key ++ [x] ∧ x.head = k.head ∧ x.dst = k.ticket.dstDev ∧ x.entry = k.ticket.pinOf)))
  ∧ (∀ (s : State) (p : Fin 256) (err : Fin 3) (y : Yield) (q : Nat) (k : Pkt) (rest : List Pkt),
    (s.choose p = none → exec (.dequeueCommit p err) s = .next (s.put s.toDev s.latched))
    ∧ (s.portChoosable p = false → s.choose p = none)
    ∧ (s.choose p = some y → q = nQ + y.queue → HeadFine s.toDev q k rest → k.eport = p →
      (s.quarantined k.ticket.epoch.toNat = false → Does (.dequeueCommit p err) s fun t => (t.queue q).pkts = rest ∧ ∃ x : EgPkt,
        x = { port := p, queue := y.queue, ticket := k.ticket, frame := k.frame, since := s.cue.tickNo, replica := k.replica, mirrored := k.mirrored,
              cut := k.cut != 0 || !k.whole, pend := k.pend } ∧ t.tm.toEgress = s.tm.toEgress ++ [x])
      ∧ (s.quarantined k.ticket.epoch.toNat = true → Does (.dequeueCommit p err) s fun t => (t.queue q).pkts = rest
        ∧ t.tm.toEgress = s.tm.toEgress ∧ evtSet t bCUE 7 = true)))
  ∧ (∀ (s : State) (q : Nat) (k : Pkt) (l r : List Pkt),
    ((∀ e ∈ s.tm.queues, ∀ k ∈ e.2.pkts, s.quarantined k.ticket.epoch.toNat = false) → exec .stragglerSweep s = .next (s.put s.toDev s.latched))
    ∧ (s.busyQueues = [q] → (s.queue q).pkts = l ++ k :: r → s.quarantined k.ticket.epoch.toNat = true →
      (∀ k ∈ l ++ r, s.quarantined k.ticket.epoch.toNat = false) → (l ++ r ≠ [] ∨ (s.queue q).link = linkTerm k.head) → Does .stragglerSweep s fun t =>
        (t.queue q).pkts = l ++ r ∧ evtSet t bCUE 7 = true ∧ t.rf Reg.CUE_STRAGGLER 0 0 0 16 = satAdd 16 (s.rf Reg.CUE_STRAGGLER 0 0 0 16) 1
          ∧ t.houseOf k.ticket.epoch.toNat = s.houseOf k.ticket.epoch.toNat - 1))

/-- R276, R279–R281, R291, R302: the generator of a port with one requester in class 0 grants it a quantum when its rate lets it: to its own VOQ, or as a message; a grant for draining, after the hold time, is counted. A grant adds a quantum to the balance of a credited VOQ that is not empty, and is discarded otherwise; a revocation takes a balance above 0 away. A request puts its VOQ on the list of the port, or takes it off; one that is not refreshed leaves it. A VOQ that is not empty asks its remote generator again.
R325: the replication engine takes a waiting packet; an entry that is not valid frees its owner; a valid one makes a replica for its port, which joins the port's egress queue when it admits it, and is freed otherwise. Shown for one packet with one entry. -/
def Obligations.CreditsAndReplicas : Prop :=
  (∀ (s : State) (p : Fin 256) (dev : BitVec 14) (voq : BitVec 17) (tc : Fin 8) (e : Nat × Nat) (v d x c : Nat), v = voq.toNat → d = dev.toNat →
    ((s.gen p).running = false ∨ s.stopped = true → exec (.creditGrant p) s = .next (s.put s.toDev s.latched))
    ∧ (s.draining p = false → s.portUp p = true → s.grantDue p false = false → exec (.creditGrant p) s = .next (s.put s.toDev s.latched))
    ∧ (s.draining p = true → s.stopped = false → s.grantDue p true = true → s.requesters p 0 = [e] → Does (.creditGrant p) s fun t =>
      e ∈ (t.gen p).issued ∧ t.counter bSCH 0x20 0 1 = s.counter bSCH 0x20 0 1 + 1)
    ∧ ((s.gen p).running = true → s.stopped = false → s.portUp p = true → s.grantDue p false = true → s.requesters p 0 = [e] →
      s.classBufs p 0 < wfld (s.obj bSCH 5 p) 0 0 20 → (e.1 = s.devId → (s.queue e.2).pkts ≠ [] ∧ s.voqDest e.2 ≠ none) → Does (.creditGrant p) s fun t =>
        e ∈ (t.gen p).issued
          ∧ (e.1 = s.devId → mget 0 t.tm.credit e.2 = mget 0 s.tm.credit e.2 + s.quantum ∧ t.counter bSCH 0x11 e.2 2 = s.counter bSCH 0x11 e.2 2 + s.quantum)
          ∧ (e.1 ≠ s.devId → t.tm.credit = s.tm.credit ∧ Sent s.toDev t (.fabMsg e.1 (.grant e.2 p))))
    ∧ ((s.queue v).pkts = [] ∨ s.voqDest v = none → exec (.grant voq) s = .next (s.put s.toDev s.latched))
    ∧ ((s.queue v).pkts ≠ [] → s.voqDest v ≠ none → exec (.grant voq) s = .next (s.put
        (({ s.toDev with tm := { s.tm with credit := mset 0 s.tm.credit v (mget 0 s.tm.credit v + s.quantum) } }).bump bSCH 0x11 v 2 s.quantum) s.latched))
    ∧ (Does (.revoke voq) s fun t => mget 0 t.tm.credit v = min (mget 0 s.tm.credit v) 0)
    ∧ (∀ rest, rest = ((s.gen p).remote.filter fun r => !(r.dev == d && r.voq == v)) → exec (.request p dev voq tc true) s = .next (s.put (s.toDev.setGen p
        { s.gen p with remote := rest ++ [{ dev := d, voq := v, tc := tc, seen := s.cue.localNs }] }) s.latched))
    ∧ (Does (.request p dev voq tc false) s fun t => (∀ r ∈ (t.gen p).remote, ¬ (r.dev = d ∧ r.voq = v)) ∧ (d, v) ∉ (t.gen p).issued)
    ∧ exec (.requesterTimeout p dev voq) s = .next (s.put (s.toDev.setGen p { s.gen p with
        remote := (s.gen p).remote.filter fun r => !(r.dev == d && r.voq == v) }) s.latched)
    ∧ ((s.queue v).pkts = [] → exec (.requestRefresh voq) s = .next (s.put s.toDev s.latched))
    ∧ ((s.queue v).pkts ≠ [] → s.voqDest v = some (x, p.val, c) → x ≠ s.devId →
      exec (.requestRefresh voq) s = .next (s.put (s.toDev.emit (.fabMsg x (.request v true p c))) s.latched)))
  ∧ (∀ (s : State) (j : ReplJob) (e : List W32) (c : Chain) (port tc q : Nat),
    (s.tm.repl = [] → exec .localReplication s = .next (s.put s.toDev s.latched))
    ∧ (s.tm.repl = [j] → s.ptrBad j.pkt.head true = none → s.chain? j.pkt.head = some c → c.owners = [0] → j.count = 1 → e = mget [0, 0] s.tbl.pool j.base →
      port = wfld e 0 17 8 → tc = j.pkt.ticket.tc.toNat → q = s.eqOf (if bit (word e 0) 30 then some (wfld e 0 0 17) else none) port tc →
      (bit (word e 0) 31 = false → Does .localReplication s fun t => t.tm.repl = [] ∧ t.chain? j.pkt.head = none ∧ (s.chargedTo j.pkt.head = [] → t.tm.queues = s.tm.queues)
        ∧ t.houseOf j.pkt.ticket.epoch.toNat = s.houseOf j.pkt.ticket.epoch.toNat - 1)
      ∧ (bit (word e 0) 31 = true → s.attached q port = false → Does .localReplication s fun t =>
        t.tm.repl = [] ∧ t.chain? j.pkt.head = none ∧ t.counter bEPP 0x10 0 3 = s.counter bEPP 0x10 0 3 + 1 ∧ evtSet t bSCH 2 = true)
      ∧ (bit (word e 0) 31 = true → s.attached q port = true → s.portDiscards port = false → Roomy s.toDev (nQ + q) j.pkt.ticket.colour.toNat →
        Does .localReplication s fun t => t.tm.repl = [] ∧ (t.chain? j.pkt.head).map (fun x => (x.bufs, x.owners)) = some (c.bufs, c.owners)
          ∧ ∃ k, (t.queue (nQ + q)).pkts = (s.queue (nQ + q)).pkts ++ [k] ∧ k.replica = true ∧ k.port = some port ∧ k.frame = j.pkt.frame ∧ k.owner = 0)))

/-- R296–R298, R301: an idle cell counts, and each cell leaves its lane's buffer with at most 64 cells, LFC set at 32 and clear below 16, which the lane's control slots then say (how many are held is a free value, log entry 128); one whose checksum fails, and one out of sequence that starts no packet, discard the partial packet that its context holds, with event 6, and the context waits for the next start; a cell that starts a packet opens its context with the bytes from its start on, and the packet's epoch counts it from then on (R86); the next cell in sequence adds its bytes; a ticket of an epoch that is quarantined, or neither current nor retiring, is a straggler (R89), whose packet is refused. A context without a cell in time is discarded.
R300–R302, R310: a good control slot gives the lane's LFC bits and its messages; a grant for this device does what GRANT does, one for another device nothing, and a message of type 5 to 15 only counts; a bad slot counts; the third slot in a row that is bad or does not come, one with READY 0, loss of lock and the high-SER condition take the lane out of service, with event 0: every pin entry of the lane is held, its maps are forgotten, and the packets that had not left it are dropped and counted. A lane that may serve comes into service, in a mesh naming this device (R314); the other lanes stay.
R303, R304, R314: a reachability message stores its chunk of the lane's map, and a map that is not renewed is forgotten; the reachable set is then what the maps of the lanes in service name, in a mesh the members with a lane in service; a device that joins it sets FIB event 1, one that leaves it FAB event 5 and FIB event 0. -/
def Obligations.FabricCells : Prop :=
  (∀ (s : State) (l : Fin 320) (w0 w1 w2 crc : W32) (pl : List Byte) (key seq : Nat) (data : List Byte) (x : Reasm) (sum : W32),
    key = cellKey w0 w1 → seq = fld w2 24 8 → data = slice pl 0 (fld w1 0 9) → sum = crc32c (([w0, w1, w2].flatMap fun w => beBytes 4 w.toNat) ++ data) →
    (s.variant.hasFab = false ∨ s.stopped = true → exec (.cellReceive l w0 w1 w2 crc pl) s = .next (s.put s.toDev s.latched))
    ∧ (s.variant.hasFab = true → s.stopped = false →
      (fld w0 30 2 = 0 → Does (.cellReceive l w0 w1 w2 crc pl) s fun t => t.counter bFAB 2 l 1 = s.counter bFAB 2 l 1 + 1
        ∧ t.tm.reasm = s.tm.reasm ∧ t.tm.arriving = s.tm.arriving ∧ ∀ n, n = mget 0 t.tm.rxHeld l → n ≤ 64 ∧ (32 ≤ n → l.val ∈ t.tm.lfcSet)
          ∧ (n < 16 → l.val ∈ t.tm.lfcSet → False) ∧ ((l.val ∈ t.tm.lfcSet ↔ l.val ∈ s.tm.lfcSet) ∨ ∃ hdr, Sent s.toDev t (.ctrlSlot l hdr)))
      ∧ (fld w0 30 2 = 1 → fld w0 28 2 < 2 → sum ≠ crc →
        (s.ctxR key = none → Does (.cellReceive l w0 w1 w2 crc pl) s fun t => t.counter bFAB 2 l 2 = s.counter bFAB 2 l 2 + 1 ∧ t.tm.reasm = s.tm.reasm)
        ∧ (s.ctxR key = some x → x.active = true → (∀ a ∈ s.tm.arriving, a.key ≠ some key) → Does (.cellReceive l w0 w1 w2 crc pl) s fun t => evtSet t bFAB 6 = true
          ∧ t.counter bFAB 2 l 2 = s.counter bFAB 2 l 2 + 1 ∧ t.counter bFAB 3 0 0 = s.counter bFAB 3 0 0 + 1 ∧ t.ctxR key = some { seq := x.seq, skip := true }))
      ∧ (fld w0 30 2 = 1 → fld w0 28 2 < 2 → sum = crc → bit w2 16 = false →
        (∀ b bs, data.drop (fld w0 16 8) = b :: bs → s.ctxR key = none ∨ (s.ctxR key = some x ∧ (x.skip = true ∨ x.active = false) ∧ (x.seq + 1) % 256 = seq) →
          bit w0 24 = true → fld w2 21 3 = (s.xsize - 32) / 8 → (s.tm.reasm.filter fun e => e.2.active).length < 65536 →
          (bs.length + 1 < s.xsize → Does (.cellReceive l w0 w1 w2 crc pl) s fun t => t.houseOf (b.toNat / 16) = s.houseOf (b.toNat / 16) + 1
            ∧ t.ctxR key = some { seq := seq, active := true, bytes := b :: bs, ct := fld w2 18 3, xs := fld w2 21 3, counted := some (b.toNat / 16) })
          ∧ (∀ k, k = ticketOf s.carried (b :: bs) → ∀ f, s.fabStale k.epoch.toNat = some f → s.xsize ≤ bs.length + 1 → k.frameLen ≠ 0 →
            bs.length + 1 < s.xsize + k.frameLen.toNat - 4 → Does (.cellReceive l w0 w1 w2 crc pl) s fun t => evtSet t bCUE 7 = true
              ∧ ∃ y, t.ctxR key = some y ∧ y.bytes = b :: bs ∧ y.decided = true ∧ y.refused = true))
        ∧ (s.ctxR key = some x → x.active = true → x.skip = false → x.counted ≠ none → x.bytes ≠ [] → x.xs = (s.xsize - 32) / 8 → (x.seq + 1) % 256 = seq →
          (x.bytes ++ data).length < s.xsize → Does (.cellReceive l w0 w1 w2 crc pl) s fun t => t.ctxR key = some { x with seq := seq, bytes := x.bytes ++ data }
            ∧ t.counter bFAB 2 l 1 = s.counter bFAB 2 l 1 + 1)
        ∧ (s.ctxR key = some x → x.active = true → (x.seq + 1) % 256 ≠ seq → bit w0 24 = false → (∀ a ∈ s.tm.arriving, a.key ≠ some key) →
          Does (.cellReceive l w0 w1 w2 crc pl) s fun t => evtSet t bFAB 6 = true ∧ t.counter bFAB 3 0 0 = s.counter bFAB 3 0 0 + 1
            ∧ t.ctxR key = some { seq := seq, skip := true })))
    ∧ (∀ (src : BitVec 14) (lane : BitVec 9) (st : Fin 4), key = (src.toNat * 512 + lane.toNat) * 4 + st →
      (s.ctxR key = some x → x.active = true → (∀ a ∈ s.tm.arriving, a.key ≠ some key) → Does (.reassemblyTimeout src lane st) s fun t => evtSet t bFAB 6 = true
        ∧ t.counter bFAB 3 0 1 = s.counter bFAB 3 0 1 + 1 ∧ t.ctxR key = some { seq := x.seq, skip := true })
      ∧ ((∀ x, s.ctxR key = some x → x.active = false) → exec (.reassemblyTimeout src lane st) s = .next (s.put s.toDev s.latched))))
  ∧ (∀ (s : State) (l : Fin 320) (w0 w1 w2 w3 : W32) (msgs m : List W32) (u : Dev), s.variant.hasFab = true →
    u = { s.toDev with tm := { s.tm with badSlots := merase s.tm.badSlots l, lfc := mset 0 s.tm.lfc l (fld w0 0 4) } } →
    (slotOk w0 w1 w2 w3 msgs = true → bit w1 0 = true → msgs = List.replicate 64 0 → exec (.controlSlotReceive l ⟨w0, w1, w2⟩ w3 msgs) s = .next (s.put u s.latched))
    ∧ (slotOk w0 w1 w2 w3 msgs = true → bit w1 0 = true → msgs = m ++ List.replicate 60 0 → m.length = 4 →
      (5 ≤ wfld m 0 28 4 → exec (.controlSlotReceive l ⟨w0, w1, w2⟩ w3 msgs) s = .next (s.put (u.bump bFAB 2 l 3 1) s.latched))
      ∧ (wfld m 0 28 4 = 2 → wfld m 0 0 14 = s.devId → exec (.controlSlotReceive l ⟨w0, w1, w2⟩ w3 msgs) s = .next (s.put (u.takeGrant (wfld m 2 0 17)) s.latched))
      ∧ (1 ≤ wfld m 0 28 4 → wfld m 0 28 4 ≤ 3 → wfld m 0 0 14 ≠ s.devId → exec (.controlSlotReceive l ⟨w0, w1, w2⟩ w3 msgs) s = .next (s.put u s.latched)))
    ∧ (slotOk w0 w1 w2 w3 msgs = false → mget 0 s.tm.badSlots l < 2 → exec (.controlSlotReceive l ⟨w0, w1, w2⟩ w3 msgs) s = .next (s.put ({ s.toDev with tm := { s.tm with
        badSlots := mset 0 s.tm.badSlots l (mget 0 s.tm.badSlots l + 1) } }.bump bFAB 2 l 3 1) s.latched))
    ∧ (s.laneUp l = true → ∀ i, i = .fabricLaneFailure l .lock ∨ i = .fabricLaneFailure l .highSer
        ∨ (i = .fabricLaneFailure l .missedSlot ∧ 2 ≤ mget 0 s.tm.badSlots l)
        ∨ (i = .controlSlotReceive l ⟨w0, w1, w2⟩ w3 msgs ∧ slotOk w0 w1 w2 w3 msgs = true ∧ bit w1 0 = false ∧ msgs = List.replicate 64 0)
        ∨ (i = .controlSlotReceive l ⟨w0, w1, w2⟩ w3 msgs ∧ slotOk w0 w1 w2 w3 msgs = false ∧ 2 ≤ mget 0 s.tm.badSlots l) →
      Does i s fun t => t.laneUp l = false ∧ evtSet t bFAB 0 = true
        ∧ (∀ h < 4096, (s.pin h).lane = l → (t.pin h).held = true ∧ (t.pin h).target = none) ∧ (∀ e ∈ t.tm.maps, e.1 / 256 ≠ l.val)
        ∧ t.tm.laneQ = s.tm.laneQ.filter (fun e => e.1 / 4 != l.val)
        ∧ t.counter bFAB 5 0 0 = s.counter bFAB 5 0 0 + ((s.tm.laneQ.filter fun e => e.1 / 4 == l.val).flatMap Prod.snd).length)
    ∧ (mget 0 s.tm.badSlots l < 2 → exec (.fabricLaneFailure l .missedSlot) s = .next (s.put { s.toDev with tm := { s.tm with
        badSlots := mset 0 s.tm.badSlots l (mget 0 s.tm.badSlots l + 1) } } s.latched))
    ∧ (s.laneUp l = false → exec (.fabricLaneFailure l .lock) s = .next (s.put s.toDev s.latched)
      ∧ exec (.fabricLaneFailure l .highSer) s = .next (s.put s.toDev s.latched))
    ∧ (s.laneUp l = true ∨ s.mayServe l = false → exec (.fabricLaneInService l) s = .next (s.put s.toDev s.latched))
    ∧ (s.laneUp l = false → s.mayServe l = true → Does (.fabricLaneInService l) s fun t => t.laneUp l = true
      ∧ (s.fabMode = 2 → Sent s.toDev t (.reachMsg l s.selfMap)) ∧ ∀ l' : Fin 320, l' ≠ l → t.laneUp l' = s.laneUp l'))
  ∧ (∀ (s : State) (l : Fin 320) (c : Byte) (map : W64) (i : Instr) (m : List (Nat × W64)) (u : Dev), s.variant.hasFab = true →
    ((i = .reachability l c map ∧ m = mset 0#64 s.tm.maps (l.val * 256 + c.toNat) map)
      ∨ (i = .reachabilityMapExpiry l c ∧ m = merase s.tm.maps (l.val * 256 + c.toNat))) →
    u = { s.toDev with tm := { s.tm with maps := m } } → Does i s fun t => t.tm.maps = m ∧ t.tm.reachable = u.unionMaps
      ∧ ((∃ d ∈ u.unionMaps, d ∉ s.tm.reachable) → evtSet t bFIB 1 = true)
      ∧ ((∃ d ∈ s.tm.reachable, d ∉ u.unionMaps) → evtSet t bFAB 5 = true ∧ evtSet t bFIB 0 = true))

/-- R86, R306–R310: the oldest fabric hold of a pin entry ends: its packet is no longer in flight, nor counted. A held entry with none in flight is quiet: it takes the lane of its move, with event 1, or, after a failure, its alternate lane. A move whose packets stay in flight is abandoned with event 2. FAB_PIN_MOVE keeps its record for the next tick; FAB_PIN_FORCE, armed, sets the lane at once.
R312: the device ID is written, armed, while FAB_CFG.MODE is 0, and FAB_CFG while no lane is in service; otherwise the write sets event 4 and changes nothing. -/
def Obligations.PinsAndFabricConfiguration : Prop :=
  (∀ (s : State) (q : Req) (h : Fin 4096) (x : FabHold) (r e : BitVec 12) (n : BitVec 9) (l : Nat),
    ((∀ x ∈ s.tm.holds, x.entry ≠ h.val) → exec (.pinHoldExpiry h) s = .next (s.put s.toDev s.latched))
    ∧ (s.tm.holds.find? (fun x => x.entry == h.val) = some x → Does (.pinHoldExpiry h) s fun t => t.tm.holds = s.tm.holds.erase x
      ∧ t.pin h = { s.pin h with inflight := (s.pin h).inflight - 1 } ∧ t.houseOf x.epoch = s.houseOf x.epoch - 1 ∧ t.houseFabOf x.epoch = s.houseFabOf x.epoch - 1)
    ∧ ((s.pin h).held = false ∨ (s.pin h).inflight ≠ 0 → exec (.pinEntryQuiet h) s = .next (s.put s.toDev s.latched))
    ∧ ((s.pin h).held = true → (s.pin h).inflight = 0 →
      ((s.pin h).target = some l → Does (.pinEntryQuiet h) s fun t => evtSet t bFAB 1 = true
        ∧ Noted (s.toDev.setPin h { s.pin h with lane := l, held := false, target := none }) t)
      ∧ ((s.pin h).target = none → s.altLane (s.pin h) = some l →
        exec (.pinEntryQuiet h) s = .next (s.put (s.toDev.setPin h { s.pin h with lane := l, held := false }) s.latched)))
    ∧ ((s.pin h).held = true → (s.pin h).target ≠ none → (s.pin h).inflight ≠ 0 → Does (.pinMoveTimeout h) s fun t => evtSet t bFAB 2 = true
      ∧ Noted (s.toDev.setPin h { s.pin h with held := false, target := none }) t)
    ∧ ((s.pin h).held = false ∨ (s.pin h).target = none ∨ (s.pin h).inflight = 0 → exec (.pinMoveTimeout h) s = .next (s.put s.toDev s.latched))
    ∧ (Reached s.toDev q Reg.FAB_PIN_MOVE 0 0 →
      Does (.fabPinMove q r true) s (Noted { disarmed s.toDev q with tm := { s.tm with moveReq := s.tm.moveReq ++ [r.toNat] } })
      ∧ Does (.fabPinMove q r false) s (Noted (disarmed s.toDev q)))
    ∧ (Reached s.toDev q Reg.FAB_PIN_FORCE 0 0 → s.arming.get q = true → n.toNat < 320 → Does (.fabPinForce q e n true) s
      (Noted (((disarmed s.toDev q).wg Reg.FAB_PIN_FORCE 0 0 (at_ 0 12 e.toNat ||| at_ 16 9 n.toNat ||| atB 31 true)).setPin e.toNat
        { s.pin e.toNat with lane := n.toNat })))
    ∧ (Reached s.toDev q Reg.FAB_PIN_FORCE 0 0 → s.arming.get q = true → Does (.fabPinForce q e n false) s
      (Noted ((disarmed s.toDev q).wg Reg.FAB_PIN_FORCE 0 0 (at_ 0 12 e.toNat ||| at_ 16 9 n.toNat ||| atB 31 false)))))
  ∧ (∀ (s : State) (q : Req) (id : BitVec 14) (v : W32),
    (Reached s.toDev q Reg.TOP_DEVICE_ID 0 0 → s.arming.get q = true →
      (s.rf Reg.FAB_CFG 0 0 0 2 = 0 → Does (.deviceIdWrite q id) s (Noted ((disarmed s.toDev q).wg Reg.TOP_DEVICE_ID 0 0 (at_ 0 14 id.toNat))))
      ∧ (s.rf Reg.FAB_CFG 0 0 0 2 = 1 ∨ s.rf Reg.FAB_CFG 0 0 0 2 = 2 → Does (.deviceIdWrite q id) s fun t =>
        evtSet t bFAB 4 = true ∧ Noted (disarmed s.toDev q) t))
    ∧ (Reached s.toDev q Reg.FAB_CFG 0 0 →
      (s.anyLane = false → Does (.fabCfgWrite q v) s (Noted ((disarmed s.toDev q).storeRw Reg.FAB_CFG 0 0 v)))
      ∧ (s.anyLane = true → Does (.fabCfgWrite q v) s fun t => evtSet t bFAB 4 = true ∧ Noted (disarmed s.toDev q) t)))

/-- R346–R349: training begins from RESET or FAILED, in TRAINING, or in VERIFYING where a record of the stack is stored; what the stack held is then undefined; otherwise it is refused with event 1. RESET is reached from READY or FAILED while spilling is off. A sweep ends in READY with event 0, or, with a lane without a usable eye, in FAILED with event 1; verification keeps the stored delays of the pseudo-channels that pass, and counts those that do not, with event 2.
R350, R352, R354, R356: a re-measured lane of a stack in READY moves its delays by at most one step; a bank that idles is precharged; a refresh precharges its bank and counts; thresholds are written when they rise, and refused with event 7 otherwise; the patrol reads the scrubbed areas of a stack that serves, and corrects an error with event 3. -/
def Obligations.HbmTrainingAndUpkeep : Prop :=
  (∀ (s : State) (q : Req) (k : Fin 8) (save : Bool) (failing : BitVec 64) (ls : List HLane),
    (Reached s.toDev q Reg.HBM_STACK_CTRL 0 k →
      (s.stackState k ≠ 1 → s.stackState k ≠ 5 → ∀ i : Instr, i = .hbmTrain q k save ∨ i = .fullSweep q k save → Does i s fun t => evtSet t bHBM 1 = true
        ∧ Noted ((disarmed s.toDev q).wf Reg.HBM_STACK_CTRL 0 k 16 1 save.toNat) t)
      ∧ (s.stackState k = 1 ∨ s.stackState k = 5 → (Does (.fullSweep q k save) s fun t => t.stackState k = 2
            ∧ t.hbm.mem = s.hbm.mem.filter (fun e : Host.Cell => e.1 / 2 ^ 34 != k.val) ∧ mget 0 t.hbm.gen k = mget 0 s.hbm.gen k + 1)
        ∧ Does (.hbmTrain q k save) s fun t => t.stackState k = (if (s.trainRecord k).isSome then 3 else 2)
            ∧ t.hbm.mem = s.hbm.mem.filter (fun e : Host.Cell => e.1 / 2 ^ 34 != k.val) ∧ ∀ k' : Fin 8, k' ≠ k → t.stackState k' = s.stackState k')
      ∧ ((s.stackState k = 4 ∨ s.stackState k = 5) → s.spillEn = false → Does (.returnToReset q k save) s fun t => t.stackState k = 1
        ∧ t.hbm = s.hbm ∧ ∀ k' : Fin 8, k' ≠ k → t.stackState k' = s.stackState k')
      ∧ ((s.stackState k ≠ 4 ∧ s.stackState k ≠ 5) ∨ s.spillEn = true → Does (.returnToReset q k save) s fun t => evtSet t bHBM 1 = true
        ∧ Noted ((disarmed s.toDev q).wf Reg.HBM_STACK_CTRL 0 k 16 1 save.toNat) t))
    ∧ (s.stackState k ≠ 2 → exec (.trainingComplete k ls) s = .next (s.put s.toDev s.latched))
    ∧ (s.stackState k = 2 → ls.length = 256 →
      ((∀ x ∈ ls, x.narrow = false) → Does (.trainingComplete k ls) s fun t => t.stackState k = 4 ∧ evtSet t bHBM 0 = true ∧ ∀ l < 256, t.hlane k l = ls.getD l {})
      ∧ ((∃ x ∈ ls, x.narrow = true) → Does (.trainingComplete k ls) s fun t => t.stackState k = 5 ∧ evtSet t bHBM 1 = true ∧ ∀ l < 256, t.hlane k l = ls.getD l {}))
    ∧ (s.stackState k ≠ 3 → exec (.verificationComplete k failing ls) s = .next (s.put s.toDev s.latched))
    ∧ (s.stackState k = 3 → ∀ rec, s.trainRecord k = some rec →
      (Does (.verificationComplete k 0 ls) s fun t => t.stackState k = 4 ∧ evtSet t bHBM 0 = true ∧ t.rf Reg.HBM_STACK_STATUS 0 k 16 7 = 0
        ∧ ∀ l < 256, (t.hlane k l).rd = rec.getD (2 * l) 0 ∧ (t.hlane k l).wr = rec.getD (2 * l + 1) 0)
      ∧ (failing ≠ 0 → Does (.verificationComplete k failing ls) s fun t => evtSet t bHBM 2 = true
        ∧ t.rf Reg.HBM_STACK_STATUS 0 k 16 7 = ((List.range 64).filter fun p => bit failing p).length
        ∧ ∀ l < 256, bit failing (l / 4) = false → (t.hlane k l).rd = rec.getD (2 * l) 0)))
  ∧ (∀ (s : State) (q : Req) (k : Fin 8) (l : Fin 256) (pc : Fin 64) (bank : Fin 16) (rd wr : Fin 3) (rr wrr : Byte) (slip : Fin 17) (v : W32) (o : BitVec 30) (sy : BitVec 16),
    (s.stackState k ≠ 4 → exec (.trackingMeasurement k l rd wr rr wrr) s = .next (s.put s.toDev s.latched))
    ∧ (s.stackState k = 4 → Does (.trackingMeasurement k l rd wr rr wrr) s fun t =>
      t.hlane k l = { rd := nudge (s.hlane k l).rd rd, wr := nudge (s.hlane k l).wr wr, rr := rr, wrr := wrr } ∧ t.stackState k = 4
        ∧ ((rr.toNat < 24 ∨ wrr.toNat < 24) → (s.hlane k l).narrow = false → evtSet t bHBM 1 = true))
    ∧ exec (.bankIdlePrecharge k pc bank) s = .next (s.put { s.toDev with hbm := { s.hbm with rows := merase s.hbm.rows (bankKey k pc bank) } } s.latched)
    ∧ (s.stackState k = 0 → exec (.refresh k pc bank slip) s = .next (s.put s.toDev s.latched))
    ∧ (s.stackState k ≠ 0 → Does (.refresh k pc bank slip) s (Noted ({ s.toDev with hbm := { s.hbm with
        rows := merase s.hbm.rows (bankKey k pc bank), owed := mset 0 s.hbm.owed (bankKey k pc bank) ((slip.val : Int) - 8) } }.bump bHBM 3 k 3 1)))
    ∧ (Reached s.toDev q Reg.HBM_THERM 0 0 →
      (fld v 0 8 < fld v 8 8 → fld v 8 8 < fld v 16 8 → Does (.hbmThermWrite q v) s (Noted ((disarmed s.toDev q).storeRw Reg.HBM_THERM 0 0 v)))
      ∧ (fld v 8 8 ≤ fld v 0 8 ∨ fld v 16 8 ≤ fld v 8 8 → Does (.hbmThermWrite q v) s fun t => evtSet t bHBM 7 = true ∧ Noted (disarmed s.toDev q) t))
    ∧ (bit (s.rg Reg.HBM_SCRUB 0 0) 0 = false ∨ s.stackServes k = false → exec (.patrolScrub k [(o, false, sy)]) s = .next (s.put s.toDev s.latched))
    ∧ (bit (s.rg Reg.HBM_SCRUB 0 0) 0 = true → s.stackServes k = true →
      (Does (.patrolScrub k []) s fun t => t.counter bHBM 1 k 2 = s.counter bHBM 1 k 2 + 25165824 ∧ t.tm = s.tm ∧ t.hbm.mem = s.hbm.mem ∧ t.hbm.log = s.hbm.log)
      ∧ (o.toNat < 0x30000000 → Does (.patrolScrub k [(o, false, sy)]) s fun t => evtSet t bHBM 3 = true
        ∧ t.counter bHBM 1 k 0 = s.counter bHBM 1 k 0 + 1 ∧ t.counter bHBM 1 k 3 = s.counter bHBM 1 k 3 + 1 ∧ t.hbm.log.length = min 64 (s.hbm.log.length + 1))))

/-- R346, R354, R467, R475, R489: readings of the stacks are shown, and raise the derate step at once, with event 5, to the one whose threshold they meet (all stacks read the same here, and thermal shutdown is off). HBM_PG raises a stack that is on from OFF to RESET; its loss turns the stack off; a stack whose HBM_PG does not rise in time has its switch refused with CODE 5.
R341, R344, R374: a peer access to a window that is not enabled, that reaches beyond the window, or a write without permission, is refused with PCI event 3; one outside the host area sets HBM event 8, and a read receives Completer Abort; a write stores its bytes at the window's address and no others, and keeps the memory canonical; a read returns the bytes in order. -/
def Obligations.StackPowerAndPeers : Prop :=
  (∀ (s : State) (k : Fin 8) (b : Byte) (want : Nat),
    ((∀ k < 8, s.variant.hasStack k = true → k ∈ s.hbm.seen) → s.thermEn = false →
      want = (if s.hbmT 3 ≤ b.toNat then 3 else if s.hbmT 2 ≤ b.toNat then 2 else if s.hbmT 1 ≤ b.toNat then 1 else 0) →
      (s.derate < want → Does (.hbmTemperatureReading (List.replicate 8 (some b))) s fun t => t.derate = want ∧ evtSet t bHBM 5 = true
        ∧ ∀ k < 8, s.variant.hasStack k = true → t.rf Reg.HBM_STACK_STATUS 0 k 8 8 = b.toNat ∧ t.rf Reg.HBM_STACK_STATUS 0 k 6 1 = 1)
      ∧ (want = 0 → s.derate = 0 → Does (.hbmTemperatureReading (List.replicate 8 (some b))) s fun t => t.derate = 0
        ∧ ∀ k < 8, s.variant.hasStack k = true → t.rf Reg.HBM_STACK_STATUS 0 k 8 8 = b.toNat ∧ t.rf Reg.HBM_STACK_STATUS 0 k 6 1 = 1))
    ∧ (Does (.hbmPgRise k) s fun t => k.val ∈ t.pwr.pg ∧ t.stackState k = (if s.pdOn (20 + k.val) = true ∧ s.stackState k = 0 then 1 else s.stackState k))
    ∧ (Does (.hbmPgLoss k) s fun t => k.val ∉ t.pwr.pg ∧ t.stackState k = (if s.pdOn (20 + k.val) = true then 0 else s.stackState k))
    ∧ ((20 + k.val, true) ∉ s.pwr.goal ∨ k.val ∈ s.pwr.pg → exec (.hbmPgTimeout k) s = .next (s.put s.toDev s.latched))
    ∧ ((20 + k.val, true) ∈ s.pwr.goal → k.val ∉ s.pwr.pg → Does (.hbmPgTimeout k) s fun t => evtSet t bPWR 2 = true ∧ bit t.pdCtrl (20 + k.val) = false
      ∧ t.pdBusy (20 + k.val) = false ∧ t.rg Reg.PWR_PD_RESULT 0 0 = (at_ 0 5 (20 + k.val) ||| at_ 8 4 5) ∧ Sent s.toDev t (.hbmEn k false)))
  ∧ (∀ (s : State) (o : BitVec 36) (n : Fin 4097) (write err : Bool) (data : List Byte) (w x k a len : Nat),
    w = o.toNat / 2 ^ 32 → x = o.toNat % 2 ^ 32 → k = s.rf Reg.PCI_WIN_CTRL 0 w 2 6 →
    a = fld (s.rg Reg.PCI_WIN_BASE_LO 0 w) 12 20 * 4096 + fld (s.rg Reg.PCI_WIN_BASE_HI 0 w) 0 5 * 2 ^ 32 + x →
    len = (if write then data.length else n.val) → len ≠ 0 →
    (s.hostShut .host = true ∨ s.bases = false →
      exec (.peerWindowAccess o n write data err) s = .next (s.put (s.toDev.emit .peerRefused) s.latched))
    ∧ (s.hostShut .host = false → s.bases = true →
      ((bit (s.rg Reg.PCI_WIN_CTRL 0 w) 0 = false ∨ k < 12 ∨ 32 < k ∨ 2 ^ k < x + len ∨ (write = true ∧ bit (s.rg Reg.PCI_WIN_CTRL 0 w) 1 = false)) →
        Does (.peerWindowAccess o n write data err) s fun t => evtSet t bPCI 3 = true ∧ Sent s.toDev t .peerRefused ∧ Noted s.toDev t)
      ∧ (bit (s.rg Reg.PCI_WIN_CTRL 0 w) 0 = true → 12 ≤ k → k ≤ 32 → x + len ≤ 2 ^ k → (write = true → bit (s.rg Reg.PCI_WIN_CTRL 0 w) 1 = true) →
        (s.inHostArea a len = false → Does (.peerWindowAccess o n write data err) s fun t => evtSet t bHBM 8 = true
          ∧ (write = false → Sent s.toDev t .peerAbort) ∧ t.hbm.mem = s.hbm.mem)
        ∧ (s.inHostArea a len = true → s.stackServes (a / 2 ^ 34) = true → err = false →
          (write = true → MemoryInv s → Does (.peerWindowAccess o n write data err) s fun t => Memory.wf t.hbm.mem = true
            ∧ (∀ i < len, t.hbmByte (a + i) = data.getD i 0) ∧ ∀ b, (b < a ∨ a + len ≤ b) → t.hbmByte b = s.hbmByte b)
          ∧ (write = false → Does (.peerWindowAccess o n write data err) s fun t => t.hbm.mem = s.hbm.mem
            ∧ ∃ (l : List Out) (parts : List (List Byte)), t.out = s.out ++ l ++ parts.map Out.peerData ∧ parts.flatten = s.hbmBytes a len)))))

/-- R367, R370–R373: clearing Bus Master Enable stops the running rings with STATE 2, with PCI event 2 where reads were outstanding; a function level reset stops them too, and its end resets the host interface, with event 0. The first release of PERST# raises the bases, with STAGE 1; once it was released its assertion, and the loss of the link, reset the host interface, with event 1; training restores the link. D3hot stops the rings, and D0 keeps what is there.
R376–R379: EN 1 starts a ring that does not run, with its addresses and length latched and both indexes 0; EN 0 stops it with STATE 0. HOST_IDX is stored; beyond the ring's length a running ring stops with STATE 3, ERR 1, DMA event 0. A hold-off that elapses on a running ring with IRQ_EN 1 ends its count of new entries (its vector is raised); with IRQ_EN 0 the count stands. A read that times out (ERR 3, PCI event 4), that is refused (ERR 4), or a malformed descriptor (ERR 2) stops its ring; a good receive descriptor waits for packets. Reads that were outstanding when a ring stopped end first, and for nothing (R370; log entry 131). -/
def Obligations.HostAndRings : Prop :=
  (∀ (s : State) (gone : Dev → Prop),
    gone = (fun t => t.pci.busMaster = false ∧ t.pci.memSpace = false ∧ t.pci.flr = false ∧ t.pci.msixEn = false ∧ t.arming.get .host = false
      ∧ t.rings = [] ∧ (∀ r < 1120, t.ringState r = 4) ∧ (∀ w < 16, bit (t.rg Reg.PCI_WIN_CTRL 0 w) 0 = false)
      ∧ t.tbl = s.tbl ∧ t.tm = s.tm ∧ t.pbk = s.pbk ∧ t.objs = s.objs ∧ t.cue = s.cue) →
    ((Does .busMasterEnableClear s fun t => Noted { s.toDev with pci := { s.pci with busMaster := false } } t
        ∧ (∀ r ∈ s.runningRings, t.ringState r = 2) ∧ (s.readsOut = true → evtSet t bPCI 2 = true))
      ∧ (s.pci.d3hot = false → Does .d3hotEntry s fun t => Noted { s.toDev with pci := { s.pci with d3hot := true } } t ∧ ∀ r ∈ s.runningRings, t.ringState r = 2)
      ∧ (s.pci.flr = false → Does .initiateFunctionLevelReset s fun t => Noted { s.toDev with pci := { s.pci with flr := true } } t
        ∧ ∀ r ∈ s.runningRings, t.ringState r = 2))
    ∧ exec .d0Return s = .next (s.put { s.toDev with pci := { s.pci with d3hot := false } } s.latched)
    ∧ (s.pci.flr = true → Does .flrReset s fun t => gone t ∧ evtSet t bPCI 0 = true ∧ t.pci.link = s.pci.link)
    ∧ (s.pci.flr = false → exec .flrReset s = .next (s.put s.toDev s.latched))
    ∧ (s.pci.released = true → Does .perstNAssert s fun t => gone t ∧ evtSet t bPCI 1 = true ∧ t.pci.perst = true ∧ t.pci.link = 0)
    ∧ (s.pci.released = false → exec .perstNAssert s = .next (s.put { s.toDev with pci := { s.pci with perst := true } } s.latched))
    ∧ (s.pci.link = 1 ∨ s.pci.link = 2 → Does .linkLoss s fun t => gone t ∧ evtSet t bPCI 1 = true ∧ t.pci.link = 0)
    ∧ (s.pci.link = 0 ∨ s.pci.link = 3 → exec .linkLoss s = .next (s.put s.toDev s.latched))
    ∧ (s.pci.released = true → exec .perstNRelease s = .next (s.put { s.toDev with pci := { s.pci with perst := false } } s.latched))
    ∧ (s.pci.released = false → Does .perstNRelease s fun t => t.pci = { s.pci with perst := false, released := true } ∧ t.bases = true ∧ t.stage = 1
      ∧ ∀ d, d = 30 ∨ d = 31 → bit s.pdCtrl d = true → s.pdOn d = false → s.pdBusy d = false → (d, true) ∈ t.pwr.goal)
    ∧ (s.pci.perst = false → s.pci.released = true → s.pci.link = 0 →
      exec .pcieLinkTrained s = .next (s.put { s.toDev with pci := { s.pci with link := 1 } } s.latched))
    ∧ (s.pci.perst = true ∨ s.pci.released = false ∨ s.pci.link ≠ 0 → exec .pcieLinkTrained s = .next (s.put s.toDev s.latched)))
  ∧ (∀ (s : State) (q : Req) (r : Fin 1120) (v : W32) (k n l : Nat) (st : Fin 4) (d : List W32) (ds : List (List W32)) (u : Dev) (halted : Dev → Nat → Nat → Nat → Dev → Prop),
    k = Reg.ringKind r → n = Reg.ringNum r → l = max 6 (fld v 1 4) → u = disarmed s.toDev q →
    halted = (fun u st err late t => Noted u t ∧ t.ringState r = st ∧ fld (t.ringRg Reg.DMA_DEV_IDX r) 20 4 = err ∧ (k ≠ 2 → t.devIdx r = s.devIdx r)
      ∧ (t.ring r).desc = [] ∧ (t.ring r).reading = 0 ∧ (t.ring r).held = [] ∧ (t.ring r).late = late ∧ (st = 3 → evtSet t bDMA 0 = true)) →
    (Reached s.toDev q (Reg.DMA_CFG k) 0 n →
      (s.ringState r = 1 → Does (.ringEnable q r v) s fun t => Noted u t ∧ t.ringState r = 1 ∧ (k ≠ 2 → t.ring r = s.ring r))
      ∧ (s.ringState r ≠ 1 → Does (.ringEnable q r v) s fun t => Noted u t ∧ t.ringState r = 1 ∧ t.devIdx r = 0 ∧ t.hostIdx r = 0
        ∧ t.ring r = { base := (s.ringRg Reg.DMA_BASE_LO r).toNat + 2 ^ 32 * (s.ringRg Reg.DMA_BASE_HI r).toNat,
                       wb := (s.ringRg Reg.DMA_WB_LO r).toNat + 2 ^ 32 * (s.ringRg Reg.DMA_WB_HI r).toNat, log2 := l, late := (s.ring r).late })
      ∧ (s.ringState r = 1 → Does (.ringDisable q r v) s (halted u 0 0 ((s.ring r).late + (s.ring r).reading)))
      ∧ (s.ringState r ≠ 1 → Does (.ringDisable q r v) s fun t => Noted u t ∧ t.ringState r = 0 ∧ t.devIdx r = s.devIdx r))
    ∧ (Reached s.toDev q (Reg.DMA_HOST_IDX k) 0 n →
      (s.ringState r ≠ 1 → Does (.hostIdxWrite q r v) s fun t => Noted u t ∧ t.hostIdx r = fld v 0 16 ∧ t.ringState r = s.ringState r)
      ∧ (s.ringState r = 1 → k ≠ 2 → 2 ^ (s.ring r).log2 < (fld v 0 16 + 65536 - s.devIdx r) % 65536 → Does (.hostIdxWrite q r v) s (halted u 3 1 ((s.ring r).late + (s.ring r).reading)))
      ∧ (s.ringState r = 1 → k ≠ 2 → (fld v 0 16 + 65536 - s.devIdx r) % 65536 ≤ 2 ^ (s.ring r).log2 → Does (.hostIdxWrite q r v) s fun t =>
        Noted u t ∧ t.hostIdx r = fld v 0 16 ∧ t.ringState r = 1 ∧ t.devIdx r = s.devIdx r))
    ∧ (s.ringState r ≠ 1 ∨ (s.ring r).fresh = 0 → exec (.interruptHoldoffExpiry r) s = .next (s.put s.toDev s.latched))
    ∧ (s.ringState r = 1 → (s.ring r).fresh ≠ 0 → Does (.interruptHoldoffExpiry r) s fun t => Noted s.toDev t
      ∧ (t.ring r).fresh = (if bit (s.ringRg Reg.DMA_CFG r) 28 then 0 else (s.ring r).fresh))
    ∧ ((s.ring r).late ≠ 0 →
      (Does (.ringReadTimeout r) s fun t => Noted (s.setRing r { s.ring r with late := 0 }) t ∧ evtSet t bPCI 4 = true
        ∧ (k ≠ 2 → t.ring r = { s.ring r with late := 0 } ∧ t.ringState r = s.ringState r ∧ t.devIdx r = s.devIdx r))
      ∧ (st ≠ 0 → exec (.ringReadCompletion r st ds) s = .next (s.put (s.setRing r { s.ring r with late := 0 }) s.latched))
      ∧ exec (.ringReadCompletion r 0 ds) s = .next (s.put (s.setRing r { s.ring r with late := (s.ring r).late - ds.length }) s.latched))
    ∧ ((s.ring r).late = 0 → s.ringReads r = false → exec (.ringReadTimeout r) s = .next (s.put s.toDev s.latched)
      ∧ exec (.ringReadCompletion r st ds) s = .next (s.put s.toDev s.latched))
    ∧ ((s.ring r).late = 0 → s.ringReads r = true →
      (Does (.ringReadTimeout r) s fun t => halted s.toDev 3 3 0 t ∧ evtSet t bPCI 4 = true)
      ∧ (st ≠ 0 → Does (.ringReadCompletion r st ds) s (halted s.toDev 3 4 0))
      ∧ (k ≠ 0 → exec (.ringReadCompletion r 0 ds) s = .next (s.put s.toDev s.latched))
      ∧ (k = 0 → rxDescBad d = true → Does (.ringReadCompletion r 0 [d]) s (halted s.toDev 3 2 ((s.ring r).reading - 1)))
      ∧ (k = 0 → rxDescBad d = false → ∃ x : RingSt, x = { s.ring r with
          reading := (s.ring r).reading - 1, desc := (s.ring r).desc ++ [(wordN d 0 + 2 ^ 32 * wordN d 1, wfld d 2 0 16)] }
        ∧ exec (.ringReadCompletion r 0 [d]) s = .next (s.put (s.setRing r x) s.latched))))

/-- R380, R381: the packet at the head of a running transmit ring is read. A malformed descriptor stops the ring with STATE 3, ERR 2; one whose EOP is not produced yet waits. A length outside 60 to 9,596 bytes is a drop, with DMA event 4; one without a VOQ is counted, with SCH event 1; a packet that its queue admits and that the die has room for joins it, unless buffers run out. -/
def Obligations.TransmitPackets : Prop :=
  ∀ (s : State) (n : Fin 512) (ds : List (List W32)) (data : List Byte) (r : Nat), r = 512 + n.val →
    (s.ringState r ≠ 1 ∨ s.mastering = false ∨ s.stopped = true → exec (.transmitPacket n ds data) s = .next (s.put s.toDev s.latched))
    ∧ (s.ringState r = 1 → s.mastering = true → s.stopped = false →
      (txWalk (ds.take (s.outstanding r)) 0 = none → Does (.transmitPacket n ds data) s fun t => Noted s.toDev t ∧ t.ringState r = 3
        ∧ fld (t.ringRg Reg.DMA_DEV_IDX r) 20 4 = 2 ∧ evtSet t bDMA 0 = true)
      ∧ (txWalk (ds.take (s.outstanding r)) 0 = some none → exec (.transmitPacket n ds data) s = .next (s.put s.toDev s.latched))
      ∧ ∀ k, txWalk (ds.take (s.outstanding r)) 0 = some (some k) → ∀ f, f = slice data 0 ((ds.take k).foldl (fun m d => m + wfld d 2 0 16) 0) →
        (f.length < 60 ∨ 9596 < f.length → Does (.transmitPacket n ds data) s fun t => Noted s.toDev t ∧ evtSet t bDMA 4 = true
          ∧ t.devIdx r = (s.devIdx r + k) % 65536 ∧ (t.ringRg Reg.DMA_DROP r).toNat = sat32 ((s.ringRg Reg.DMA_DROP r).toNat + 1))
        ∧ (60 ≤ f.length → f.length ≤ 9596 → ∀ u : Dev, u = (s.bump bDMA 1 r 0 1).bump bDMA 1 r 1 f.length →
          (s.txTicket (ds.headD []) f.length = none → Does (.transmitPacket n ds data) s fun t => Noted (u.bump bSCH 0x20 0 0 1) t ∧ evtSet t bSCH 1 = true
            ∧ t.devIdx r = (s.devIdx r + k) % 65536)
          ∧ ∀ tk, s.txTicket (ds.headD []) f.length = some tk → ∀ v, v = tk.voq.toNat → (s.queue v).isolated = false →
            s.judge v 0 s.cue.tickNo = none → s.place v tk.tc.toNat false s.cue.tickNo = .ok (none, false) → Does (.transmitPacket n ds data) s fun t =>
              t.devIdx r = (s.devIdx r + k) % 65536 ∧ t.counter bDMA 1 r 0 = s.counter bDMA 1 r 0 + 1
              ∧ ((∃ p, (t.queue v).pkts = (s.queue v).pkts ++ [p] ∧ p.frame = f ∧ p.ticket.dst = (if wfld (ds.headD []) 3 0 2 = 0 then at_ 10 22 (wfld (ds.headD []) 4 0 22) else word (ds.headD []) 4)
                    ∧ p.ticket.frameLen.toNat = f.length + 4 ∧ t.houseOf s.epochNow = s.houseOf s.epochNow + 1)
                ∨ (t.counter bQAD 0x31 0 1 = s.counter bQAD 0x31 0 1 + 1 ∧ t.houseOf s.epochNow = s.houseOf s.epochNow))))

/-- R385–R388: a removal shows the cage empty and off, with event 1, and takes its ports down; an insertion shows it present, with event 0; a press is shown with event 4, and powers the cage off where CFG bit 19 says so. A request for power makes a present cage that is off wait; PWR 0 takes its power away. Power good ends the ramp, with event 2; its absence is fault 1, its loss fault 2, both with event 3.
R389: a transaction on a master that is idle goes to the cage that names the master: a bad length is refused with CODE 8, a wrong master with 6, a cage without power with 5; a master that is busy shows 9. Each refusal sets event 5. When it ends, BUSY is 0 and the code is shown; the bytes of a read that succeeded fill object 2. -/
def Obligations.CagesAndModules : Prop :=
  (∀ (s : State) (q : Req) (c : Fin 64) (v : W32),
    (s.cageF c 0 1 = 0 → exec (.cageRemoval c) s = .next (s.put s.toDev s.latched))
    ∧ (s.cageF c 0 1 = 1 → Does (.cageRemoval c) s fun t => t.cageF c 0 1 = 0 ∧ t.pstate c = 0 ∧ t.cageF c 6 1 = 1 ∧ t.cageF c 4 1 = 0
      ∧ t.rf Reg.CAG_CAGE_CTRL 0 c 0 1 = 0 ∧ evtSet t bCAG 1 = true
      ∧ (s.pstate c = 3 → t.cageF c 8 2 = 3 ∧ Sent s.toDev t (.cagePwren c false) ∧ ∀ p < 256, s.cagePort c p = true → s.portUp p = true → t.portUp p = false)
      ∧ ∀ m < 16, (s.i2cOf m).busy = true → fld (s.i2cOf m).cmd 19 6 = c → (t.i2cOf m).busy = false ∧ t.rf Reg.CAG_I2C_STATUS 0 m 4 4 = 5)
    ∧ (s.cageF c 0 1 = 1 → exec (.cageInsertion c) s = .next (s.put s.toDev s.latched))
    ∧ (s.cageF c 0 1 = 0 → Does (.cageInsertion c) s fun t => t.cageF c 0 1 = 1 ∧ evtSet t bCAG 0 = true
      ∧ (∀ on, on = (bit (s.rg Reg.CAG_CAGE_CFG 0 c) 18 || s.rf Reg.CAG_CAGE_CTRL 0 c 0 1 == 1) →
        t.rf Reg.CAG_CAGE_CTRL 0 c 0 1 = on.toNat ∧ (on = true → s.pstate c = 0 → t.pstate c = 1 ∧ c.val ∈ t.cageWait)))
    ∧ (Does (.attentionPress c) s fun t => t.cageF c 5 1 = 1 ∧ evtSet t bCAG 4 = true
      ∧ t.pstate c = (if bit (s.rg Reg.CAG_CAGE_CFG 0 c) 19 = true then 0 else s.pstate c))
    ∧ (Reached s.toDev q Reg.CAG_CAGE_CTRL 0 c →
      (Does (.cagePowerRequest q c v) s fun t => t.rf Reg.CAG_CAGE_CTRL 0 c 0 1 = 1
        ∧ (s.cageF c 0 1 = 1 → s.pstate c = 0 → t.pstate c = 1 ∧ t.cageF c 8 2 = 0 ∧ t.cageWait.getLast? = some c.val)
        ∧ (s.cageF c 0 1 = 0 ∨ s.pstate c ≠ 0 → t.pstate c = s.pstate c ∧ t.cageWait = s.cageWait))
      ∧ (Does (.cagePowerOff q c v) s fun t => t.rf Reg.CAG_CAGE_CTRL 0 c 0 1 = 0 ∧ t.pstate c = 0
        ∧ (s.pstate c = 2 ∨ s.pstate c = 3 → Sent s.toDev t (.cagePwren c false) ∧ c.val ∉ t.cageWait)))
    ∧ (Does (.cagePowerGood c) s fun t => t.cageF c 4 1 = 1 ∧ t.pstate c = (if s.pstate c = 2 then 3 else s.pstate c) ∧ (s.pstate c = 2 → evtSet t bCAG 2 = true))
    ∧ (s.pstate c ≠ 2 → exec (.cagePgTimeout c) s = .next (s.put s.toDev s.latched))
    ∧ (s.pstate c = 2 → Does (.cagePgTimeout c) s fun t => t.pstate c = 4 ∧ t.cageF c 8 2 = 1 ∧ evtSet t bCAG 3 = true ∧ Sent s.toDev t (.cagePwren c false))
    ∧ (s.pstate c ≠ 3 → exec (.cagePgLoss c) s = .next (s.put (s.cageSet c 4 1 0) s.latched))
    ∧ (s.pstate c = 3 → Does (.cagePgLoss c) s fun t => t.pstate c = 4 ∧ t.cageF c 8 2 = 2 ∧ evtSet t bCAG 3 = true ∧ Sent s.toDev t (.cagePwren c false)
      ∧ ∀ p < 256, s.cagePort c p = true → s.portUp p = true → t.portUp p = false))
  ∧ (∀ (s : State) (q : Req) (m : Fin 16) (v : W32) (cage wl rl : Nat) (how : Fin 4) (data : List Byte) (low : Bool) (x : I2cSt) (u : Dev),
    cage = fld v 19 6 → wl = fld v 7 6 → rl = fld v 13 6 → x = s.i2cOf m →
    (Reached s.toDev q Reg.CAG_I2C_CMD 0 m → u = disarmed s.toDev q →
      (x.busy = true → Does (.i2cTransaction q m v) s fun t => evtSet t bCAG 5 = true ∧ Noted (u.wf Reg.CAG_I2C_STATUS 0 m 4 4 9) t)
      ∧ (x.busy = false → ∀ code, code = (if (wl = 0 ∧ rl = 0) ∨ 32 < wl ∨ 32 < rl then 8 else if s.rf Reg.CAG_CAGE_CFG 0 cage 12 4 ≠ m then 6
          else if s.cageF cage 0 1 = 0 ∨ s.pstate cage ≠ 3 then 5 else 0) →
        (code ≠ 0 → Does (.i2cTransaction q m v) s fun t => evtSet t bCAG 5 = true ∧ t.rg Reg.CAG_I2C_STATUS 0 m = (at_ 0 1 1 ||| at_ 4 4 code)
          ∧ (t.i2cOf m).busy = false ∧ t.objs = s.objs)
        ∧ (code = 0 → Does (.i2cTransaction q m v) s fun t => t.i2cOf m = { busy := true, cmd := v } ∧ t.rg Reg.CAG_I2C_STATUS 0 m = 2
          ∧ Sent s.toDev t (.i2c m (fld v 0 7) (slice (wordsBytes (s.obj bCAG 1 m)) 0 wl) rl))))
    ∧ (x.busy = false → exec (.i2cComplete m how data) s = .next (s.put s.toDev s.latched) ∧ exec (.i2cStretchTimeout m low) s = .next (s.put s.toDev s.latched))
    ∧ (x.busy = true →
      (Does (.i2cComplete m 0 data) s fun t => (t.i2cOf m).busy = false ∧ t.rg Reg.CAG_I2C_STATUS 0 m = 1
        ∧ (fld x.cmd 13 6 ≤ 32 → (s.obj bCAG 2 m).length = 8 → ∀ i < fld x.cmd 13 6, (wordsBytes (t.obj bCAG 2 m))[i]? = some (data.getD i 0)))
      ∧ (how ≠ 0 → Does (.i2cComplete m how data) s fun t => (t.i2cOf m).busy = false ∧ evtSet t bCAG 5 = true
        ∧ t.rf Reg.CAG_I2C_STATUS 0 m 4 4 = (if how = 3 then 7 else how.val) ∧ t.objs = s.objs)
      ∧ Does (.i2cStretchTimeout m low) s fun t => (t.i2cOf m).busy = false ∧ evtSet t bCAG 5 = true
        ∧ t.rf Reg.CAG_I2C_STATUS 0 m 4 4 = (if low = true then 4 else 3) ∧ t.objs = s.objs))

/-- R393–R398, R402: a complex claims the Call while HOLDER is 0, and GRANTS counts it, with event 0; the holder renews its lease before it ends, and releases the Call, with event 2; a lease that reaches 0 drops it, with event 1 (class 13 has no reaction here); a complex that stops drops it too. CCX_CALL_FORCE gives it to a complex, or to none, with event 7. The Understudy claims when it finds HOLDER 0.
R386, R392, R401: a complex that leads counts its service cycle; it admits a cage that waits while fewer than 4 ramp; it rewrites the ALT values it is given; the acknowledgement of the mirror transfer synchronises the other complex, its absence ends that; a cycle that overran is counted, with event 8. R472: it takes bring-up on: STAGE 1 becomes 2 and the tables' domain is turned on; STAGE 4 becomes 5, DONE with TOP event 2. Without a Lead nothing happens. -/
def Obligations.TheCallAndService : Prop :=
  (∀ (s : State) (q : Req) (x : Fin 2) (both : Bool) (n : Fin 4) (u : Dev) (held : Nat → Dev → Prop),
    u = disarmed s.toDev q → held = (fun n t => t.holder = n ∧ t.ccx.leaseFrom = s.cue.localNs
      ∧ (s.holder ≠ 0 → n ≠ s.holder → t.rf Reg.CCX_CALL 0 0 4 2 = s.holder) ∧ (s.holder = 0 ∨ n = s.holder → t.rf Reg.CCX_CALL 0 0 4 2 = s.rf Reg.CCX_CALL 0 0 4 2)
      ∧ t.rf Reg.CCX_CALL 0 0 24 8 = (if n ≠ 0 ∧ n ≠ s.holder then (s.rf Reg.CCX_CALL 0 0 24 8 + 1) % 256 else s.rf Reg.CCX_CALL 0 0 24 8)
      ∧ (n ≠ 0 → s.ccRuns (n - 1) = true → t.ccState (n - 1) = 3 ∧ t.ccSynced (n - 1) = false)) →
    (Reached s.toDev q Reg.CCX_CALL_CMD 0 0 →
      (q.complex = none → ∀ i : Instr, i = .claim q both ∨ i = .renew q ∨ i = .release q → Does i s (Noted u))
      ∧ (q.complex = some x →
        (s.holder ≠ 0 → Does (.claim q both) s (Noted u))
        ∧ (s.holder = 0 → Does (.claim q both) s fun t => evtSet t bCCX 0 = true
          ∧ held (if both = true then (if bit (s.rg Reg.CCX_CTRL 0 0) 0 = true then 2 else 1) else x.val + 1) t)
        ∧ (s.holder = x.val + 1 → s.cue.localNs < s.ccx.leaseFrom + 2000000 →
          Does (.renew q) s (Noted { u with ccx := { s.ccx with leaseFrom := s.cue.localNs } }))
        ∧ (s.holder ≠ x.val + 1 ∨ s.ccx.leaseFrom + 2000000 ≤ s.cue.localNs → Does (.renew q) s (Noted u))
        ∧ (s.holder = x.val + 1 → Does (.release q) s fun t => held 0 t ∧ evtSet t bCCX 2 = true)
        ∧ (s.holder ≠ x.val + 1 → Does (.release q) s (Noted u))))
    ∧ (s.holder = 0 → exec .leaseExpiry s = .next (s.put s.toDev s.latched))
    ∧ (s.holder ≠ 0 → s.reactOf 13 = 0 → Does .leaseExpiry s fun t => held 0 t ∧ evtSet t bCCX 1 = true ∧ evtSet t bINT 12 = true)
    ∧ (Does (.callDrop x) s fun t => t.ccRuns x = false ∧ t.ccState x = 4 ∧ t.ccSynced x = false
      ∧ (s.holder = x.val + 1 → t.holder = 0 ∧ evtSet t bCCX 2 = true) ∧ (s.holder ≠ x.val + 1 → t.holder = s.holder))
    ∧ (Reached s.toDev q Reg.CCX_CALL_FORCE 0 0 → s.arming.get q = true →
      (q ≠ .host → ∀ go, Does (.ccxCallForce q n go) s (Noted u))
      ∧ (q = .host → (Does (.ccxCallForce q n false) s (Noted (u.wg Reg.CCX_CALL_FORCE 0 0 (at_ 0 2 n))))
        ∧ Does (.ccxCallForce q n true) s fun t => evtSet t bCCX 7 = true ∧ held (if n = 3 then 0 else n.val) t
          ∧ t.rg Reg.CCX_CALL_FORCE 0 0 = (at_ 0 2 n ||| atB 31 true)))
    ∧ (s.ccRuns x = false ∨ s.ccState x ≠ 2 ∨ s.holder ≠ 0 → exec (.understudyPoll x) s = .next (s.put s.toDev s.latched))
    ∧ (s.ccRuns x = true → s.ccState x = 2 → s.holder = 0 → Does (.understudyPoll x) s fun t => held (x.val + 1) t ∧ evtSet t bCCX 0 = true))
  ∧ (∀ (s : State) (overrun ack : Bool) (a : Fin 4096) (alt : BitVec 9) (x o c : Nat),
    (s.leadRuns = false → exec (.serviceCycle overrun ack [(a, alt)] none) s = .next (s.put s.toDev s.latched))
    ∧ (s.leadRuns = true → x = s.holder - 1 → o = 1 - x → s.upd.held = false → s.pci.doeWait = none →
      (s.stage = 5 → s.pwr.fDie = false → (s.pdOn 16 = false ∨ s.int.loaded ≠ []) → (∀ e ∈ s.ports, e.2.waiting = none) →
        Does (.serviceCycle overrun ack [(a, alt)] none) s fun t => t.counter bCCX 1 x 0 = s.counter bCCX 1 x 0 + 1 ∧ t.holder = s.holder
          ∧ (t.pin a).alt = alt.toNat ∧ (s.cue.localNs < s.ccx.leaseFrom + 2000000 → t.ccx.leaseFrom = s.cue.localNs)
          ∧ (overrun = true → evtSet t bCCX 8 = true ∧ t.counter bCCX 1 x 1 = s.counter bCCX 1 x 1 + 1)
          ∧ t.ccSynced o = (ack && s.ccRuns o) ∧ (s.ccSynced o = true → (ack && s.ccRuns o) = false → evtSet t bCCX 6 = true)
          ∧ (s.cageWait = [c] → c < 64 → ((List.range 64).filter fun c => s.pstate c == 2).length < 4 → t.cageWait = [] ∧ t.pstate c = 2 ∧ Sent s.toDev t (.cagePwren c true)))
      ∧ (s.stage = 1 → bit s.pdCtrl 16 = true → s.pdOn 16 = false → (∀ e ∈ s.stepDomains, s.pdBusy e = false) → s.pwr.fDie = false →
        Does (.serviceCycle overrun ack [] none) s fun t => t.stage = 2 ∧ (16, true) ∈ t.pwr.goal ∧ t.pdBusy 16 = true ∧ t.pdOn 16 = false)
      ∧ (s.stage = 4 → s.pwr.fDie = false → (s.pdOn 16 = false ∨ s.int.loaded ≠ []) → Does (.serviceCycle overrun ack [] none) s fun t =>
        t.stage = 5 ∧ t.rf Reg.TOP_BOOT 0 0 12 1 = 1 ∧ evtSet t bTOP 2 = true)))

/-- R420: a command while one is in progress leaves CODE 1 and event 1; without a Lead it is held. On the Lead: DOWNLOAD erases the slot and carries the image from the HBM, refused for a slot in use (3), a source outside the host area (4), a length beyond the slot (10); VERIFY checks a downloaded slot, refused otherwise (12); ERASE erases a slot not in use; CLEAR_CRASH runs on. Their end shows DONE and a CODE, with event 0 or 1: the slot then holds the image, is VERIFIED or INVALID, or stays as it was where the flash failed (11) or the source could not be read (4). -/
def Obligations.UpdateCommandsRun : Prop :=
  ∀ (s : State) (q : Req) (v : W32) (k n c : Nat) (u : Dev) (g : Nat → Dev) (ended : Nat → Dev → Dev → Prop) (done : Nat → Dev → Prop),
    u = disarmed s.toDev q → k = fld v 4 1 * 2 + fld v 5 1 → n = s.rf Reg.UPD_LEN 0 0 0 27 →
    g = (fun op => ({ u with upd := { s.upd with cmd := setFld v 0 4 op &&& 0x77F#32, code := 0, work := [], held := false } } : Dev).wg Reg.UPD_STATUS 0 0 2) →
    ended = (fun c d t => evtSet t bUPD (if c = 0 then 0 else 1) = true
      ∧ Noted (({ d with upd := { d.upd with cmd := 0 } } : Dev).wg Reg.UPD_STATUS 0 0 (at_ 0 1 1 ||| at_ 8 8 c ||| at_ 16 7 (if c = 0 then 100 else 0))) t) →
    done = (fun c t => t.rf Reg.UPD_STATUS 0 0 0 2 = 1 ∧ t.rf Reg.UPD_STATUS 0 0 8 8 = c ∧ evtSet t bUPD (if c = 0 then 0 else 1) = true ∧ t.upd.cmd = 0) →
    (Reached s.toDev q Reg.UPD_CMD 0 0 →
      (∀ i op, (i, op) ∈ [(Instr.download q v, 1), (.verify q v, 2), (.activate q v, 3), (.confirm q v, 4), (.fallBack q v, 5), (.eraseSlot q v, 6),
          (.installKey q v, 7), (.removeKey q v, 8), (.clearCrash q v, 9)] →
        (bit (s.rg Reg.UPD_STATUS 0 0) 1 = true → Does i s fun t => evtSet t bUPD 1 = true ∧ Noted (u.wf Reg.UPD_STATUS 0 0 8 8 1) t)
        ∧ (bit (s.rg Reg.UPD_STATUS 0 0) 1 = false → s.leadRuns = false → Does i s (Noted (({ u with upd := { s.upd with
            cmd := setFld v 0 4 op &&& 0x77F#32, held := true } } : Dev).wg Reg.UPD_STATUS 0 0 2))))
      ∧ (bit (s.rg Reg.UPD_STATUS 0 0) 1 = false → s.leadRuns = true →
        (c = (if (s.slotInUse k || s.slotRead k) = true then 3 else if s.srcOk n = false then 4 else if slotMax k < n then 10 else 0) →
          (c ≠ 0 → Does (.download q v) s (ended c (g 1)))
          ∧ (c = 0 → Does (.download q v) s (Noted { g 1 with upd := { (g 1).upd with slots := mset {} s.upd.slots k {}, work := s.hbmBytes s.updSrc n } })))
        ∧ ((s.flash k).state ≠ 1 → Does (.verify q v) s (ended 12 (g 2)))
        ∧ ((s.flash k).state = 1 → Does (.verify q v) s (Noted { g 2 with upd := { (g 2).upd with code := (s.imageBad k).getD 0 } }))
        ∧ ((s.slotInUse k || s.slotRead k) = true → Does (.eraseSlot q v) s (ended 3 (g 6)))
        ∧ ((s.slotInUse k || s.slotRead k) = false → Does (.eraseSlot q v) s (Noted { g 6 with upd := { (g 6).upd with slots := mset {} s.upd.slots k {} } }))
        ∧ Does (.clearCrash q v) s (Noted (g 9))))
    ∧ (bit (s.rg Reg.UPD_STATUS 0 0) 1 = false ∨ s.upd.held = true → exec (.updCommandComplete 0) s = .next (s.put s.toDev s.latched))
    ∧ (bit (s.rg Reg.UPD_STATUS 0 0) 1 = true → s.upd.held = false →
      (Does (.updCommandComplete 1) s fun t => done 11 t ∧ t.upd.slots = s.upd.slots)
      ∧ (fld s.upd.cmd 0 4 = 1 → Does (.updCommandComplete 2) s fun t => done 4 t ∧ t.upd.slots = s.upd.slots)
      ∧ (fld s.upd.cmd 0 4 = 1 → Does (.updCommandComplete 0) s fun t => done 0 t ∧ t.upd.slots = mset {} s.upd.slots s.updSlot
        { image := s.upd.work, kind := wfld (envWords s.upd.work) 1 16 8, sec := wordN (envWords s.upd.work) 3, digest := Config.sha384 s.upd.work, commit := true })
      ∧ (fld s.upd.cmd 0 4 = 2 → s.upd.code < 256 → Does (.updCommandComplete 0) s fun t => done s.upd.code t ∧ t.upd.slots = mset {} s.upd.slots s.updSlot
        { s.flash s.updSlot with verified := s.upd.code == 0, invalid := s.upd.code != 0 })
      ∧ (fld s.upd.cmd 0 4 = 9 → Does (.updCommandComplete 0) s fun t => done 0 t ∧ t.upd.crash = []))

/-- R412–R414, R420: ACTIVATE of a slot that is not VERIFIED answers 12, with a trial open 13; of a book it opens the trial; of firmware, with the other complex synchronised (else 15), it opens the trial and restarts that complex into the slot. CONFIRM makes the trial slot the active one, and raises the floor where bit 6 asks for it; FALL_BACK closes a book's trial; both answer 13 without a trial. INSTALL_KEY answers 4 for a bad source, 17 for a record that is none, 18 with no entry free; otherwise the store holds the unwrapped key. REMOVE_KEY of a key that is not installed answers 12; otherwise the key is gone.
R422: when the restarted complex is synchronised the Lead writes CCX_HANDOVER for it and cues its strobe; at the end, with the former Lead synchronised, activation is over, with event 2. A step that takes 30 s reverts, or ends, with CODE 15 and event 3. -/
def Obligations.TrialsAndActivation : Prop :=
  (∀ (s : State) (q : Req) (v : W32) (k o : Nat) (b : BootRec) (rec : List Byte) (ended : Nat → Dev → Prop) (up : Nat → Nat → Nat),
    Reached s.toDev q Reg.UPD_CMD 0 0 → bit (s.rg Reg.UPD_STATUS 0 0) 1 = false → s.leadRuns = true → k = fld v 4 1 * 2 + fld v 5 1 → b = s.upd.boot → o = s.understudy →
    ended = (fun c t => t.rg Reg.UPD_STATUS 0 0 = (at_ 0 1 1 ||| at_ 8 8 c ||| at_ 16 7 (if c = 0 then 100 else 0))
      ∧ evtSet t bUPD (if c = 0 then 0 else 1) = true ∧ t.upd.slots = s.upd.slots) →
    up = (fun old n => if bit v 6 = true then max old (min 63 n) else old) →
    ((s.flash k).state ≠ 2 → Does (.activate q v) s fun t => ended 12 t ∧ t.upd.boot = b)
    ∧ ((s.flash k).state = 2 →
      ((if k < 2 then b.fwTrial = true ∨ s.upd.phase ≠ 0 else b.bookTrial = true) → Does (.activate q v) s fun t => ended 13 t ∧ t.upd.boot = b)
      ∧ (2 ≤ k → b.bookTrial = false → Does (.activate q v) s fun t => ended 0 t
        ∧ t.upd.boot = { b with bookTrial := true, bookTrialSlot := k - 2, bookAttempts := 0, seq := b.seq + 1 })
      ∧ (k < 2 → b.fwTrial = false → s.upd.phase = 0 → (s.flash k).kind ≠ 3 →
        (s.ccSynced o = false → Does (.activate q v) s fun t => ended 15 t ∧ t.upd.boot = b)
        ∧ (s.ccSynced o = true → Does (.activate q v) s fun t => ended 0 t ∧ t.upd.phase = 1 ∧ t.upd.slot = k ∧ t.ccSlot o = k ∧ t.ccState o = 1 ∧ t.ccSynced o = false
          ∧ t.upd.boot = { b with fwTrial := true, fwTrialSlot := k, fmtTrial := s.setFmt k, fwAttempts := 0, seq := b.seq + 1 })))
    ∧ (bit v 4 = true → b.bookTrial = false → ∀ i : Instr, i = .confirm q v ∨ i = .fallBack q v → Does i s fun t => ended 13 t ∧ t.upd.boot = b)
    ∧ (bit v 4 = true → b.bookTrial = true →
      (Does (.confirm q v) s fun t => ended 0 t ∧ t.upd.boot = { b with bookTrial := false, bookActive := b.bookTrialSlot, seq := b.seq + 1 }
        ∧ t.upd.bookFloor = up s.upd.bookFloor (s.flash (b.bookTrialSlot + 2)).sec ∧ t.upd.fwFloor = s.upd.fwFloor)
      ∧ Does (.fallBack q v) s fun t => ended 0 t ∧ t.upd.boot = { b with bookTrial := false, seq := b.seq + 1 })
    ∧ (bit v 4 = false → b.fwTrial = false ∨ s.upd.phase ≠ 0 → ∀ i : Instr, i = .confirm q v ∨ i = .fallBack q v → Does i s fun t => ended 13 t ∧ t.upd.boot = b)
    ∧ (bit v 4 = false → b.fwTrial = true → s.upd.phase = 0 →
      (Does (.confirm q v) s fun t => ended 0 t ∧ t.upd.boot = { b with fwTrial := false, fwActive := b.fwTrialSlot, fmtConfirmed := b.fmtTrial, seq := b.seq + 1 }
        ∧ t.upd.fwFloor = up s.upd.fwFloor (s.flash b.fwTrialSlot).sec ∧ t.upd.bookFloor = s.upd.bookFloor)
      ∧ (s.ccSynced o = true → Does (.fallBack q v) s fun t => ended 0 t ∧ t.upd.phase = 1 ∧ t.upd.back = true ∧ t.ccSlot o = b.fwActive
        ∧ t.upd.boot = { b with fwTrial := false, fmtTrial := 0, seq := b.seq + 1 }))
    ∧ (s.srcOk 152 = false → Does (.installKey q v) s (ended 4))
    ∧ (s.srcOk 152 = true → rec = s.hbmBytes s.updSrc 152 →
      (ofLe (slice rec 0 4) ≠ 0x59424B42 ∨ ofLe (slice rec 4 4) ≠ 0 → Does (.installKey q v) s (ended 17))
      ∧ (ofLe (slice rec 0 4) = 0x59424B42 → ofLe (slice rec 4 4) = 0 →
        Does (.installKey q v) s fun t => (Config.identityUnwrap rec = none → ended 17 t)
          ∧ ∀ key, Config.identityUnwrap rec = some key → (s.keyEntry (ofLe (slice rec 8 8)) = none → ended 18 t)
            ∧ ∀ e, s.keyEntry (ofLe (slice rec 8 8)) = some e → s.upd.waiting = [] → s.appendedHour + 80 ≤ 2 ^ 20 → totalSize s.settings + 80 ≤ 2 ^ 20 →
              ended 0 t ∧ (t.setting? 2 0 e).map Setting.data = some (slice rec 8 8 ++ slice key 0 32)))
    ∧ (s.setting? 2 0 (fld v 8 3) = none → Does (.removeKey q v) s (ended 12))
    ∧ (s.setting? 2 0 (fld v 8 3) ≠ none → s.upd.waiting = [] → s.appendedHour + 64 ≤ 2 ^ 20 →
      Does (.removeKey q v) s fun t => ended 0 t ∧ t.setting? 2 0 (fld v 8 3) = none))
  ∧ (∀ (s : State) (h : List W32), h = s.obj bUPD 2 0 →
    (s.leadRuns = false ∨ s.ccSynced s.understudy = false ∨ (s.upd.phase ≠ 1 ∧ s.upd.phase ≠ 3) → exec .activationSynced s = .next (s.put s.toDev s.latched))
    ∧ (s.leadRuns = true → s.ccSynced s.understudy = true →
      (s.upd.phase = 1 → s.timeValid = true → wordN h 0 < 1000000000 → (∃ k < 32, (s.slot (224 + k)).state ≠ 1) → Does .activationSynced s fun t =>
        t.upd.phase = 2 ∧ t.wing Reg.CCX_HANDOVER 0 0 = w32 (s.understudy + 1)
          ∧ ∃ k < 32, (s.slot (224 + k)).state ≠ 1 ∧ (t.slot (224 + k)).state = 1 ∧ (t.slot (224 + k)).w3 = w32 (2 ^ s.groupOf bCCX 0))
      ∧ (s.upd.phase = 3 → Does .activationSynced s fun t => evtSet t bUPD 2 = true
        ∧ Noted { s.toDev with upd := { s.upd with phase := 0, stepAt := s.cue.localNs } } t))
    ∧ (s.cue.localNs < s.upd.stepAt + 30000000000 ∨ (s.upd.phase ≠ 1 ∧ s.upd.phase ≠ 3) → exec .activationTimeout s = .next (s.put s.toDev s.latched))
    ∧ (s.upd.stepAt + 30000000000 ≤ s.cue.localNs →
      (s.upd.phase = 1 → s.upd.back = false → Does .activationTimeout s fun t => t.upd.phase = 0 ∧ evtSet t bUPD 3 = true ∧ t.rf Reg.UPD_STATUS 0 0 8 8 = 15
        ∧ t.upd.boot = { s.upd.boot with fwTrial := false, fmtTrial := 0, seq := s.upd.boot.seq + 1 } ∧ t.ccSlot s.understudy = s.upd.boot.fwActive)
      ∧ (s.upd.phase = 3 → Does .activationTimeout s fun t => evtSet t bUPD 3 = true
        ∧ Noted (({ s.toDev with upd := { s.upd with phase := 0, stepAt := s.cue.localNs } } : Dev).wf Reg.UPD_STATUS 0 0 8 8 15) t)))

/-- R409, R418, R419, R470, R472: a complex whose domain is on starts into the slot of the one that runs, or, while an activation goes on, into the slot being activated. With none running the boot ROM makes downloads that were not verified invalid, counts an attempt of a trial, closes one after 3 attempts with event 4, takes the other slot where the chosen one is not good, and, where neither is, ends bring-up with FAIL 1. Trial firmware that does not take the Call is reset. Without a Call for 10 s bring-up fails with 2.
R412, R416, R424: a crash is logged with its time, at most 16 in an hour, with event 8. The Lead compacts a store that has grown beyond 3 MiB into the other one, with event 5. TOP_FUSE_PROG raises a floor, and never lowers it, and revokes a key but the last, with event 6. -/
def Obligations.BootAndRecords : Prop :=
  (∀ (s : State) (x : Fin 2) (b : BootRec) (fit : Prop), b = s.upd.boot →
    fit = (s.pdOn (30 + x) = true ∧ s.pdBusy (30 + x) = false ∧ s.ccRuns x = false ∧ (7 + x.val) ∉ s.pwr.low) →
    (¬ fit → exec (.coldBoot x [] true) s = .next (s.put s.toDev s.latched))
    ∧ (fit → s.ccRuns (1 - x.val) = true → Does (.coldBoot x [] true) s fun t => t.ccRuns x = true ∧ t.ccSlot x = (if s.upd.phase = 0 then s.ccSlot (1 - x.val) else s.upd.slot) ∧ t.ccState x = 1 ∧ t.upd = s.upd)
    ∧ (fit → s.ccRuns (1 - x.val) = false → b.fwActive < 2 → b.fwTrialSlot < 2 →
      (b.fwTrial = false → b.bookTrial = false → Does (.coldBoot x [] true) s fun t => s.bookBootable b.bookActive = true → s.fwBootable b.fwActive = true →
        t.ccRuns x = true ∧ t.ccSlot x = b.fwActive ∧ t.ccState x = 1 ∧ t.upd.bookSlot = b.bookActive ∧ t.upd.filled = true ∧ t.upd.boot = { b with seq := b.seq + 1 }
          ∧ ∀ k < 4, (t.flash k).state = (if (s.flash k).state = 1 then 3 else (s.flash k).state))
      ∧ (b.fwTrial = true → b.fwAttempts < 3 → b.bookTrial = false → Does (.coldBoot x [] true) s fun t =>
        s.bookBootable b.bookActive = true → s.fwBootable b.fwTrialSlot = true → t.ccRuns x = true ∧ t.ccSlot x = b.fwTrialSlot ∧ t.upd.boot = { b with fwAttempts := b.fwAttempts + 1, seq := b.seq + 1 })
      ∧ (b.fwTrial = true → 3 ≤ b.fwAttempts → Does (.coldBoot x [] true) s fun t => s.fwBootable b.fwActive = true → t.ccSlot x = b.fwActive
        ∧ t.upd.boot.fwTrial = false ∧ evtSet t bUPD 4 = true)
      ∧ (b.fwTrial = false → s.fwBootable b.fwActive = false → Does (.coldBoot x [] true) s fun t => s.fwBootable (1 - b.fwActive) = true →
        t.ccRuns x = true ∧ t.ccSlot x = 1 - b.fwActive ∧ t.upd.boot.fwActive = 1 - b.fwActive)
      ∧ (s.fwBootable 0 = false → s.fwBootable 1 = false → Does (.coldBoot x [] true) s fun t => t.ccRuns x = false
        ∧ t.rf Reg.TOP_BOOT 0 0 0 3 = 6 ∧ t.rf Reg.TOP_BOOT 0 0 4 4 = 1 ∧ t.ccState 0 = 4 ∧ t.ccState 1 = 4))
    ∧ (b.fwTrial = true → s.ccRuns x = true → s.ccSlot x = b.fwTrialSlot → s.holder = 0 → s.upd.phase = 0 → Does (.trialWatchdog x) s fun t =>
      t.ccRuns x = false ∧ t.ccState x = 1 ∧ t.upd = s.upd)
    ∧ (b.fwTrial = false ∨ s.ccRuns x = false ∨ s.ccSlot x ≠ b.fwTrialSlot ∨ s.holder ≠ 0 ∨ s.upd.phase ≠ 0 → exec (.trialWatchdog x) s = .next (s.put s.toDev s.latched))
    ∧ (s.bases = true → s.stage = 1 → s.holder = 0 → Does .noCallTimeout s fun t => t.stage = 6 ∧ t.rf Reg.TOP_BOOT 0 0 4 4 = 2 ∧ body t = body s.toDev)
    ∧ (s.bases = false ∨ s.stage ≠ 1 ∨ s.holder ≠ 0 → exec .noCallTimeout s = .next (s.put s.toDev s.latched)))
  ∧ (∀ (s : State) (q : Req) (x : BitVec 2) (cause : Byte) (data : List Byte) (n : BitVec 6) (r : Nat) (f : Fin 16) (w : Nat → Bool → Dev),
    (16 ≤ (s.upd.crashAt.filter fun t => decide (s.cue.localNs < t + 3600000000000)).length →
      exec (.crashLogEntry x cause data) s = .next (s.put (s.toDev.bump bUPD 0x11 0 1 1) s.latched))
    ∧ ((s.upd.crashAt.filter fun t => decide (s.cue.localNs < t + 3600000000000)).length < 16 → Does (.crashLogEntry x cause data) s fun t =>
      t.upd.crash.head? = some { seq := s.upd.crashSeq, complex := x.toNat, cause := cause.toNat, ns := s.cue.ns, sec := s.cue.sec, payload := slice data 0 4072 }
        ∧ t.upd.crashSeq = s.upd.crashSeq + 1 ∧ evtSet t bUPD 8 = true ∧ t.counter bUPD 0x11 0 0 = s.counter bUPD 0x11 0 0 + 1)
    ∧ (s.leadRuns = false ∨ totalSize s.settings ≤ 3145728 → exec .settingsCompaction s = .next (s.put s.toDev s.latched))
    ∧ (s.leadRuns = true → 3145728 < totalSize s.settings → Does .settingsCompaction s fun t => evtSet t bUPD 5 = true ∧ t.upd.boot.settings = 1 - s.upd.boot.settings
      ∧ (t.settings.map fun r => { r with seq := 0 }) = ((liveSettings s.settings).filter fun r => r.type != 4 || r.fmt == s.upd.boot.fmtConfirmed
          || (s.upd.boot.fwTrial && r.fmt == s.upd.boot.fmtTrial)).map fun r => { r with seq := 0 })
    ∧ (Reached s.toDev q Reg.TOP_FUSE_PROG 0 0 → s.arming.get q = true →
      w = (fun f go => (disarmed s.toDev q).wg Reg.TOP_FUSE_PROG 0 0 (at_ 0 4 f ||| at_ 4 6 n.toNat ||| atB 31 go)) →
      Does (.fuseProgram q f n false) s (Noted (w f false))
      ∧ ((f = 0 ∨ 3 < f ∨ (f = 3 ∧ 2 ≤ n.toNat)) → Does (.fuseProgram q f n true) s (Noted (w f true)))
      ∧ (Does (.fuseProgram q 1 n true) s fun t => Noted { w 1 true with upd := { s.upd with fwFloor := max s.upd.fwFloor n.toNat } } t ∧ (s.upd.fwFloor < n.toNat → evtSet t bUPD 6 = true))
      ∧ (Does (.fuseProgram q 2 n true) s fun t => Noted { w 2 true with upd := { s.upd with bookFloor := max s.upd.bookFloor n.toNat } } t ∧ (s.upd.bookFloor < n.toNat → evtSet t bUPD 6 = true))
      ∧ (n.toNat < 2 → s.upd.revoked / 2 ^ n.toNat % 2 = 0 → r = s.upd.revoked + 2 ^ n.toNat →
        (r = 3 → Does (.fuseProgram q 3 n true) s fun t => evtSet t bUPD 1 = true ∧ Noted ((w 3 true).wf Reg.UPD_STATUS 0 0 8 8 13) t)
        ∧ (r ≠ 3 → Does (.fuseProgram q 3 n true) s fun t => evtSet t bUPD 6 = true ∧ Noted { w 3 true with upd := { s.upd with revoked := r } } t))))

/-- R362, R426, R427: a request waits while no complex leads. On the Lead GET_VERSION offers version 1.2 and starts anew; the other requests answer a version mismatch, an unexpected request or an invalid one by name; capabilities, then algorithms are agreed in that order; then the digest of the chain, its portions, a challenge and measurements are answered, signed where asked, with a nonce that is free. DOE discovery names the two protocols; an abort forgets what waits. -/
def Obligations.SpdmAnswers : Prop :=
  ∀ (s : State) (ver : Byte) (body m : List Byte) (code : Nat) (i : Instr) (sends : List Byte → Dev → Dev) (x : Byte) (op : Nat),
    (i, code) ∈ [(Instr.getVersion ver body, 0x84), (.getCapabilities ver body, 0xE1), (.negotiateAlgorithms ver body, 0xE3), (.getDigests ver body, 0x81),
      (.getCertificate ver body, 0x82), (.challenge ver body, 0x83), (.getMeasurements ver body, 0xE0)] →
    m = ver :: BitVec.ofNat 8 code :: body → sends = (fun r d => d.emit (.doe r)) →
    (s.doeOpen = false → exec i s = .next (s.put s.toDev s.latched) ∧ exec (.doeDiscovery x) s = .next (s.put s.toDev s.latched))
    ∧ (s.doeOpen = true → exec (.doeDiscovery x) s = .next (s.put (sends (if x = 0 then [1, 0, 0, 1] else if x = 1 then [1, 0, 1, 0] else [0xFF, 0xFF, 0xFF, 0]) s.toDev) s.latched))
    ∧ exec .doeAbort s = .next (s.put { s.toDev with pci := { s.pci with doeWait := none } } s.latched)
    ∧ (s.doeOpen = true → s.leadRuns = false → exec i s = .next (s.put { s.toDev with pci := { s.pci with doeWait := some m } } s.latched))
    ∧ (s.doeOpen = true → s.leadRuns = true →
      (code = 0x84 → ver = 0x10 → body.length = 2 → ∀ r, r = [0x10, 0x04, 0, 0, 0, 1, 0x00, 0x12] → exec i s = .next (s.put (sends r
        { s.toDev with upd := { s.upd with spdm := 1, spdmA := m ++ r, spdmB := [], spdmL := [] } }) s.latched))
      ∧ (∀ bad, bad = (if code = 0x84 then (if ver ≠ 0x10 then 0x41 else if body.length ≠ 2 then 1 else 0)
            else if ver ≠ 0x12 then 0x41
            else if code = 0xE1 then (if s.upd.spdm ≠ 1 then 4 else if body.length ≠ 18 then 1 else 0)
            else if code = 0xE3 then (if s.upd.spdm ≠ 2 then 4 else if body.length < 30 then 1 else 0)
            else if s.upd.spdm ≠ 3 then 4 else if code = 0x81 ∧ body.length ≠ 2 then 1 else 0) →
          bad ≠ 0 → exec i s = .next (s.put (sends [if s.upd.spdm = 0 then 0x10 else 0x12, 0x7F, BitVec.ofNat 8 bad, 0] s.toDev) s.latched))
      ∧ (ver = 0x12 →
        (code = 0xE1 → s.upd.spdm = 1 → body.length = 18 → 42 ≤ ofLe (slice m 12 4) → ofLe (slice m 12 4) ≤ ofLe (slice m 16 4) → Does i s fun t => t.upd.spdm = 2
          ∧ ∃ r, t = sends r { s.toDev with upd := { s.upd with spdm := 2, spdmA := s.upd.spdmA ++ m ++ r, spdmB := [], spdmL := [] } } ∧ r.take 2 = [0x12, 0x61] ∧ slice r 8 4 = leBytes 4 0x16)
        ∧ (code = 0xE3 → s.upd.spdm = 2 → 30 ≤ body.length → ofLe (slice m 4 2) = m.length → Does i s fun t =>
          ∃ r, t = sends r { s.toDev with upd := { s.upd with spdm := 3, spdmA := s.upd.spdmA ++ m ++ r, spdmB := [], spdmL := [] } } ∧ r.take 2 = [0x12, 0x63] ∧ r.length = 36
            ∧ slice r 12 4 = leBytes 4 (if ofLe (slice m 8 4) / 128 % 2 = 1 then 128 else 0) ∧ slice r 16 4 = leBytes 4 (if ofLe (slice m 12 4) / 2 % 2 = 1 then 2 else 0))
        ∧ (code = 0x81 → s.upd.spdm = 3 → body.length = 2 → ∀ r, r = [0x12, 0x01, 0, 1] ++ Config.sha384 (Config.unitBytes 0) → exec i s = .next (s.put (sends r
          { s.toDev with upd := { s.upd with spdmB := s.upd.spdmB ++ m ++ r, spdmL := [] } }) s.latched))
        ∧ (code = 0x82 → s.upd.spdm = 3 → body.length = 6 → msgByte m 2 % 16 = 0 → Does i s fun t => ofLe (slice m 4 2) < (Config.unitBytes 0).length →
          ∃ part, part = ((Config.unitBytes 0).drop (ofLe (slice m 4 2))).take (ofLe (slice m 6 2)) ∧ ∃ r, r = [0x12, 0x02, 0, 0] ++ leBytes 2 part.length
              ++ leBytes 2 ((Config.unitBytes 0).length - ofLe (slice m 4 2) - part.length) ++ part
            ∧ t = sends r { s.toDev with upd := { s.upd with spdmB := s.upd.spdmB ++ m ++ r, spdmL := [] } })
        ∧ (code = 0x83 → s.upd.spdm = 3 → body.length = 34 → msgByte m 2 = 0 → msgByte m 3 = 0 → Does i s fun t => t.upd = { s.upd with spdmB := [], spdmL := [] }
          ∧ ∃ n : List Byte, n.length = 32 ∧ ∃ c, c = [0x12, 0x03, 0, 1] ++ Config.sha384 (Config.unitBytes 0) ++ n ++ [0, 0]
            ∧ t.out = s.out ++ [.doe (c ++ spdmSign "responder-challenge_auth signing" (s.upd.spdmA ++ s.upd.spdmB ++ m ++ c))])
        ∧ (code = 0xE0 → s.upd.spdm = 3 → body.length = 2 → msgByte m 2 % 2 = 0 → msgByte m 3 = op → 1 ≤ op → op ≤ 8 → Does i s fun t =>
          ∃ n : List Byte, n.length = 32 ∧ ∃ r, r = [0x12, 0x60, 0, 0, 1] ++ leBytes 3 (s.measureBlock op).length ++ s.measureBlock op ++ n ++ [0, 0]
            ∧ t.out = s.out ++ [.doe r] ∧ t.upd = { s.upd with spdmL := s.upd.spdmL ++ m ++ r })))

/-- R431–R436: an error that the scrub corrects is class 1; one in a replicated entry, class 2, is rewritten from the other region where that holds the table, and marked unreadable otherwise; a first difference of two regions' digests asks for a second computation, and a second one is class 4; an entry that differs from its shadow is class 5. Each sets its event of INT (no class has a reaction here, and nothing is isolated).
R437, R438: with PROBE_CTRL.EN 0 no probe runs. A probe of a cluster in service runs under the epoch in force: it is counted, and a ticket that differs from the one expected counts as a failure, which a further run adds to, up to 15, and a run that fits takes back. Only one cluster is on here, with one probe. -/
def Obligations.ErrorsAreDetected : Prop :=
  (∀ (s : State) (u i y : W32) (r : Fin 2) (k : Fin 6) (p : Nat) (t7 : BitVec 7) (seg : BitVec 12) (f0 f1 : W32) (b : BitVec 18) (key : Nat) (x : TShape) (d : W32 × W32 × W32) (ok : Bool),
    s.reactOf 1 = 0 → s.reactOf 2 = 0 → s.reactOf 4 = 0 → s.reactOf 5 = 0 → key = t7.toNat * 4096 + seg.toNat →
    (Does (.sramScrub [.correctable u i y]) s fun t => evtSet t bINT 0 = true ∧ t.rep0 = s.rep0 ∧ t.rep1 = s.rep1 ∧ t.tm = s.tm)
    ∧ (ok = (match s.tableOf k p with | some t => s.isLoaded (1 - r.val) t && !s.fIso (1 - r.val) && !s.resyncing (1 - r.val) && !s.splitNames t && !(s.rep (1 - r.val)).isBad k p | none => false) →
      Does (.sramScrub [.entry r k p i y]) s fun t => evtSet t bINT 1 = true ∧ t.rep (1 - r.val) = s.rep (1 - r.val)
        ∧ (ok = true → t.rep r = (s.rep r).copyEntry (s.rep (1 - r.val)) k p) ∧ (ok = false → (t.rep r).isBad k p = true))
    ∧ (s.shape? t7.toNat 0 = none ∨ s.compares t7.toNat = false → exec (.digestComparison t7 seg f0 f1) s = .next (s.put s.toDev s.latched))
    ∧ (s.shape? t7.toNat 0 = some x → s.compares t7.toNat = true → d = s.digests x seg.toNat f0 f1 →
      (d.1 = d.2.1 → exec (.digestComparison t7 seg f0 f1) s = .next (s.put (s.keepDigests key d) s.latched))
      ∧ (d.1 ≠ d.2.1 → exec (.digestComparison t7 seg f0 f1) s = .next (s.put { s.keepDigests key d with
          int := { (s.keepDigests key d).int with differ := addKey s.int.differ key } } s.latched))
      ∧ (key ∈ s.int.differ → d.1 ≠ d.2.1 → Does (.digestRecompute t7 seg f0 f1) s fun t => evtSet t bINT 3 = true ∧ key ∉ t.int.differ)
      ∧ (key ∈ s.int.differ → d.1 = d.2.1 → Does (.digestRecompute t7 seg f0 f1) s fun t => key ∉ t.int.differ ∧ t.rep0 = s.rep0 ∧ t.rep1 = s.rep1 ∧ t.regs = s.regs))
    ∧ (key ∉ s.int.differ → exec (.digestRecompute t7 seg f0 f1) s = .next (s.put s.toDev s.latched))
    ∧ (s.pdOn 19 = false → exec (.shadowScrub [(r, b, y)]) s = .next (s.put s.toDev s.latched))
    ∧ (s.pdOn 19 = true → exec (.shadowScrub []) s = .next (s.put s.toDev s.latched)
      ∧ Does (.shadowScrub [(r, b, y)]) s fun t => evtSet t bINT 4 = true ∧ t.rep0 = s.rep0 ∧ t.rep1 = s.rep1))
  ∧ (∀ (s : State) (c : Fin 16) (p : Fin 8) (u : Dev) (key n : Nat),
    (bit (s.rg Reg.INT_PROBE_CTRL 0 0) 0 = false → exec .probeRun s = .next (s.put s.toDev s.latched))
    ∧ (bit (s.rg Reg.INT_PROBE_CTRL 0 0) 0 = true → u = { s.toDev with int := { s.int with noCover := s.int.noCover.filter fun k => k % 16 == s.epochNow } } →
      (∀ c' < 16, c' ≠ c.val → s.pdOn c' = false) →
      (s.pdOn c = false ∨ s.clusterIso c = true ∨ s.noBook = true ∨ s.drained (c.val / 8) = true → exec .probeRun s = .next (s.put u s.latched))
      ∧ (s.pdOn c = true → s.clusterIso c = false → s.noBook = false → s.drained (c.val / 8) = false →
        ((∀ p < 8, s.probeOn c p = false) → Does .probeRun s fun t => (c.val * 16 + s.epochNow) ∈ t.int.noCover
          ∧ ((c.val * 16 + s.epochNow) ∉ s.int.noCover → evtSet t bINT 15 = true) ∧ t.tm = s.tm)
        ∧ (s.probeOn c p = true → (∀ p' < 8, p' ≠ p.val → s.probeOn c p' = false) → key = c.val * 8 + p.val → n = min 15 (mget 0 s.int.probeFails key + 1) →
          (probeMiss (s.probeCtl c p) (u.probeTicket c p).2 = none → Does .probeRun s fun t => t.counter bINT 6 c 0 = s.counter bINT 6 c 0 + 1
            ∧ t.counter bINT 6 c 1 = s.counter bINT 6 c 1 ∧ mget 0 t.int.probeFails key = 0 ∧ t.tm = s.tm ∧ t.ing = s.ing)
          ∧ (probeMiss (s.probeCtl c p) (u.probeTicket c p).2 ≠ none → s.reactOf 6 = 0 → Does .probeRun s fun t => t.counter bINT 6 c 0 = s.counter bINT 6 c 0 + 1
            ∧ t.counter bINT 6 c 1 = s.counter bINT 6 c 1 + 1 ∧ mget 0 t.int.probeFails key = n ∧ t.tm = s.tm
            ∧ (max 1 (s.rf Reg.INT_PROBE_CTRL 0 0 4 4) ≤ n → evtSet t bINT 5 = true))))))

/-- R442: INT_RELEASE takes a cluster, or a unit named in object 5, back into service; it starts the resynchronisation of an F-die region, whose end copies the other region's tables, releases it and sets event 14; the stacks of a T-die region come back in RESET. Without GO, with an index that names none, or under stop device, nothing changes.
R355, R449, R451, R452, R458, R459: a cached delta is written back into the pair's HBM value; where the stack does not answer, or the read is uncorrectable, the pair is zero and marked invalid, with STA event 0. The end of a snapshot copy sets event 1. A sampling counter beyond 2^48 − 1 is reloaded and writes a record, which is lost within 1 µs of the last one, with PMC event 0. -/
def Obligations.IsolationAndStatistics : Prop :=
  (∀ (s : State) (q : Req) (n : BitVec 17) (r : Fin 2) (u : Dev) (code : Nat),
    (Reached s.toDev q Reg.INT_RELEASE 0 0 → u = disarmed s.toDev q → code = wordN (s.obj bINT 5 0) 0 →
      (∀ go : Bool, ∀ i ∈ [Instr.releaseCluster q n go, .releaseFRegion q n go, .releaseTRegion q n go, .releaseUnit q n go], go = false ∨ s.stopped = true → Does i s (Noted u))
      ∧ (s.stopped = false →
        (16 ≤ n.toNat → Does (.releaseCluster q n true) s (Noted u))
        ∧ (n.toNat < 16 → Does (.releaseCluster q n true) s fun t => bit (t.rg Reg.INT_ISO 0 0) n.toNat = false
          ∧ ∀ i < 32, i ≠ n.toNat → bit (t.rg Reg.INT_ISO 0 0) i = bit (s.rg Reg.INT_ISO 0 0) i)
        ∧ (2 ≤ n.toNat ∨ s.fIso n.toNat = false ∨ s.resyncing n.toNat = true → Does (.releaseFRegion q n true) s (Noted u))
        ∧ (n.toNat < 2 → s.fIso n.toNat = true → s.resyncing n.toNat = false →
          Does (.releaseFRegion q n true) s (Noted (u.wf Reg.INT_ISO 0 0 (20 + n.toNat) 1 1)))
        ∧ (2 ≤ n.toNat ∨ s.tIso n.toNat = false → Does (.releaseTRegion q n true) s (Noted u))
        ∧ (n.toNat < 2 → s.tIso n.toNat = true → Does (.releaseTRegion q n true) s fun t => t.tIso n.toNat = false
          ∧ ∀ k < 4, s.variant.hasStack (4 * n.toNat + k) = true → t.stackState (4 * n.toNat + k) = (if s.stackState (4 * n.toNat + k) = 0 then 0 else 1))
        ∧ (code ∉ s.int.units ∨ n.toNat ≠ (UnitId.ofCode (word (s.obj bINT 5 0) 0)).inst → Does (.releaseUnit q n true) s (Noted u))
        ∧ (code ∈ s.int.units → n.toNat = (UnitId.ofCode (word (s.obj bINT 5 0) 0)).inst → Does (.releaseUnit q n true) s fun t => t.int.units = delKey s.int.units code
          ∧ ((UnitId.ofCode (word (s.obj bINT 5 0) 0)).blk = bQAD → (t.queue n.toNat).isolated = false))))
    ∧ (s.resyncing r = false ∨ s.stopped = true → exec (.resyncComplete r) s = .next (s.put s.toDev s.latched))
    ∧ (s.resyncing r = true → s.stopped = false → Does (.resyncComplete r) s fun t => t.rep r = s.rep (1 - r.val) ∧ t.rep (1 - r.val) = s.rep (1 - r.val)
      ∧ t.fIso r = false ∧ t.resyncing r = false ∧ evtSet t bINT 14 = true ∧ ∀ x < 128, t.isLoaded r x = t.isLoaded (1 - r.val) x))
  ∧ (∀ (s : State) (pair : BitVec 26) (err : Bool) (id : Fin 320) (c : Fin 16) (stage : Byte) (k : PmcCtr) (e : Nat),
    ((s.sta.cache.find? fun e => e.1 == pair.toNat) = none → exec (.statsWriteback pair err) s = .next (s.put s.toDev s.latched))
    ∧ ((s.sta.cache.find? fun e => e.1 == pair.toNat) ≠ none →
      (s.statServes pair.toNat = true → Does (.statsWriteback pair false) s fun t => t.statHbm pair.toNat = s.statValue pair.toNat
        ∧ (t.sta.cache.find? fun e => e.1 == pair.toNat) = none ∧ t.sta.invalid = s.sta.invalid ∧ t.counter bSTA 3 0 2 = s.counter bSTA 3 0 2 + 1)
      ∧ (s.reactOf 12 = 0 → err = true ∨ s.statServes pair.toNat = false → Does (.statsWriteback pair err) s fun t => t.statHbm pair.toNat = (0, 0)
        ∧ pair.toNat ∈ t.sta.invalid ∧ evtSet t bSTA 0 = true ∧ t.counter bSTA 3 0 3 = s.counter bSTA 3 0 3 + 1))
    ∧ (s.sta.copying = false → exec .snapshotCopyComplete s = .next (s.put s.toDev s.latched))
    ∧ (s.sta.copying = true → Does .snapshotCopyComplete s fun t => evtSet t bSTA 1 = true ∧ Noted { s.toDev with sta := { s.sta with copying := false } } t)
    ∧ (k = mget {} s.pmc id →
      (s.sampling id = false ∨ k.value < 2 ^ 48 → exec (.counterOverflow id c stage none) s = .next (s.put s.toDev s.latched))
      ∧ (s.sampling id = true → 2 ^ 48 ≤ k.value →
        ((∃ t, k.last = some t ∧ s.cue.localNs < t + 1000) → Does (.counterOverflow id c stage none) s fun t => evtSet t bPMC 0 = true
          ∧ Noted (s.toDev.bump bPMC 4 0 1 1) t ∧ (mget {} t.pmc id).lost = k.lost + 1)
        ∧ ((∀ t, k.last = some t → t + 1000 ≤ s.cue.localNs) → e = 1024 + s.rf Reg.PMC_CTRL 0 0 8 6 % 64 → s.ringState e = 1 → 0 < s.freeSlots e → s.mastering = true →
          Does (.counterOverflow id c stage none) s fun t => Noted (s.toDev.bump bPMC 4 0 0 1) t
            ∧ mget {} t.pmc id = { k with value := k.value - k.period, lost := 0, last := some s.cue.localNs } ∧ t.devIdx e = (s.devIdx e + 1) % 65536))))

/-- R466–R469, R476: a write of PWR_PD_CTRL is refused with code 6 while thermal shutdown holds (for domain 0 where it asks for no change: the model's choice, log entry 98); otherwise one that asks for no change changes nothing; a change that is refused is shown in PWR_PD_RESULT with event 2 and not taken; one that is taken starts the transition, which ends with event 0 or 1 (a stack's only with HBM_PG), and its status follows: off at the start of turning off, on at the end of turning on. One domain changes here. -/
def Obligations.DomainsSwitch : Prop :=
  ∀ (s : State) (q : Req) (d : Fin 32) (v : W32) (u : Dev) (on : Bool) (n : Nat),
    (Reached s.toDev q Reg.PWR_PD_CTRL 0 0 → s.arming.get q = true → u = disarmed s.toDev q →
      ((∀ e < 32, s.variant.hasDomain e = true → bit v e = bit s.pdCtrl e) →
        (s.tempHold = false → Does (.pwrPdCtrlWrite q v) s (Noted u))
        ∧ (s.tempHold = true → Does (.pwrPdCtrlWrite q v) s fun t => evtSet t bPWR 2 = true ∧ Noted (u.wg Reg.PWR_PD_RESULT 0 0 (at_ 0 5 0 ||| at_ 8 4 6)) t))
      ∧ (s.variant.hasDomain d = true → bit s.pdCtrl d ≠ on → v = setBit s.pdCtrl d on →
        (s.tempHold = true → Does (.pwrPdCtrlWrite q v) s fun t => evtSet t bPWR 2 = true ∧ Noted (u.wg Reg.PWR_PD_RESULT 0 0 (at_ 0 5 d ||| at_ 8 4 6)) t)
        ∧ (s.tempHold = false → s.pdRefusal d on = some n → Does (.pwrPdCtrlWrite q v) s fun t => evtSet t bPWR 2 = true
          ∧ Noted (u.wg Reg.PWR_PD_RESULT 0 0 (at_ 0 5 d ||| at_ 8 4 n)) t)
        ∧ (s.tempHold = false → s.pdRefusal d on = none → s.pdBusy d = false → s.pdOn d ≠ on → Does (.pwrPdCtrlWrite q v) s fun t => bit t.pdCtrl d = on
          ∧ (d.val, on) ∈ t.pwr.goal ∧ t.pdBusy d = true ∧ t.pdOn d = false)))
    ∧ ((∀ e ∈ s.pwr.goal, e.1 ≠ d.val) → exec (.domainTransitionComplete d) s = .next (s.put s.toDev s.latched))
    ∧ (s.pwr.goal.find? (fun e => e.1 == d.val) = some (d.val, on) → bit s.pdCtrl d = on →
      (on = true → 20 ≤ d.val → d.val < 28 → (d.val - 20) ∉ s.pwr.pg → exec (.domainTransitionComplete d) s = .next (s.put s.toDev s.latched))
      ∧ (on = false ∨ d.val < 20 ∨ 28 ≤ d.val ∨ (d.val - 20) ∈ s.pwr.pg → (on = false → s.pdOn d = false) → Does (.domainTransitionComplete d) s fun t => t.pdBusy d = false
        ∧ (on = true → t.pdOn d = true ∧ evtSet t bPWR 0 = true) ∧ (on = false → t.pdOn d = false ∧ evtSet t bPWR 1 = true)
        ∧ (∀ x, (d.val, x) ∉ t.pwr.goal)))

/-- R470, R471: a write of TOP_RESET with F_DIE stops the device and brings the F-die to its first-use state, with LAST_RESET 2, the T-die kept; its end lifts the stop, unless only a device reset may, with PWR event 6. DEVICE resets both dies, keeping flash, fuses, clock and link, with LAST_RESET 1 and STAGE 1; thermal shutdown refuses it with TOP event 1. CCA or CCB, and a complex's watchdog, stop that complex, which drops the Call. BLOCK resets the block's registers, its wings and mailbox; that of TOP, PWR, CUE, CCX and INT is refused with event 1. AON power-on leaves flash and fuses. -/
def Obligations.ResetsAct : Prop :=
  ∀ (s : State) (q : Req) (v : W32) (u : Dev) (x : Fin 2) (b : Nat) (keeps : Dev → Prop),
    keeps = (fun t => t.upd.slots = s.upd.slots ∧ t.upd.boot = s.upd.boot ∧ t.upd.store0 = s.upd.store0 ∧ t.upd.store1 = s.upd.store1
      ∧ t.upd.fwFloor = s.upd.fwFloor ∧ t.upd.bookFloor = s.upd.bookFloor ∧ t.upd.revoked = s.upd.revoked ∧ t.upd.crash = s.upd.crash
      ∧ t.tm = (Dev.reset s.variant).tm ∧ { t.tbl with stepAt := 0 } = (Dev.reset s.variant).tbl ∧ t.rep0 = (Dev.reset s.variant).rep0 ∧ t.pbk = (Dev.reset s.variant).pbk
      ∧ t.objs = (Dev.reset s.variant).objs ∧ t.rings = [] ∧ t.stopped = false ∧ t.holder = 0 ∧ t.arming = (Dev.reset s.variant).arming) →
    (Reached s.toDev q Reg.TOP_RESET 0 0 → s.arming.get q = true → u = disarmed s.toDev q →
      (bit v 1 = false → bit v 2 = false → bit v 3 = false → bit v 13 = false →
        (s.bases = false → Does (.fDieReset q v) s (Noted u))
        ∧ (s.bases = true → Does (.fDieReset q v) s fun t => t.stopped = true ∧ t.rf Reg.TOP_BOOT 0 0 8 4 = 2 ∧ t.pwr.fDie = true ∧ t.ing = {} ∧ t.rep0 = {} ∧ t.rep1 = {}
          ∧ t.ports = [] ∧ (∀ d < 20, t.pdOn d = false ∧ t.pdBusy d = false) ∧ t.tbl.groups = s.tbl.groups ∧ t.cue.sec = s.cue.sec ∧ t.hbm.mem = s.hbm.mem ∧ t.upd = s.upd))
      ∧ (s.tempHold = true → Does (.deviceReset q v) s fun t => evtSet t bTOP 1 = true ∧ Noted u t)
      ∧ (s.tempHold = false → Does (.deviceReset q v) s fun t => keeps t ∧ t.bases = true ∧ t.rf Reg.TOP_BOOT 0 0 8 4 = 1 ∧ t.rf Reg.TOP_BOOT 0 0 0 3 = 1
        ∧ t.cue.sec = s.cue.sec ∧ t.cue.ns = s.cue.ns ∧ t.pci.busMaster = s.pci.busMaster ∧ t.pci.link = s.pci.link)
      ∧ (bit v 0 = false → bit v 1 = false → bit v 13 = false →
        (bit v 3 = false → Does (.ccaReset q v) s fun t => t.ccRuns 0 = false ∧ t.ccState 0 = 1 ∧ t.holder = (if s.holder = 1 then 0 else s.holder) ∧ t.upd = s.upd)
        ∧ (bit v 2 = false → Does (.ccbReset q v) s fun t => t.ccRuns 1 = false ∧ t.ccState 1 = 1 ∧ t.holder = (if s.holder = 2 then 0 else s.holder) ∧ t.upd = s.upd))
      ∧ (bit v 0 = false → bit v 1 = false → bit v 2 = false → bit v 3 = false → b = fld v 8 5 →
        (b ∈ [bTOP, bPWR, bCUE, bCCX, bINT] → Does (.blockReset q v) s fun t => evtSet t bTOP 1 = true ∧ Noted u t)
        ∧ (b ∉ [bTOP, bPWR, bCUE, bCCX, bINT] → nBlocks ≤ b ∨ s.absentAt (b * windowSize) = true → Does (.blockReset q v) s (Noted u))
        ∧ (b ∉ [bTOP, bPWR, bCUE, bCCX, bINT] → b < nBlocks → s.absentAt (b * windowSize) = false → Does (.blockReset q v) s fun t =>
          t.rg Reg.MBX_STATUS 0 b = 0 ∧ t.rg Reg.WING_PEND 0 b = 0 ∧ (∀ a, a / windowSize = b → listed t.wings a = none) ∧ listed t.mbx b = none
            ∧ t.rg Reg.EVT_MASK 0 b &&& Reg.EVT_MASK.rw = Reg.EVT_MASK.reset b &&& Reg.EVT_MASK.rw)))
    ∧ (s.pwr.fDie = false ∨ s.pwr.installing = false ∨ s.pbkBusy = true ∨ (s.pbkState ≠ 1 ∧ s.pbk.inForce.isSome = true) →
      exec .fDieResetComplete s = .next (s.put s.toDev s.latched))
    ∧ (s.pwr.fDie = true → s.pwr.installing = true → s.pbkBusy = false → (s.pbkState = 1 ∨ s.pbk.inForce = none) → Does .fDieResetComplete s fun t =>
      t.pwr.fDie = false ∧ t.pwr.installing = false ∧ evtSet t bPWR 6 = true ∧ t.stopped = (s.pwr.hardStop && s.stopped))
    ∧ (s.ccRuns x = false → exec (.complexWatchdog x) s = .next (s.put s.toDev s.latched))
    ∧ (s.ccRuns x = true → Does (.complexWatchdog x) s fun t => t.ccRuns x = false ∧ t.ccState x = 1 ∧ t.holder = (if s.holder = x.val + 1 then 0 else s.holder) ∧ t.upd = s.upd)
    ∧ Does .aonPowerOn s fun t => keeps t ∧ t.regs = (Dev.reset s.variant).regs ∧ t.cue = (Dev.reset s.variant).cue ∧ t.pci = (Dev.reset s.variant).pci ∧ t.bases = false

/-- R474–R476, R489, R495: the samples of both dies are shown, the hottest of each; a rise to WARN sets event 3, an invalid sample event 5. Two samples in a row at or above TSHUT, with EN, or a die without a valid sample, shut the device down: it stops, every switched domain but the complexes' goes off, HOLD and event 4 are set, LAST_RESET is 3. A rail that falls is shown: it stops the device, or a complex, or, VDD_AON, everything; the last F-die rail back in tolerance resets the F-die. A test instruction that drives the pins stops the device. -/
def Obligations.SupervisionActs : Prop :=
  ∀ (s : State) (a c : Byte) (f : List (Option Byte)) (die : Bool) (r : Fin 10) (i : Tap) (warn : Nat) (hot : Prop) (shut : Dev → Prop),
    warn = s.rf Reg.PWR_THERM 0 0 0 8 →
    shut = (fun t => t.tempHold = true ∧ t.stopped = true ∧ t.pwr.hardStop = true ∧ evtSet t bPWR 4 = true ∧ t.rf Reg.TOP_BOOT 0 0 8 4 = 3
      ∧ ∀ d < 30, s.variant.hasDomain d = true → t.pdOn d = false ∧ t.pdBusy d = false ∧ bit t.pdCtrl d = false) →
    hot = (s.tshut ≤ a.toNat ∧ s.pwr.hotF ≠ 0 ∨ s.tshut ≤ c.toNat ∧ s.pwr.hotT ≠ 0) →
    (s.bases = false → exec (.thermalSample f f) s = .next (s.put s.toDev s.latched) ∧ exec (.sensorSilence die) s = .next (s.put s.toDev s.latched))
    ∧ (s.bases = true →
      (¬ hot ∨ s.thermEn = false → Does (.thermalSample (List.replicate 24 (some a)) (List.replicate 16 (some c))) s fun t =>
        t.rf Reg.PWR_TEMP 0 0 0 8 = a.toNat ∧ t.rf Reg.PWR_TEMP 0 0 8 8 = c.toNat ∧ t.rf Reg.PWR_TEMP 0 0 16 2 = 3 ∧ t.stopped = s.stopped
          ∧ t.pwr.warmF = decide (warn ≤ a.toNat) ∧ t.pwr.warmT = decide (warn ≤ c.toNat)
          ∧ ((warn ≤ a.toNat ∧ s.pwr.warmF = false ∨ warn ≤ c.toNat ∧ s.pwr.warmT = false) → evtSet t bPWR 3 = true))
      ∧ (hot → s.thermEn = true → s.tempHold = false → Does (.thermalSample (List.replicate 24 (some a)) (List.replicate 16 (some c))) s shut)
      ∧ (none ∈ f.take 16 → s.thermEn = false → Does (.thermalSample f f) s fun t => evtSet t bPWR 5 = true)
      ∧ (bit (s.rg Reg.PWR_TEMP 0 0) (if die = true then 17 else 16) = true → exec (.sensorSilence die) s = .next (s.put s.toDev s.latched))
      ∧ (bit (s.rg Reg.PWR_TEMP 0 0) (if die = true then 17 else 16) = false → s.tempHold = false → Does (.sensorSilence die) s shut))
    ∧ (r.val = 9 → Does (.railLoss r) s fun t => t.regs = (Dev.reset s.variant).regs ∧ t.tm = (Dev.reset s.variant).tm ∧ t.upd.slots = s.upd.slots ∧ t.bases = false)
    ∧ (r.val ≠ 9 → Does (.railLoss r) s fun t => r.val ∈ t.pwr.low ∧ (r.val < 7 → bit (t.rg Reg.PWR_RAIL_STATUS 0 0) r = true)
      ∧ (r.val < 6 → t.stopped = true) ∧ (3 ≤ r.val → r.val < 6 → t.pwr.hardStop = true)
      ∧ (6 ≤ r.val → t.stopped = s.stopped ∧ t.tm = s.tm) ∧ (7 ≤ r.val → t.ccRuns (r.val - 7) = false ∧ t.ccState (r.val - 7) = 0))
    ∧ (r.val ∉ s.pwr.low → exec (.railInTolerance r) s = .next (s.put s.toDev s.latched))
    ∧ (r.val ∈ s.pwr.low →
      (3 ≤ r.val ∨ (∃ x ∈ s.pwr.low, x < 3 ∧ x ≠ r.val) → exec (.railInTolerance r) s = .next (s.put { s.toDev with pwr := { s.pwr with low := delKey s.pwr.low r } } s.latched))
      ∧ (r.val < 3 → (∀ x ∈ s.pwr.low, x < 3 → x = r.val) → s.bases = true → Does (.railInTolerance r) s fun t => t.pwr.fDie = true ∧ t.stopped = true
        ∧ t.rf Reg.TOP_BOOT 0 0 8 4 = 2 ∧ t.rep0 = {} ∧ r.val ∉ t.pwr.low))
    ∧ (i = .bypass ∨ i = .idcode ∨ i = .samplePreload → exec (.tapInstruction i) s = .next (s.put s.toDev s.latched))
    ∧ (i ≠ .bypass → i ≠ .idcode → i ≠ .samplePreload → Does (.tapInstruction i) s fun t => t.stopped = true ∧ t.pwr.hardStop = true)
end

