-- ==== Sys2Proof/Laws/State.lean ====
section
/-! SUPPORT. One lemma for each field and each elementary update of the device: what the update leaves, by definition. -/
namespace Sys2Proof.Machine

/-! ### wg -/

@[simp] theorem Dev.wg_variant (s : Dev) (r : RegDesc) (c i : Nat) (v : W32) : (s.wg r c i v).variant = s.variant := rfl
@[simp] theorem Dev.wg_wings (s : Dev) (r : RegDesc) (c i : Nat) (v : W32) : (s.wg r c i v).wings = s.wings := rfl
@[simp] theorem Dev.wg_objs (s : Dev) (r : RegDesc) (c i : Nat) (v : W32) : (s.wg r c i v).objs = s.objs := rfl
@[simp] theorem Dev.wg_objWings (s : Dev) (r : RegDesc) (c i : Nat) (v : W32) : (s.wg r c i v).objWings = s.objWings := rfl
@[simp] theorem Dev.wg_ctr (s : Dev) (r : RegDesc) (c i : Nat) (v : W32) : (s.wg r c i v).ctr = s.ctr := rfl
@[simp] theorem Dev.wg_mbx (s : Dev) (r : RegDesc) (c i : Nat) (v : W32) : (s.wg r c i v).mbx = s.mbx := rfl
@[simp] theorem Dev.wg_arming (s : Dev) (r : RegDesc) (c i : Nat) (v : W32) : (s.wg r c i v).arming = s.arming := rfl
@[simp] theorem Dev.wg_bases (s : Dev) (r : RegDesc) (c i : Nat) (v : W32) : (s.wg r c i v).bases = s.bases := rfl
@[simp] theorem Dev.wg_cue (s : Dev) (r : RegDesc) (c i : Nat) (v : W32) : (s.wg r c i v).cue = s.cue := rfl
@[simp] theorem Dev.wg_tab (s : Dev) (r : RegDesc) (c i : Nat) (v : W32) : (s.wg r c i v).tab = s.tab := rfl
@[simp] theorem Dev.wg_rings (s : Dev) (r : RegDesc) (c i : Nat) (v : W32) : (s.wg r c i v).rings = s.rings := rfl
@[simp] theorem Dev.wg_pci (s : Dev) (r : RegDesc) (c i : Nat) (v : W32) : (s.wg r c i v).pci = s.pci := rfl
@[simp] theorem Dev.wg_i2c (s : Dev) (r : RegDesc) (c i : Nat) (v : W32) : (s.wg r c i v).i2c = s.i2c := rfl
@[simp] theorem Dev.wg_cageWait (s : Dev) (r : RegDesc) (c i : Nat) (v : W32) : (s.wg r c i v).cageWait = s.cageWait := rfl
@[simp] theorem Dev.wg_ccx (s : Dev) (r : RegDesc) (c i : Nat) (v : W32) : (s.wg r c i v).ccx = s.ccx := rfl
@[simp] theorem Dev.wg_int (s : Dev) (r : RegDesc) (c i : Nat) (v : W32) : (s.wg r c i v).int = s.int := rfl
@[simp] theorem Dev.wg_pmc (s : Dev) (r : RegDesc) (c i : Nat) (v : W32) : (s.wg r c i v).pmc = s.pmc := rfl
@[simp] theorem Dev.wg_pmcRun (s : Dev) (r : RegDesc) (c i : Nat) (v : W32) : (s.wg r c i v).pmcRun = s.pmcRun := rfl
@[simp] theorem Dev.wg_sta (s : Dev) (r : RegDesc) (c i : Nat) (v : W32) : (s.wg r c i v).sta = s.sta := rfl
@[simp] theorem Dev.wg_ports (s : Dev) (r : RegDesc) (c i : Nat) (v : W32) : (s.wg r c i v).ports = s.ports := rfl
@[simp] theorem Dev.wg_otf (s : Dev) (r : RegDesc) (c i : Nat) (v : W32) : (s.wg r c i v).otf = s.otf := rfl
@[simp] theorem Dev.wg_lci (s : Dev) (r : RegDesc) (c i : Nat) (v : W32) : (s.wg r c i v).lci = s.lci := rfl
@[simp] theorem Dev.wg_pbk (s : Dev) (r : RegDesc) (c i : Nat) (v : W32) : (s.wg r c i v).pbk = s.pbk := rfl
@[simp] theorem Dev.wg_rep0 (s : Dev) (r : RegDesc) (c i : Nat) (v : W32) : (s.wg r c i v).rep0 = s.rep0 := rfl
@[simp] theorem Dev.wg_rep1 (s : Dev) (r : RegDesc) (c i : Nat) (v : W32) : (s.wg r c i v).rep1 = s.rep1 := rfl
@[simp] theorem Dev.wg_intent (s : Dev) (r : RegDesc) (c i : Nat) (v : W32) : (s.wg r c i v).intent = s.intent := rfl
@[simp] theorem Dev.wg_tbl (s : Dev) (r : RegDesc) (c i : Nat) (v : W32) : (s.wg r c i v).tbl = s.tbl := rfl
@[simp] theorem Dev.wg_tm (s : Dev) (r : RegDesc) (c i : Nat) (v : W32) : (s.wg r c i v).tm = s.tm := rfl
@[simp] theorem Dev.wg_ing (s : Dev) (r : RegDesc) (c i : Nat) (v : W32) : (s.wg r c i v).ing = s.ing := rfl
@[simp] theorem Dev.wg_hbm (s : Dev) (r : RegDesc) (c i : Nat) (v : W32) : (s.wg r c i v).hbm = s.hbm := rfl
@[simp] theorem Dev.wg_upd (s : Dev) (r : RegDesc) (c i : Nat) (v : W32) : (s.wg r c i v).upd = s.upd := rfl
@[simp] theorem Dev.wg_pwr (s : Dev) (r : RegDesc) (c i : Nat) (v : W32) : (s.wg r c i v).pwr = s.pwr := rfl
@[simp] theorem Dev.wg_dvtFT (s : Dev) (r : RegDesc) (c i : Nat) (v : W32) : (s.wg r c i v).dvtFT = s.dvtFT := rfl
@[simp] theorem Dev.wg_dvtTF (s : Dev) (r : RegDesc) (c i : Nat) (v : W32) : (s.wg r c i v).dvtTF = s.dvtTF := rfl
@[simp] theorem Dev.wg_freeCtr (s : Dev) (r : RegDesc) (c i : Nat) (v : W32) : (s.wg r c i v).freeCtr = s.freeCtr := rfl
@[simp] theorem Dev.wg_out (s : Dev) (r : RegDesc) (c i : Nat) (v : W32) : (s.wg r c i v).out = s.out := rfl

/-! ### wf -/

@[simp] theorem Dev.wf_variant (s : Dev) (r : RegDesc) (c i lo len v : Nat) : (s.wf r c i lo len v).variant = s.variant := rfl
@[simp] theorem Dev.wf_wings (s : Dev) (r : RegDesc) (c i lo len v : Nat) : (s.wf r c i lo len v).wings = s.wings := rfl
@[simp] theorem Dev.wf_objs (s : Dev) (r : RegDesc) (c i lo len v : Nat) : (s.wf r c i lo len v).objs = s.objs := rfl
@[simp] theorem Dev.wf_objWings (s : Dev) (r : RegDesc) (c i lo len v : Nat) : (s.wf r c i lo len v).objWings = s.objWings := rfl
@[simp] theorem Dev.wf_ctr (s : Dev) (r : RegDesc) (c i lo len v : Nat) : (s.wf r c i lo len v).ctr = s.ctr := rfl
@[simp] theorem Dev.wf_mbx (s : Dev) (r : RegDesc) (c i lo len v : Nat) : (s.wf r c i lo len v).mbx = s.mbx := rfl
@[simp] theorem Dev.wf_arming (s : Dev) (r : RegDesc) (c i lo len v : Nat) : (s.wf r c i lo len v).arming = s.arming := rfl
@[simp] theorem Dev.wf_bases (s : Dev) (r : RegDesc) (c i lo len v : Nat) : (s.wf r c i lo len v).bases = s.bases := rfl
@[simp] theorem Dev.wf_cue (s : Dev) (r : RegDesc) (c i lo len v : Nat) : (s.wf r c i lo len v).cue = s.cue := rfl
@[simp] theorem Dev.wf_tab (s : Dev) (r : RegDesc) (c i lo len v : Nat) : (s.wf r c i lo len v).tab = s.tab := rfl
@[simp] theorem Dev.wf_rings (s : Dev) (r : RegDesc) (c i lo len v : Nat) : (s.wf r c i lo len v).rings = s.rings := rfl
@[simp] theorem Dev.wf_pci (s : Dev) (r : RegDesc) (c i lo len v : Nat) : (s.wf r c i lo len v).pci = s.pci := rfl
@[simp] theorem Dev.wf_i2c (s : Dev) (r : RegDesc) (c i lo len v : Nat) : (s.wf r c i lo len v).i2c = s.i2c := rfl
@[simp] theorem Dev.wf_cageWait (s : Dev) (r : RegDesc) (c i lo len v : Nat) : (s.wf r c i lo len v).cageWait = s.cageWait := rfl
@[simp] theorem Dev.wf_ccx (s : Dev) (r : RegDesc) (c i lo len v : Nat) : (s.wf r c i lo len v).ccx = s.ccx := rfl
@[simp] theorem Dev.wf_int (s : Dev) (r : RegDesc) (c i lo len v : Nat) : (s.wf r c i lo len v).int = s.int := rfl
@[simp] theorem Dev.wf_pmc (s : Dev) (r : RegDesc) (c i lo len v : Nat) : (s.wf r c i lo len v).pmc = s.pmc := rfl
@[simp] theorem Dev.wf_pmcRun (s : Dev) (r : RegDesc) (c i lo len v : Nat) : (s.wf r c i lo len v).pmcRun = s.pmcRun := rfl
@[simp] theorem Dev.wf_sta (s : Dev) (r : RegDesc) (c i lo len v : Nat) : (s.wf r c i lo len v).sta = s.sta := rfl
@[simp] theorem Dev.wf_ports (s : Dev) (r : RegDesc) (c i lo len v : Nat) : (s.wf r c i lo len v).ports = s.ports := rfl
@[simp] theorem Dev.wf_otf (s : Dev) (r : RegDesc) (c i lo len v : Nat) : (s.wf r c i lo len v).otf = s.otf := rfl
@[simp] theorem Dev.wf_lci (s : Dev) (r : RegDesc) (c i lo len v : Nat) : (s.wf r c i lo len v).lci = s.lci := rfl
@[simp] theorem Dev.wf_pbk (s : Dev) (r : RegDesc) (c i lo len v : Nat) : (s.wf r c i lo len v).pbk = s.pbk := rfl
@[simp] theorem Dev.wf_rep0 (s : Dev) (r : RegDesc) (c i lo len v : Nat) : (s.wf r c i lo len v).rep0 = s.rep0 := rfl
@[simp] theorem Dev.wf_rep1 (s : Dev) (r : RegDesc) (c i lo len v : Nat) : (s.wf r c i lo len v).rep1 = s.rep1 := rfl
@[simp] theorem Dev.wf_intent (s : Dev) (r : RegDesc) (c i lo len v : Nat) : (s.wf r c i lo len v).intent = s.intent := rfl
@[simp] theorem Dev.wf_tbl (s : Dev) (r : RegDesc) (c i lo len v : Nat) : (s.wf r c i lo len v).tbl = s.tbl := rfl
@[simp] theorem Dev.wf_tm (s : Dev) (r : RegDesc) (c i lo len v : Nat) : (s.wf r c i lo len v).tm = s.tm := rfl
@[simp] theorem Dev.wf_ing (s : Dev) (r : RegDesc) (c i lo len v : Nat) : (s.wf r c i lo len v).ing = s.ing := rfl
@[simp] theorem Dev.wf_hbm (s : Dev) (r : RegDesc) (c i lo len v : Nat) : (s.wf r c i lo len v).hbm = s.hbm := rfl
@[simp] theorem Dev.wf_upd (s : Dev) (r : RegDesc) (c i lo len v : Nat) : (s.wf r c i lo len v).upd = s.upd := rfl
@[simp] theorem Dev.wf_pwr (s : Dev) (r : RegDesc) (c i lo len v : Nat) : (s.wf r c i lo len v).pwr = s.pwr := rfl
@[simp] theorem Dev.wf_dvtFT (s : Dev) (r : RegDesc) (c i lo len v : Nat) : (s.wf r c i lo len v).dvtFT = s.dvtFT := rfl
@[simp] theorem Dev.wf_dvtTF (s : Dev) (r : RegDesc) (c i lo len v : Nat) : (s.wf r c i lo len v).dvtTF = s.dvtTF := rfl
@[simp] theorem Dev.wf_freeCtr (s : Dev) (r : RegDesc) (c i lo len v : Nat) : (s.wf r c i lo len v).freeCtr = s.freeCtr := rfl
@[simp] theorem Dev.wf_out (s : Dev) (r : RegDesc) (c i lo len v : Nat) : (s.wf r c i lo len v).out = s.out := rfl

/-! ### bumpReg -/

@[simp] theorem Dev.bumpReg_variant (s : Dev) (r : RegDesc) (c i n : Nat) : (s.bumpReg r c i n).variant = s.variant := rfl
@[simp] theorem Dev.bumpReg_wings (s : Dev) (r : RegDesc) (c i n : Nat) : (s.bumpReg r c i n).wings = s.wings := rfl
@[simp] theorem Dev.bumpReg_objs (s : Dev) (r : RegDesc) (c i n : Nat) : (s.bumpReg r c i n).objs = s.objs := rfl
@[simp] theorem Dev.bumpReg_objWings (s : Dev) (r : RegDesc) (c i n : Nat) : (s.bumpReg r c i n).objWings = s.objWings := rfl
@[simp] theorem Dev.bumpReg_ctr (s : Dev) (r : RegDesc) (c i n : Nat) : (s.bumpReg r c i n).ctr = s.ctr := rfl
@[simp] theorem Dev.bumpReg_mbx (s : Dev) (r : RegDesc) (c i n : Nat) : (s.bumpReg r c i n).mbx = s.mbx := rfl
@[simp] theorem Dev.bumpReg_arming (s : Dev) (r : RegDesc) (c i n : Nat) : (s.bumpReg r c i n).arming = s.arming := rfl
@[simp] theorem Dev.bumpReg_bases (s : Dev) (r : RegDesc) (c i n : Nat) : (s.bumpReg r c i n).bases = s.bases := rfl
@[simp] theorem Dev.bumpReg_cue (s : Dev) (r : RegDesc) (c i n : Nat) : (s.bumpReg r c i n).cue = s.cue := rfl
@[simp] theorem Dev.bumpReg_tab (s : Dev) (r : RegDesc) (c i n : Nat) : (s.bumpReg r c i n).tab = s.tab := rfl
@[simp] theorem Dev.bumpReg_rings (s : Dev) (r : RegDesc) (c i n : Nat) : (s.bumpReg r c i n).rings = s.rings := rfl
@[simp] theorem Dev.bumpReg_pci (s : Dev) (r : RegDesc) (c i n : Nat) : (s.bumpReg r c i n).pci = s.pci := rfl
@[simp] theorem Dev.bumpReg_i2c (s : Dev) (r : RegDesc) (c i n : Nat) : (s.bumpReg r c i n).i2c = s.i2c := rfl
@[simp] theorem Dev.bumpReg_cageWait (s : Dev) (r : RegDesc) (c i n : Nat) : (s.bumpReg r c i n).cageWait = s.cageWait := rfl
@[simp] theorem Dev.bumpReg_ccx (s : Dev) (r : RegDesc) (c i n : Nat) : (s.bumpReg r c i n).ccx = s.ccx := rfl
@[simp] theorem Dev.bumpReg_int (s : Dev) (r : RegDesc) (c i n : Nat) : (s.bumpReg r c i n).int = s.int := rfl
@[simp] theorem Dev.bumpReg_pmc (s : Dev) (r : RegDesc) (c i n : Nat) : (s.bumpReg r c i n).pmc = s.pmc := rfl
@[simp] theorem Dev.bumpReg_pmcRun (s : Dev) (r : RegDesc) (c i n : Nat) : (s.bumpReg r c i n).pmcRun = s.pmcRun := rfl
@[simp] theorem Dev.bumpReg_sta (s : Dev) (r : RegDesc) (c i n : Nat) : (s.bumpReg r c i n).sta = s.sta := rfl
@[simp] theorem Dev.bumpReg_ports (s : Dev) (r : RegDesc) (c i n : Nat) : (s.bumpReg r c i n).ports = s.ports := rfl
@[simp] theorem Dev.bumpReg_otf (s : Dev) (r : RegDesc) (c i n : Nat) : (s.bumpReg r c i n).otf = s.otf := rfl
@[simp] theorem Dev.bumpReg_lci (s : Dev) (r : RegDesc) (c i n : Nat) : (s.bumpReg r c i n).lci = s.lci := rfl
@[simp] theorem Dev.bumpReg_pbk (s : Dev) (r : RegDesc) (c i n : Nat) : (s.bumpReg r c i n).pbk = s.pbk := rfl
@[simp] theorem Dev.bumpReg_rep0 (s : Dev) (r : RegDesc) (c i n : Nat) : (s.bumpReg r c i n).rep0 = s.rep0 := rfl
@[simp] theorem Dev.bumpReg_rep1 (s : Dev) (r : RegDesc) (c i n : Nat) : (s.bumpReg r c i n).rep1 = s.rep1 := rfl
@[simp] theorem Dev.bumpReg_intent (s : Dev) (r : RegDesc) (c i n : Nat) : (s.bumpReg r c i n).intent = s.intent := rfl
@[simp] theorem Dev.bumpReg_tbl (s : Dev) (r : RegDesc) (c i n : Nat) : (s.bumpReg r c i n).tbl = s.tbl := rfl
@[simp] theorem Dev.bumpReg_tm (s : Dev) (r : RegDesc) (c i n : Nat) : (s.bumpReg r c i n).tm = s.tm := rfl
@[simp] theorem Dev.bumpReg_ing (s : Dev) (r : RegDesc) (c i n : Nat) : (s.bumpReg r c i n).ing = s.ing := rfl
@[simp] theorem Dev.bumpReg_hbm (s : Dev) (r : RegDesc) (c i n : Nat) : (s.bumpReg r c i n).hbm = s.hbm := rfl
@[simp] theorem Dev.bumpReg_upd (s : Dev) (r : RegDesc) (c i n : Nat) : (s.bumpReg r c i n).upd = s.upd := rfl
@[simp] theorem Dev.bumpReg_pwr (s : Dev) (r : RegDesc) (c i n : Nat) : (s.bumpReg r c i n).pwr = s.pwr := rfl
@[simp] theorem Dev.bumpReg_dvtFT (s : Dev) (r : RegDesc) (c i n : Nat) : (s.bumpReg r c i n).dvtFT = s.dvtFT := rfl
@[simp] theorem Dev.bumpReg_dvtTF (s : Dev) (r : RegDesc) (c i n : Nat) : (s.bumpReg r c i n).dvtTF = s.dvtTF := rfl
@[simp] theorem Dev.bumpReg_freeCtr (s : Dev) (r : RegDesc) (c i n : Nat) : (s.bumpReg r c i n).freeCtr = s.freeCtr := rfl
@[simp] theorem Dev.bumpReg_out (s : Dev) (r : RegDesc) (c i n : Nat) : (s.bumpReg r c i n).out = s.out := rfl

/-! ### setWing -/

@[simp] theorem Dev.setWing_variant (s : Dev) (r : RegDesc) (c i : Nat) (v : W32) : (s.setWing r c i v).variant = s.variant := rfl
@[simp] theorem Dev.setWing_regs (s : Dev) (r : RegDesc) (c i : Nat) (v : W32) : (s.setWing r c i v).regs = s.regs := rfl
@[simp] theorem Dev.setWing_objs (s : Dev) (r : RegDesc) (c i : Nat) (v : W32) : (s.setWing r c i v).objs = s.objs := rfl
@[simp] theorem Dev.setWing_objWings (s : Dev) (r : RegDesc) (c i : Nat) (v : W32) : (s.setWing r c i v).objWings = s.objWings := rfl
@[simp] theorem Dev.setWing_ctr (s : Dev) (r : RegDesc) (c i : Nat) (v : W32) : (s.setWing r c i v).ctr = s.ctr := rfl
@[simp] theorem Dev.setWing_mbx (s : Dev) (r : RegDesc) (c i : Nat) (v : W32) : (s.setWing r c i v).mbx = s.mbx := rfl
@[simp] theorem Dev.setWing_arming (s : Dev) (r : RegDesc) (c i : Nat) (v : W32) : (s.setWing r c i v).arming = s.arming := rfl
@[simp] theorem Dev.setWing_bases (s : Dev) (r : RegDesc) (c i : Nat) (v : W32) : (s.setWing r c i v).bases = s.bases := rfl
@[simp] theorem Dev.setWing_cue (s : Dev) (r : RegDesc) (c i : Nat) (v : W32) : (s.setWing r c i v).cue = s.cue := rfl
@[simp] theorem Dev.setWing_tab (s : Dev) (r : RegDesc) (c i : Nat) (v : W32) : (s.setWing r c i v).tab = s.tab := rfl
@[simp] theorem Dev.setWing_rings (s : Dev) (r : RegDesc) (c i : Nat) (v : W32) : (s.setWing r c i v).rings = s.rings := rfl
@[simp] theorem Dev.setWing_pci (s : Dev) (r : RegDesc) (c i : Nat) (v : W32) : (s.setWing r c i v).pci = s.pci := rfl
@[simp] theorem Dev.setWing_i2c (s : Dev) (r : RegDesc) (c i : Nat) (v : W32) : (s.setWing r c i v).i2c = s.i2c := rfl
@[simp] theorem Dev.setWing_cageWait (s : Dev) (r : RegDesc) (c i : Nat) (v : W32) : (s.setWing r c i v).cageWait = s.cageWait := rfl
@[simp] theorem Dev.setWing_ccx (s : Dev) (r : RegDesc) (c i : Nat) (v : W32) : (s.setWing r c i v).ccx = s.ccx := rfl
@[simp] theorem Dev.setWing_int (s : Dev) (r : RegDesc) (c i : Nat) (v : W32) : (s.setWing r c i v).int = s.int := rfl
@[simp] theorem Dev.setWing_pmc (s : Dev) (r : RegDesc) (c i : Nat) (v : W32) : (s.setWing r c i v).pmc = s.pmc := rfl
@[simp] theorem Dev.setWing_pmcRun (s : Dev) (r : RegDesc) (c i : Nat) (v : W32) : (s.setWing r c i v).pmcRun = s.pmcRun := rfl
@[simp] theorem Dev.setWing_sta (s : Dev) (r : RegDesc) (c i : Nat) (v : W32) : (s.setWing r c i v).sta = s.sta := rfl
@[simp] theorem Dev.setWing_ports (s : Dev) (r : RegDesc) (c i : Nat) (v : W32) : (s.setWing r c i v).ports = s.ports := rfl
@[simp] theorem Dev.setWing_otf (s : Dev) (r : RegDesc) (c i : Nat) (v : W32) : (s.setWing r c i v).otf = s.otf := rfl
@[simp] theorem Dev.setWing_lci (s : Dev) (r : RegDesc) (c i : Nat) (v : W32) : (s.setWing r c i v).lci = s.lci := rfl
@[simp] theorem Dev.setWing_pbk (s : Dev) (r : RegDesc) (c i : Nat) (v : W32) : (s.setWing r c i v).pbk = s.pbk := rfl
@[simp] theorem Dev.setWing_rep0 (s : Dev) (r : RegDesc) (c i : Nat) (v : W32) : (s.setWing r c i v).rep0 = s.rep0 := rfl
@[simp] theorem Dev.setWing_rep1 (s : Dev) (r : RegDesc) (c i : Nat) (v : W32) : (s.setWing r c i v).rep1 = s.rep1 := rfl
@[simp] theorem Dev.setWing_intent (s : Dev) (r : RegDesc) (c i : Nat) (v : W32) : (s.setWing r c i v).intent = s.intent := rfl
@[simp] theorem Dev.setWing_tbl (s : Dev) (r : RegDesc) (c i : Nat) (v : W32) : (s.setWing r c i v).tbl = s.tbl := rfl
@[simp] theorem Dev.setWing_tm (s : Dev) (r : RegDesc) (c i : Nat) (v : W32) : (s.setWing r c i v).tm = s.tm := rfl
@[simp] theorem Dev.setWing_ing (s : Dev) (r : RegDesc) (c i : Nat) (v : W32) : (s.setWing r c i v).ing = s.ing := rfl
@[simp] theorem Dev.setWing_hbm (s : Dev) (r : RegDesc) (c i : Nat) (v : W32) : (s.setWing r c i v).hbm = s.hbm := rfl
@[simp] theorem Dev.setWing_upd (s : Dev) (r : RegDesc) (c i : Nat) (v : W32) : (s.setWing r c i v).upd = s.upd := rfl
@[simp] theorem Dev.setWing_pwr (s : Dev) (r : RegDesc) (c i : Nat) (v : W32) : (s.setWing r c i v).pwr = s.pwr := rfl
@[simp] theorem Dev.setWing_dvtFT (s : Dev) (r : RegDesc) (c i : Nat) (v : W32) : (s.setWing r c i v).dvtFT = s.dvtFT := rfl
@[simp] theorem Dev.setWing_dvtTF (s : Dev) (r : RegDesc) (c i : Nat) (v : W32) : (s.setWing r c i v).dvtTF = s.dvtTF := rfl
@[simp] theorem Dev.setWing_freeCtr (s : Dev) (r : RegDesc) (c i : Nat) (v : W32) : (s.setWing r c i v).freeCtr = s.freeCtr := rfl
@[simp] theorem Dev.setWing_out (s : Dev) (r : RegDesc) (c i : Nat) (v : W32) : (s.setWing r c i v).out = s.out := rfl

/-! ### setObj -/

@[simp] theorem Dev.setObj_variant (s : Dev) (b o i : Nat) (ws : List W32) : (s.setObj b o i ws).variant = s.variant := rfl
@[simp] theorem Dev.setObj_regs (s : Dev) (b o i : Nat) (ws : List W32) : (s.setObj b o i ws).regs = s.regs := rfl
@[simp] theorem Dev.setObj_wings (s : Dev) (b o i : Nat) (ws : List W32) : (s.setObj b o i ws).wings = s.wings := rfl
@[simp] theorem Dev.setObj_objWings (s : Dev) (b o i : Nat) (ws : List W32) : (s.setObj b o i ws).objWings = s.objWings := rfl
@[simp] theorem Dev.setObj_ctr (s : Dev) (b o i : Nat) (ws : List W32) : (s.setObj b o i ws).ctr = s.ctr := rfl
@[simp] theorem Dev.setObj_mbx (s : Dev) (b o i : Nat) (ws : List W32) : (s.setObj b o i ws).mbx = s.mbx := rfl
@[simp] theorem Dev.setObj_arming (s : Dev) (b o i : Nat) (ws : List W32) : (s.setObj b o i ws).arming = s.arming := rfl
@[simp] theorem Dev.setObj_bases (s : Dev) (b o i : Nat) (ws : List W32) : (s.setObj b o i ws).bases = s.bases := rfl
@[simp] theorem Dev.setObj_cue (s : Dev) (b o i : Nat) (ws : List W32) : (s.setObj b o i ws).cue = s.cue := rfl
@[simp] theorem Dev.setObj_tab (s : Dev) (b o i : Nat) (ws : List W32) : (s.setObj b o i ws).tab = s.tab := rfl
@[simp] theorem Dev.setObj_rings (s : Dev) (b o i : Nat) (ws : List W32) : (s.setObj b o i ws).rings = s.rings := rfl
@[simp] theorem Dev.setObj_pci (s : Dev) (b o i : Nat) (ws : List W32) : (s.setObj b o i ws).pci = s.pci := rfl
@[simp] theorem Dev.setObj_i2c (s : Dev) (b o i : Nat) (ws : List W32) : (s.setObj b o i ws).i2c = s.i2c := rfl
@[simp] theorem Dev.setObj_cageWait (s : Dev) (b o i : Nat) (ws : List W32) : (s.setObj b o i ws).cageWait = s.cageWait := rfl
@[simp] theorem Dev.setObj_ccx (s : Dev) (b o i : Nat) (ws : List W32) : (s.setObj b o i ws).ccx = s.ccx := rfl
@[simp] theorem Dev.setObj_int (s : Dev) (b o i : Nat) (ws : List W32) : (s.setObj b o i ws).int = s.int := rfl
@[simp] theorem Dev.setObj_pmc (s : Dev) (b o i : Nat) (ws : List W32) : (s.setObj b o i ws).pmc = s.pmc := rfl
@[simp] theorem Dev.setObj_pmcRun (s : Dev) (b o i : Nat) (ws : List W32) : (s.setObj b o i ws).pmcRun = s.pmcRun := rfl
@[simp] theorem Dev.setObj_sta (s : Dev) (b o i : Nat) (ws : List W32) : (s.setObj b o i ws).sta = s.sta := rfl
@[simp] theorem Dev.setObj_ports (s : Dev) (b o i : Nat) (ws : List W32) : (s.setObj b o i ws).ports = s.ports := rfl
@[simp] theorem Dev.setObj_otf (s : Dev) (b o i : Nat) (ws : List W32) : (s.setObj b o i ws).otf = s.otf := rfl
@[simp] theorem Dev.setObj_lci (s : Dev) (b o i : Nat) (ws : List W32) : (s.setObj b o i ws).lci = s.lci := rfl
@[simp] theorem Dev.setObj_pbk (s : Dev) (b o i : Nat) (ws : List W32) : (s.setObj b o i ws).pbk = s.pbk := rfl
@[simp] theorem Dev.setObj_rep0 (s : Dev) (b o i : Nat) (ws : List W32) : (s.setObj b o i ws).rep0 = s.rep0 := rfl
@[simp] theorem Dev.setObj_rep1 (s : Dev) (b o i : Nat) (ws : List W32) : (s.setObj b o i ws).rep1 = s.rep1 := rfl
@[simp] theorem Dev.setObj_intent (s : Dev) (b o i : Nat) (ws : List W32) : (s.setObj b o i ws).intent = s.intent := rfl
@[simp] theorem Dev.setObj_tbl (s : Dev) (b o i : Nat) (ws : List W32) : (s.setObj b o i ws).tbl = s.tbl := rfl
@[simp] theorem Dev.setObj_tm (s : Dev) (b o i : Nat) (ws : List W32) : (s.setObj b o i ws).tm = s.tm := rfl
@[simp] theorem Dev.setObj_ing (s : Dev) (b o i : Nat) (ws : List W32) : (s.setObj b o i ws).ing = s.ing := rfl
@[simp] theorem Dev.setObj_hbm (s : Dev) (b o i : Nat) (ws : List W32) : (s.setObj b o i ws).hbm = s.hbm := rfl
@[simp] theorem Dev.setObj_upd (s : Dev) (b o i : Nat) (ws : List W32) : (s.setObj b o i ws).upd = s.upd := rfl
@[simp] theorem Dev.setObj_pwr (s : Dev) (b o i : Nat) (ws : List W32) : (s.setObj b o i ws).pwr = s.pwr := rfl
@[simp] theorem Dev.setObj_dvtFT (s : Dev) (b o i : Nat) (ws : List W32) : (s.setObj b o i ws).dvtFT = s.dvtFT := rfl
@[simp] theorem Dev.setObj_dvtTF (s : Dev) (b o i : Nat) (ws : List W32) : (s.setObj b o i ws).dvtTF = s.dvtTF := rfl
@[simp] theorem Dev.setObj_freeCtr (s : Dev) (b o i : Nat) (ws : List W32) : (s.setObj b o i ws).freeCtr = s.freeCtr := rfl
@[simp] theorem Dev.setObj_out (s : Dev) (b o i : Nat) (ws : List W32) : (s.setObj b o i ws).out = s.out := rfl

/-! ### setObjWing -/

@[simp] theorem Dev.setObjWing_variant (s : Dev) (b o i : Nat) (ws : List W32) : (s.setObjWing b o i ws).variant = s.variant := rfl
@[simp] theorem Dev.setObjWing_regs (s : Dev) (b o i : Nat) (ws : List W32) : (s.setObjWing b o i ws).regs = s.regs := rfl
@[simp] theorem Dev.setObjWing_wings (s : Dev) (b o i : Nat) (ws : List W32) : (s.setObjWing b o i ws).wings = s.wings := rfl
@[simp] theorem Dev.setObjWing_objs (s : Dev) (b o i : Nat) (ws : List W32) : (s.setObjWing b o i ws).objs = s.objs := rfl
@[simp] theorem Dev.setObjWing_ctr (s : Dev) (b o i : Nat) (ws : List W32) : (s.setObjWing b o i ws).ctr = s.ctr := rfl
@[simp] theorem Dev.setObjWing_mbx (s : Dev) (b o i : Nat) (ws : List W32) : (s.setObjWing b o i ws).mbx = s.mbx := rfl
@[simp] theorem Dev.setObjWing_arming (s : Dev) (b o i : Nat) (ws : List W32) : (s.setObjWing b o i ws).arming = s.arming := rfl
@[simp] theorem Dev.setObjWing_bases (s : Dev) (b o i : Nat) (ws : List W32) : (s.setObjWing b o i ws).bases = s.bases := rfl
@[simp] theorem Dev.setObjWing_cue (s : Dev) (b o i : Nat) (ws : List W32) : (s.setObjWing b o i ws).cue = s.cue := rfl
@[simp] theorem Dev.setObjWing_tab (s : Dev) (b o i : Nat) (ws : List W32) : (s.setObjWing b o i ws).tab = s.tab := rfl
@[simp] theorem Dev.setObjWing_rings (s : Dev) (b o i : Nat) (ws : List W32) : (s.setObjWing b o i ws).rings = s.rings := rfl
@[simp] theorem Dev.setObjWing_pci (s : Dev) (b o i : Nat) (ws : List W32) : (s.setObjWing b o i ws).pci = s.pci := rfl
@[simp] theorem Dev.setObjWing_i2c (s : Dev) (b o i : Nat) (ws : List W32) : (s.setObjWing b o i ws).i2c = s.i2c := rfl
@[simp] theorem Dev.setObjWing_cageWait (s : Dev) (b o i : Nat) (ws : List W32) : (s.setObjWing b o i ws).cageWait = s.cageWait := rfl
@[simp] theorem Dev.setObjWing_ccx (s : Dev) (b o i : Nat) (ws : List W32) : (s.setObjWing b o i ws).ccx = s.ccx := rfl
@[simp] theorem Dev.setObjWing_int (s : Dev) (b o i : Nat) (ws : List W32) : (s.setObjWing b o i ws).int = s.int := rfl
@[simp] theorem Dev.setObjWing_pmc (s : Dev) (b o i : Nat) (ws : List W32) : (s.setObjWing b o i ws).pmc = s.pmc := rfl
@[simp] theorem Dev.setObjWing_pmcRun (s : Dev) (b o i : Nat) (ws : List W32) : (s.setObjWing b o i ws).pmcRun = s.pmcRun := rfl
@[simp] theorem Dev.setObjWing_sta (s : Dev) (b o i : Nat) (ws : List W32) : (s.setObjWing b o i ws).sta = s.sta := rfl
@[simp] theorem Dev.setObjWing_ports (s : Dev) (b o i : Nat) (ws : List W32) : (s.setObjWing b o i ws).ports = s.ports := rfl
@[simp] theorem Dev.setObjWing_otf (s : Dev) (b o i : Nat) (ws : List W32) : (s.setObjWing b o i ws).otf = s.otf := rfl
@[simp] theorem Dev.setObjWing_lci (s : Dev) (b o i : Nat) (ws : List W32) : (s.setObjWing b o i ws).lci = s.lci := rfl
@[simp] theorem Dev.setObjWing_pbk (s : Dev) (b o i : Nat) (ws : List W32) : (s.setObjWing b o i ws).pbk = s.pbk := rfl
@[simp] theorem Dev.setObjWing_rep0 (s : Dev) (b o i : Nat) (ws : List W32) : (s.setObjWing b o i ws).rep0 = s.rep0 := rfl
@[simp] theorem Dev.setObjWing_rep1 (s : Dev) (b o i : Nat) (ws : List W32) : (s.setObjWing b o i ws).rep1 = s.rep1 := rfl
@[simp] theorem Dev.setObjWing_intent (s : Dev) (b o i : Nat) (ws : List W32) : (s.setObjWing b o i ws).intent = s.intent := rfl
@[simp] theorem Dev.setObjWing_tbl (s : Dev) (b o i : Nat) (ws : List W32) : (s.setObjWing b o i ws).tbl = s.tbl := rfl
@[simp] theorem Dev.setObjWing_tm (s : Dev) (b o i : Nat) (ws : List W32) : (s.setObjWing b o i ws).tm = s.tm := rfl
@[simp] theorem Dev.setObjWing_ing (s : Dev) (b o i : Nat) (ws : List W32) : (s.setObjWing b o i ws).ing = s.ing := rfl
@[simp] theorem Dev.setObjWing_hbm (s : Dev) (b o i : Nat) (ws : List W32) : (s.setObjWing b o i ws).hbm = s.hbm := rfl
@[simp] theorem Dev.setObjWing_upd (s : Dev) (b o i : Nat) (ws : List W32) : (s.setObjWing b o i ws).upd = s.upd := rfl
@[simp] theorem Dev.setObjWing_pwr (s : Dev) (b o i : Nat) (ws : List W32) : (s.setObjWing b o i ws).pwr = s.pwr := rfl
@[simp] theorem Dev.setObjWing_dvtFT (s : Dev) (b o i : Nat) (ws : List W32) : (s.setObjWing b o i ws).dvtFT = s.dvtFT := rfl
@[simp] theorem Dev.setObjWing_dvtTF (s : Dev) (b o i : Nat) (ws : List W32) : (s.setObjWing b o i ws).dvtTF = s.dvtTF := rfl
@[simp] theorem Dev.setObjWing_freeCtr (s : Dev) (b o i : Nat) (ws : List W32) : (s.setObjWing b o i ws).freeCtr = s.freeCtr := rfl
@[simp] theorem Dev.setObjWing_out (s : Dev) (b o i : Nat) (ws : List W32) : (s.setObjWing b o i ws).out = s.out := rfl

/-! ### bump -/

@[simp] theorem Dev.bump_variant (s : Dev) (b o i k n : Nat) : (s.bump b o i k n).variant = s.variant := rfl
@[simp] theorem Dev.bump_regs (s : Dev) (b o i k n : Nat) : (s.bump b o i k n).regs = s.regs := rfl
@[simp] theorem Dev.bump_wings (s : Dev) (b o i k n : Nat) : (s.bump b o i k n).wings = s.wings := rfl
@[simp] theorem Dev.bump_objs (s : Dev) (b o i k n : Nat) : (s.bump b o i k n).objs = s.objs := rfl
@[simp] theorem Dev.bump_objWings (s : Dev) (b o i k n : Nat) : (s.bump b o i k n).objWings = s.objWings := rfl
@[simp] theorem Dev.bump_mbx (s : Dev) (b o i k n : Nat) : (s.bump b o i k n).mbx = s.mbx := rfl
@[simp] theorem Dev.bump_arming (s : Dev) (b o i k n : Nat) : (s.bump b o i k n).arming = s.arming := rfl
@[simp] theorem Dev.bump_bases (s : Dev) (b o i k n : Nat) : (s.bump b o i k n).bases = s.bases := rfl
@[simp] theorem Dev.bump_cue (s : Dev) (b o i k n : Nat) : (s.bump b o i k n).cue = s.cue := rfl
@[simp] theorem Dev.bump_tab (s : Dev) (b o i k n : Nat) : (s.bump b o i k n).tab = s.tab := rfl
@[simp] theorem Dev.bump_rings (s : Dev) (b o i k n : Nat) : (s.bump b o i k n).rings = s.rings := rfl
@[simp] theorem Dev.bump_pci (s : Dev) (b o i k n : Nat) : (s.bump b o i k n).pci = s.pci := rfl
@[simp] theorem Dev.bump_i2c (s : Dev) (b o i k n : Nat) : (s.bump b o i k n).i2c = s.i2c := rfl
@[simp] theorem Dev.bump_cageWait (s : Dev) (b o i k n : Nat) : (s.bump b o i k n).cageWait = s.cageWait := rfl
@[simp] theorem Dev.bump_ccx (s : Dev) (b o i k n : Nat) : (s.bump b o i k n).ccx = s.ccx := rfl
@[simp] theorem Dev.bump_int (s : Dev) (b o i k n : Nat) : (s.bump b o i k n).int = s.int := rfl
@[simp] theorem Dev.bump_pmc (s : Dev) (b o i k n : Nat) : (s.bump b o i k n).pmc = s.pmc := rfl
@[simp] theorem Dev.bump_pmcRun (s : Dev) (b o i k n : Nat) : (s.bump b o i k n).pmcRun = s.pmcRun := rfl
@[simp] theorem Dev.bump_sta (s : Dev) (b o i k n : Nat) : (s.bump b o i k n).sta = s.sta := rfl
@[simp] theorem Dev.bump_ports (s : Dev) (b o i k n : Nat) : (s.bump b o i k n).ports = s.ports := rfl
@[simp] theorem Dev.bump_otf (s : Dev) (b o i k n : Nat) : (s.bump b o i k n).otf = s.otf := rfl
@[simp] theorem Dev.bump_lci (s : Dev) (b o i k n : Nat) : (s.bump b o i k n).lci = s.lci := rfl
@[simp] theorem Dev.bump_pbk (s : Dev) (b o i k n : Nat) : (s.bump b o i k n).pbk = s.pbk := rfl
@[simp] theorem Dev.bump_rep0 (s : Dev) (b o i k n : Nat) : (s.bump b o i k n).rep0 = s.rep0 := rfl
@[simp] theorem Dev.bump_rep1 (s : Dev) (b o i k n : Nat) : (s.bump b o i k n).rep1 = s.rep1 := rfl
@[simp] theorem Dev.bump_intent (s : Dev) (b o i k n : Nat) : (s.bump b o i k n).intent = s.intent := rfl
@[simp] theorem Dev.bump_tbl (s : Dev) (b o i k n : Nat) : (s.bump b o i k n).tbl = s.tbl := rfl
@[simp] theorem Dev.bump_tm (s : Dev) (b o i k n : Nat) : (s.bump b o i k n).tm = s.tm := rfl
@[simp] theorem Dev.bump_ing (s : Dev) (b o i k n : Nat) : (s.bump b o i k n).ing = s.ing := rfl
@[simp] theorem Dev.bump_hbm (s : Dev) (b o i k n : Nat) : (s.bump b o i k n).hbm = s.hbm := rfl
@[simp] theorem Dev.bump_upd (s : Dev) (b o i k n : Nat) : (s.bump b o i k n).upd = s.upd := rfl
@[simp] theorem Dev.bump_pwr (s : Dev) (b o i k n : Nat) : (s.bump b o i k n).pwr = s.pwr := rfl
@[simp] theorem Dev.bump_dvtFT (s : Dev) (b o i k n : Nat) : (s.bump b o i k n).dvtFT = s.dvtFT := rfl
@[simp] theorem Dev.bump_dvtTF (s : Dev) (b o i k n : Nat) : (s.bump b o i k n).dvtTF = s.dvtTF := rfl
@[simp] theorem Dev.bump_freeCtr (s : Dev) (b o i k n : Nat) : (s.bump b o i k n).freeCtr = s.freeCtr := rfl
@[simp] theorem Dev.bump_out (s : Dev) (b o i k n : Nat) : (s.bump b o i k n).out = s.out := rfl

/-! ### emit -/

@[simp] theorem Dev.emit_variant (s : Dev) (o : Out) : (s.emit o).variant = s.variant := rfl
@[simp] theorem Dev.emit_regs (s : Dev) (o : Out) : (s.emit o).regs = s.regs := rfl
@[simp] theorem Dev.emit_wings (s : Dev) (o : Out) : (s.emit o).wings = s.wings := rfl
@[simp] theorem Dev.emit_objs (s : Dev) (o : Out) : (s.emit o).objs = s.objs := rfl
@[simp] theorem Dev.emit_objWings (s : Dev) (o : Out) : (s.emit o).objWings = s.objWings := rfl
@[simp] theorem Dev.emit_ctr (s : Dev) (o : Out) : (s.emit o).ctr = s.ctr := rfl
@[simp] theorem Dev.emit_mbx (s : Dev) (o : Out) : (s.emit o).mbx = s.mbx := rfl
@[simp] theorem Dev.emit_arming (s : Dev) (o : Out) : (s.emit o).arming = s.arming := rfl
@[simp] theorem Dev.emit_bases (s : Dev) (o : Out) : (s.emit o).bases = s.bases := rfl
@[simp] theorem Dev.emit_cue (s : Dev) (o : Out) : (s.emit o).cue = s.cue := rfl
@[simp] theorem Dev.emit_tab (s : Dev) (o : Out) : (s.emit o).tab = s.tab := rfl
@[simp] theorem Dev.emit_rings (s : Dev) (o : Out) : (s.emit o).rings = s.rings := rfl
@[simp] theorem Dev.emit_pci (s : Dev) (o : Out) : (s.emit o).pci = s.pci := rfl
@[simp] theorem Dev.emit_i2c (s : Dev) (o : Out) : (s.emit o).i2c = s.i2c := rfl
@[simp] theorem Dev.emit_cageWait (s : Dev) (o : Out) : (s.emit o).cageWait = s.cageWait := rfl
@[simp] theorem Dev.emit_ccx (s : Dev) (o : Out) : (s.emit o).ccx = s.ccx := rfl
@[simp] theorem Dev.emit_int (s : Dev) (o : Out) : (s.emit o).int = s.int := rfl
@[simp] theorem Dev.emit_pmc (s : Dev) (o : Out) : (s.emit o).pmc = s.pmc := rfl
@[simp] theorem Dev.emit_pmcRun (s : Dev) (o : Out) : (s.emit o).pmcRun = s.pmcRun := rfl
@[simp] theorem Dev.emit_sta (s : Dev) (o : Out) : (s.emit o).sta = s.sta := rfl
@[simp] theorem Dev.emit_ports (s : Dev) (o : Out) : (s.emit o).ports = s.ports := rfl
@[simp] theorem Dev.emit_otf (s : Dev) (o : Out) : (s.emit o).otf = s.otf := rfl
@[simp] theorem Dev.emit_lci (s : Dev) (o : Out) : (s.emit o).lci = s.lci := rfl
@[simp] theorem Dev.emit_pbk (s : Dev) (o : Out) : (s.emit o).pbk = s.pbk := rfl
@[simp] theorem Dev.emit_rep0 (s : Dev) (o : Out) : (s.emit o).rep0 = s.rep0 := rfl
@[simp] theorem Dev.emit_rep1 (s : Dev) (o : Out) : (s.emit o).rep1 = s.rep1 := rfl
@[simp] theorem Dev.emit_intent (s : Dev) (o : Out) : (s.emit o).intent = s.intent := rfl
@[simp] theorem Dev.emit_tbl (s : Dev) (o : Out) : (s.emit o).tbl = s.tbl := rfl
@[simp] theorem Dev.emit_tm (s : Dev) (o : Out) : (s.emit o).tm = s.tm := rfl
@[simp] theorem Dev.emit_ing (s : Dev) (o : Out) : (s.emit o).ing = s.ing := rfl
@[simp] theorem Dev.emit_hbm (s : Dev) (o : Out) : (s.emit o).hbm = s.hbm := rfl
@[simp] theorem Dev.emit_upd (s : Dev) (o : Out) : (s.emit o).upd = s.upd := rfl
@[simp] theorem Dev.emit_pwr (s : Dev) (o : Out) : (s.emit o).pwr = s.pwr := rfl
@[simp] theorem Dev.emit_dvtFT (s : Dev) (o : Out) : (s.emit o).dvtFT = s.dvtFT := rfl
@[simp] theorem Dev.emit_dvtTF (s : Dev) (o : Out) : (s.emit o).dvtTF = s.dvtTF := rfl
@[simp] theorem Dev.emit_freeCtr (s : Dev) (o : Out) : (s.emit o).freeCtr = s.freeCtr := rfl

/-! ### setRing -/

@[simp] theorem Dev.setRing_variant (s : Dev) (r : Nat) (x : RingSt) : (s.setRing r x).variant = s.variant := rfl
@[simp] theorem Dev.setRing_regs (s : Dev) (r : Nat) (x : RingSt) : (s.setRing r x).regs = s.regs := rfl
@[simp] theorem Dev.setRing_wings (s : Dev) (r : Nat) (x : RingSt) : (s.setRing r x).wings = s.wings := rfl
@[simp] theorem Dev.setRing_objs (s : Dev) (r : Nat) (x : RingSt) : (s.setRing r x).objs = s.objs := rfl
@[simp] theorem Dev.setRing_objWings (s : Dev) (r : Nat) (x : RingSt) : (s.setRing r x).objWings = s.objWings := rfl
@[simp] theorem Dev.setRing_ctr (s : Dev) (r : Nat) (x : RingSt) : (s.setRing r x).ctr = s.ctr := rfl
@[simp] theorem Dev.setRing_mbx (s : Dev) (r : Nat) (x : RingSt) : (s.setRing r x).mbx = s.mbx := rfl
@[simp] theorem Dev.setRing_arming (s : Dev) (r : Nat) (x : RingSt) : (s.setRing r x).arming = s.arming := rfl
@[simp] theorem Dev.setRing_bases (s : Dev) (r : Nat) (x : RingSt) : (s.setRing r x).bases = s.bases := rfl
@[simp] theorem Dev.setRing_cue (s : Dev) (r : Nat) (x : RingSt) : (s.setRing r x).cue = s.cue := rfl
@[simp] theorem Dev.setRing_tab (s : Dev) (r : Nat) (x : RingSt) : (s.setRing r x).tab = s.tab := rfl
@[simp] theorem Dev.setRing_pci (s : Dev) (r : Nat) (x : RingSt) : (s.setRing r x).pci = s.pci := rfl
@[simp] theorem Dev.setRing_i2c (s : Dev) (r : Nat) (x : RingSt) : (s.setRing r x).i2c = s.i2c := rfl
@[simp] theorem Dev.setRing_cageWait (s : Dev) (r : Nat) (x : RingSt) : (s.setRing r x).cageWait = s.cageWait := rfl
@[simp] theorem Dev.setRing_ccx (s : Dev) (r : Nat) (x : RingSt) : (s.setRing r x).ccx = s.ccx := rfl
@[simp] theorem Dev.setRing_int (s : Dev) (r : Nat) (x : RingSt) : (s.setRing r x).int = s.int := rfl
@[simp] theorem Dev.setRing_pmc (s : Dev) (r : Nat) (x : RingSt) : (s.setRing r x).pmc = s.pmc := rfl
@[simp] theorem Dev.setRing_pmcRun (s : Dev) (r : Nat) (x : RingSt) : (s.setRing r x).pmcRun = s.pmcRun := rfl
@[simp] theorem Dev.setRing_sta (s : Dev) (r : Nat) (x : RingSt) : (s.setRing r x).sta = s.sta := rfl
@[simp] theorem Dev.setRing_ports (s : Dev) (r : Nat) (x : RingSt) : (s.setRing r x).ports = s.ports := rfl
@[simp] theorem Dev.setRing_otf (s : Dev) (r : Nat) (x : RingSt) : (s.setRing r x).otf = s.otf := rfl
@[simp] theorem Dev.setRing_lci (s : Dev) (r : Nat) (x : RingSt) : (s.setRing r x).lci = s.lci := rfl
@[simp] theorem Dev.setRing_pbk (s : Dev) (r : Nat) (x : RingSt) : (s.setRing r x).pbk = s.pbk := rfl
@[simp] theorem Dev.setRing_rep0 (s : Dev) (r : Nat) (x : RingSt) : (s.setRing r x).rep0 = s.rep0 := rfl
@[simp] theorem Dev.setRing_rep1 (s : Dev) (r : Nat) (x : RingSt) : (s.setRing r x).rep1 = s.rep1 := rfl
@[simp] theorem Dev.setRing_intent (s : Dev) (r : Nat) (x : RingSt) : (s.setRing r x).intent = s.intent := rfl
@[simp] theorem Dev.setRing_tbl (s : Dev) (r : Nat) (x : RingSt) : (s.setRing r x).tbl = s.tbl := rfl
@[simp] theorem Dev.setRing_tm (s : Dev) (r : Nat) (x : RingSt) : (s.setRing r x).tm = s.tm := rfl
@[simp] theorem Dev.setRing_ing (s : Dev) (r : Nat) (x : RingSt) : (s.setRing r x).ing = s.ing := rfl
@[simp] theorem Dev.setRing_hbm (s : Dev) (r : Nat) (x : RingSt) : (s.setRing r x).hbm = s.hbm := rfl
@[simp] theorem Dev.setRing_upd (s : Dev) (r : Nat) (x : RingSt) : (s.setRing r x).upd = s.upd := rfl
@[simp] theorem Dev.setRing_pwr (s : Dev) (r : Nat) (x : RingSt) : (s.setRing r x).pwr = s.pwr := rfl
@[simp] theorem Dev.setRing_dvtFT (s : Dev) (r : Nat) (x : RingSt) : (s.setRing r x).dvtFT = s.dvtFT := rfl
@[simp] theorem Dev.setRing_dvtTF (s : Dev) (r : Nat) (x : RingSt) : (s.setRing r x).dvtTF = s.dvtTF := rfl
@[simp] theorem Dev.setRing_freeCtr (s : Dev) (r : Nat) (x : RingSt) : (s.setRing r x).freeCtr = s.freeCtr := rfl
@[simp] theorem Dev.setRing_out (s : Dev) (r : Nat) (x : RingSt) : (s.setRing r x).out = s.out := rfl

/-! ### ringWg -/

@[simp] theorem Dev.ringWg_variant (s : Dev) (r : Nat → RegDesc) (k : Nat) (v : W32) : (s.ringWg r k v).variant = s.variant := rfl
@[simp] theorem Dev.ringWg_wings (s : Dev) (r : Nat → RegDesc) (k : Nat) (v : W32) : (s.ringWg r k v).wings = s.wings := rfl
@[simp] theorem Dev.ringWg_objs (s : Dev) (r : Nat → RegDesc) (k : Nat) (v : W32) : (s.ringWg r k v).objs = s.objs := rfl
@[simp] theorem Dev.ringWg_objWings (s : Dev) (r : Nat → RegDesc) (k : Nat) (v : W32) : (s.ringWg r k v).objWings = s.objWings := rfl
@[simp] theorem Dev.ringWg_ctr (s : Dev) (r : Nat → RegDesc) (k : Nat) (v : W32) : (s.ringWg r k v).ctr = s.ctr := rfl
@[simp] theorem Dev.ringWg_mbx (s : Dev) (r : Nat → RegDesc) (k : Nat) (v : W32) : (s.ringWg r k v).mbx = s.mbx := rfl
@[simp] theorem Dev.ringWg_arming (s : Dev) (r : Nat → RegDesc) (k : Nat) (v : W32) : (s.ringWg r k v).arming = s.arming := rfl
@[simp] theorem Dev.ringWg_bases (s : Dev) (r : Nat → RegDesc) (k : Nat) (v : W32) : (s.ringWg r k v).bases = s.bases := rfl
@[simp] theorem Dev.ringWg_cue (s : Dev) (r : Nat → RegDesc) (k : Nat) (v : W32) : (s.ringWg r k v).cue = s.cue := rfl
@[simp] theorem Dev.ringWg_tab (s : Dev) (r : Nat → RegDesc) (k : Nat) (v : W32) : (s.ringWg r k v).tab = s.tab := rfl
@[simp] theorem Dev.ringWg_rings (s : Dev) (r : Nat → RegDesc) (k : Nat) (v : W32) : (s.ringWg r k v).rings = s.rings := rfl
@[simp] theorem Dev.ringWg_pci (s : Dev) (r : Nat → RegDesc) (k : Nat) (v : W32) : (s.ringWg r k v).pci = s.pci := rfl
@[simp] theorem Dev.ringWg_i2c (s : Dev) (r : Nat → RegDesc) (k : Nat) (v : W32) : (s.ringWg r k v).i2c = s.i2c := rfl
@[simp] theorem Dev.ringWg_cageWait (s : Dev) (r : Nat → RegDesc) (k : Nat) (v : W32) : (s.ringWg r k v).cageWait = s.cageWait := rfl
@[simp] theorem Dev.ringWg_ccx (s : Dev) (r : Nat → RegDesc) (k : Nat) (v : W32) : (s.ringWg r k v).ccx = s.ccx := rfl
@[simp] theorem Dev.ringWg_int (s : Dev) (r : Nat → RegDesc) (k : Nat) (v : W32) : (s.ringWg r k v).int = s.int := rfl
@[simp] theorem Dev.ringWg_pmc (s : Dev) (r : Nat → RegDesc) (k : Nat) (v : W32) : (s.ringWg r k v).pmc = s.pmc := rfl
@[simp] theorem Dev.ringWg_pmcRun (s : Dev) (r : Nat → RegDesc) (k : Nat) (v : W32) : (s.ringWg r k v).pmcRun = s.pmcRun := rfl
@[simp] theorem Dev.ringWg_sta (s : Dev) (r : Nat → RegDesc) (k : Nat) (v : W32) : (s.ringWg r k v).sta = s.sta := rfl
@[simp] theorem Dev.ringWg_ports (s : Dev) (r : Nat → RegDesc) (k : Nat) (v : W32) : (s.ringWg r k v).ports = s.ports := rfl
@[simp] theorem Dev.ringWg_otf (s : Dev) (r : Nat → RegDesc) (k : Nat) (v : W32) : (s.ringWg r k v).otf = s.otf := rfl
@[simp] theorem Dev.ringWg_lci (s : Dev) (r : Nat → RegDesc) (k : Nat) (v : W32) : (s.ringWg r k v).lci = s.lci := rfl
@[simp] theorem Dev.ringWg_pbk (s : Dev) (r : Nat → RegDesc) (k : Nat) (v : W32) : (s.ringWg r k v).pbk = s.pbk := rfl
@[simp] theorem Dev.ringWg_rep0 (s : Dev) (r : Nat → RegDesc) (k : Nat) (v : W32) : (s.ringWg r k v).rep0 = s.rep0 := rfl
@[simp] theorem Dev.ringWg_rep1 (s : Dev) (r : Nat → RegDesc) (k : Nat) (v : W32) : (s.ringWg r k v).rep1 = s.rep1 := rfl
@[simp] theorem Dev.ringWg_intent (s : Dev) (r : Nat → RegDesc) (k : Nat) (v : W32) : (s.ringWg r k v).intent = s.intent := rfl
@[simp] theorem Dev.ringWg_tbl (s : Dev) (r : Nat → RegDesc) (k : Nat) (v : W32) : (s.ringWg r k v).tbl = s.tbl := rfl
@[simp] theorem Dev.ringWg_tm (s : Dev) (r : Nat → RegDesc) (k : Nat) (v : W32) : (s.ringWg r k v).tm = s.tm := rfl
@[simp] theorem Dev.ringWg_ing (s : Dev) (r : Nat → RegDesc) (k : Nat) (v : W32) : (s.ringWg r k v).ing = s.ing := rfl
@[simp] theorem Dev.ringWg_hbm (s : Dev) (r : Nat → RegDesc) (k : Nat) (v : W32) : (s.ringWg r k v).hbm = s.hbm := rfl
@[simp] theorem Dev.ringWg_upd (s : Dev) (r : Nat → RegDesc) (k : Nat) (v : W32) : (s.ringWg r k v).upd = s.upd := rfl
@[simp] theorem Dev.ringWg_pwr (s : Dev) (r : Nat → RegDesc) (k : Nat) (v : W32) : (s.ringWg r k v).pwr = s.pwr := rfl
@[simp] theorem Dev.ringWg_dvtFT (s : Dev) (r : Nat → RegDesc) (k : Nat) (v : W32) : (s.ringWg r k v).dvtFT = s.dvtFT := rfl
@[simp] theorem Dev.ringWg_dvtTF (s : Dev) (r : Nat → RegDesc) (k : Nat) (v : W32) : (s.ringWg r k v).dvtTF = s.dvtTF := rfl
@[simp] theorem Dev.ringWg_freeCtr (s : Dev) (r : Nat → RegDesc) (k : Nat) (v : W32) : (s.ringWg r k v).freeCtr = s.freeCtr := rfl
@[simp] theorem Dev.ringWg_out (s : Dev) (r : Nat → RegDesc) (k : Nat) (v : W32) : (s.ringWg r k v).out = s.out := rfl

/-! ### setEvt -/

@[simp] theorem Dev.setEvt_variant (s : Dev) (b e : Nat) : (s.setEvt b e).variant = s.variant := rfl
@[simp] theorem Dev.setEvt_wings (s : Dev) (b e : Nat) : (s.setEvt b e).wings = s.wings := rfl
@[simp] theorem Dev.setEvt_objs (s : Dev) (b e : Nat) : (s.setEvt b e).objs = s.objs := rfl
@[simp] theorem Dev.setEvt_objWings (s : Dev) (b e : Nat) : (s.setEvt b e).objWings = s.objWings := rfl
@[simp] theorem Dev.setEvt_ctr (s : Dev) (b e : Nat) : (s.setEvt b e).ctr = s.ctr := rfl
@[simp] theorem Dev.setEvt_mbx (s : Dev) (b e : Nat) : (s.setEvt b e).mbx = s.mbx := rfl
@[simp] theorem Dev.setEvt_arming (s : Dev) (b e : Nat) : (s.setEvt b e).arming = s.arming := rfl
@[simp] theorem Dev.setEvt_bases (s : Dev) (b e : Nat) : (s.setEvt b e).bases = s.bases := rfl
@[simp] theorem Dev.setEvt_cue (s : Dev) (b e : Nat) : (s.setEvt b e).cue = s.cue := rfl
@[simp] theorem Dev.setEvt_tab (s : Dev) (b e : Nat) : (s.setEvt b e).tab = s.tab := rfl
@[simp] theorem Dev.setEvt_rings (s : Dev) (b e : Nat) : (s.setEvt b e).rings = s.rings := rfl
@[simp] theorem Dev.setEvt_pci (s : Dev) (b e : Nat) : (s.setEvt b e).pci = s.pci := rfl
@[simp] theorem Dev.setEvt_i2c (s : Dev) (b e : Nat) : (s.setEvt b e).i2c = s.i2c := rfl
@[simp] theorem Dev.setEvt_cageWait (s : Dev) (b e : Nat) : (s.setEvt b e).cageWait = s.cageWait := rfl
@[simp] theorem Dev.setEvt_ccx (s : Dev) (b e : Nat) : (s.setEvt b e).ccx = s.ccx := rfl
@[simp] theorem Dev.setEvt_int (s : Dev) (b e : Nat) : (s.setEvt b e).int = s.int := rfl
@[simp] theorem Dev.setEvt_pmc (s : Dev) (b e : Nat) : (s.setEvt b e).pmc = s.pmc := rfl
@[simp] theorem Dev.setEvt_pmcRun (s : Dev) (b e : Nat) : (s.setEvt b e).pmcRun = s.pmcRun := rfl
@[simp] theorem Dev.setEvt_sta (s : Dev) (b e : Nat) : (s.setEvt b e).sta = s.sta := rfl
@[simp] theorem Dev.setEvt_ports (s : Dev) (b e : Nat) : (s.setEvt b e).ports = s.ports := rfl
@[simp] theorem Dev.setEvt_otf (s : Dev) (b e : Nat) : (s.setEvt b e).otf = s.otf := rfl
@[simp] theorem Dev.setEvt_lci (s : Dev) (b e : Nat) : (s.setEvt b e).lci = s.lci := rfl
@[simp] theorem Dev.setEvt_pbk (s : Dev) (b e : Nat) : (s.setEvt b e).pbk = s.pbk := rfl
@[simp] theorem Dev.setEvt_rep0 (s : Dev) (b e : Nat) : (s.setEvt b e).rep0 = s.rep0 := rfl
@[simp] theorem Dev.setEvt_rep1 (s : Dev) (b e : Nat) : (s.setEvt b e).rep1 = s.rep1 := rfl
@[simp] theorem Dev.setEvt_intent (s : Dev) (b e : Nat) : (s.setEvt b e).intent = s.intent := rfl
@[simp] theorem Dev.setEvt_tbl (s : Dev) (b e : Nat) : (s.setEvt b e).tbl = s.tbl := rfl
@[simp] theorem Dev.setEvt_tm (s : Dev) (b e : Nat) : (s.setEvt b e).tm = s.tm := rfl
@[simp] theorem Dev.setEvt_ing (s : Dev) (b e : Nat) : (s.setEvt b e).ing = s.ing := rfl
@[simp] theorem Dev.setEvt_hbm (s : Dev) (b e : Nat) : (s.setEvt b e).hbm = s.hbm := rfl
@[simp] theorem Dev.setEvt_upd (s : Dev) (b e : Nat) : (s.setEvt b e).upd = s.upd := rfl
@[simp] theorem Dev.setEvt_pwr (s : Dev) (b e : Nat) : (s.setEvt b e).pwr = s.pwr := rfl
@[simp] theorem Dev.setEvt_dvtFT (s : Dev) (b e : Nat) : (s.setEvt b e).dvtFT = s.dvtFT := rfl
@[simp] theorem Dev.setEvt_dvtTF (s : Dev) (b e : Nat) : (s.setEvt b e).dvtTF = s.dvtTF := rfl
@[simp] theorem Dev.setEvt_freeCtr (s : Dev) (b e : Nat) : (s.setEvt b e).freeCtr = s.freeCtr := rfl
@[simp] theorem Dev.setEvt_out (s : Dev) (b e : Nat) : (s.setEvt b e).out = s.out := rfl

/-! ### fresh -/

@[simp] theorem Dev.fresh_variant (s : Dev) : s.fresh.2.variant = s.variant := rfl
@[simp] theorem Dev.fresh_regs (s : Dev) : s.fresh.2.regs = s.regs := rfl
@[simp] theorem Dev.fresh_wings (s : Dev) : s.fresh.2.wings = s.wings := rfl
@[simp] theorem Dev.fresh_objs (s : Dev) : s.fresh.2.objs = s.objs := rfl
@[simp] theorem Dev.fresh_objWings (s : Dev) : s.fresh.2.objWings = s.objWings := rfl
@[simp] theorem Dev.fresh_ctr (s : Dev) : s.fresh.2.ctr = s.ctr := rfl
@[simp] theorem Dev.fresh_mbx (s : Dev) : s.fresh.2.mbx = s.mbx := rfl
@[simp] theorem Dev.fresh_arming (s : Dev) : s.fresh.2.arming = s.arming := rfl
@[simp] theorem Dev.fresh_bases (s : Dev) : s.fresh.2.bases = s.bases := rfl
@[simp] theorem Dev.fresh_cue (s : Dev) : s.fresh.2.cue = s.cue := rfl
@[simp] theorem Dev.fresh_tab (s : Dev) : s.fresh.2.tab = s.tab := rfl
@[simp] theorem Dev.fresh_rings (s : Dev) : s.fresh.2.rings = s.rings := rfl
@[simp] theorem Dev.fresh_pci (s : Dev) : s.fresh.2.pci = s.pci := rfl
@[simp] theorem Dev.fresh_i2c (s : Dev) : s.fresh.2.i2c = s.i2c := rfl
@[simp] theorem Dev.fresh_cageWait (s : Dev) : s.fresh.2.cageWait = s.cageWait := rfl
@[simp] theorem Dev.fresh_ccx (s : Dev) : s.fresh.2.ccx = s.ccx := rfl
@[simp] theorem Dev.fresh_int (s : Dev) : s.fresh.2.int = s.int := rfl
@[simp] theorem Dev.fresh_pmc (s : Dev) : s.fresh.2.pmc = s.pmc := rfl
@[simp] theorem Dev.fresh_pmcRun (s : Dev) : s.fresh.2.pmcRun = s.pmcRun := rfl
@[simp] theorem Dev.fresh_sta (s : Dev) : s.fresh.2.sta = s.sta := rfl
@[simp] theorem Dev.fresh_ports (s : Dev) : s.fresh.2.ports = s.ports := rfl
@[simp] theorem Dev.fresh_otf (s : Dev) : s.fresh.2.otf = s.otf := rfl
@[simp] theorem Dev.fresh_lci (s : Dev) : s.fresh.2.lci = s.lci := rfl
@[simp] theorem Dev.fresh_pbk (s : Dev) : s.fresh.2.pbk = s.pbk := rfl
@[simp] theorem Dev.fresh_rep0 (s : Dev) : s.fresh.2.rep0 = s.rep0 := rfl
@[simp] theorem Dev.fresh_rep1 (s : Dev) : s.fresh.2.rep1 = s.rep1 := rfl
@[simp] theorem Dev.fresh_intent (s : Dev) : s.fresh.2.intent = s.intent := rfl
@[simp] theorem Dev.fresh_tbl (s : Dev) : s.fresh.2.tbl = s.tbl := rfl
@[simp] theorem Dev.fresh_tm (s : Dev) : s.fresh.2.tm = s.tm := rfl
@[simp] theorem Dev.fresh_ing (s : Dev) : s.fresh.2.ing = s.ing := rfl
@[simp] theorem Dev.fresh_hbm (s : Dev) : s.fresh.2.hbm = s.hbm := rfl
@[simp] theorem Dev.fresh_upd (s : Dev) : s.fresh.2.upd = s.upd := rfl
@[simp] theorem Dev.fresh_pwr (s : Dev) : s.fresh.2.pwr = s.pwr := rfl
@[simp] theorem Dev.fresh_dvtFT (s : Dev) : s.fresh.2.dvtFT = s.dvtFT := rfl
@[simp] theorem Dev.fresh_dvtTF (s : Dev) : s.fresh.2.dvtTF = s.dvtTF := rfl
@[simp] theorem Dev.fresh_out (s : Dev) : s.fresh.2.out = s.out := rfl
@[simp] theorem Dev.fresh_freeCtr (s : Dev) : s.fresh.2.freeCtr = s.freeCtr + 1 := rfl
@[simp] theorem Dev.fresh_value (s : Dev) : s.fresh.1 = Config.freeBits s.freeCtr := rfl
@[simp] theorem Dev.emit_out (s : Dev) (o : Out) : (s.emit o).out = s.out ++ [o] := rfl

/-! ### put -/

@[simp] theorem State.put_toDev (s : State) (d : Dev) (l : Option Dev) : (s.put d l).toDev = d := rfl
@[simp] theorem State.put_pending (s : State) (d : Dev) (l : Option Dev) : (s.put d l).pending = s.pending := rfl
@[simp] theorem State.put_latched (s : State) (d : Dev) (l : Option Dev) : (s.put d l).latched = if d.tabHeld then l else none := rfl

end Sys2Proof.Machine
end

