-- ==== Sys2Proof/Laws/Word.lean ====
section
/-! SUPPORT. Laws of the sparse store: a read after a write, other keys unchanged, rising keys kept. -/
namespace Sys2Proof

variable {α : Type}

@[simp] theorem mget_nil (d : α) (a : Nat) : mget d [] a = d := rfl

theorem mget_cons (d : α) (k : Nat) (v : α) (m : List (Nat × α)) (a : Nat) :
    mget d ((k, v) :: m) a = if a = k then v else mget d m a := rfl

@[simp] theorem merase_nil (a : Nat) : merase ([] : List (Nat × α)) a = [] := rfl

theorem merase_cons (k : Nat) (v : α) (m : List (Nat × α)) (a : Nat) :
    merase ((k, v) :: m) a = if k = a then merase m a else (k, v) :: merase m a := by
  by_cases h : k = a <;> simp [merase, h]

@[simp] theorem mget_merase_same (d : α) (m : List (Nat × α)) (a : Nat) : mget d (merase m a) a = d := by
  induction m with
  | nil => rfl
  | cons e m ih =>
    obtain ⟨k, v⟩ := e
    rw [merase_cons]
    split
    · exact ih
    · rename_i h
      rw [mget_cons, if_neg (Ne.symm h), ih]

theorem mget_merase_ne (d : α) (m : List (Nat × α)) {a b : Nat} (h : b ≠ a) : mget d (merase m a) b = mget d m b := by
  induction m with
  | nil => rfl
  | cons e m ih =>
    obtain ⟨k, v⟩ := e
    rw [merase_cons]
    split
    · rename_i hk
      rw [ih, mget_cons, if_neg (by omega)]
    · rw [mget_cons, mget_cons, ih]

@[simp] theorem mget_minsert_same (d : α) (m : List (Nat × α)) (a : Nat) (v : α) : mget d (minsert m a v) a = v := by
  induction m with
  | nil => simp [minsert, mget]
  | cons e m ih =>
    obtain ⟨k, w⟩ := e
    unfold minsert
    split
    · simp [mget]
    · split
      · simp [mget]
      · rename_i _ h
        rw [mget_cons, if_neg h, ih]

theorem mget_minsert_ne (d : α) (m : List (Nat × α)) {a b : Nat} (v : α) (h : b ≠ a) : mget d (minsert m a v) b = mget d m b := by
  induction m with
  | nil => simp [minsert, mget, h]
  | cons e m ih =>
    obtain ⟨k, w⟩ := e
    unfold minsert
    split
    · rw [mget_cons, if_neg h]
    · split
      · rename_i _ hk
        rw [mget_cons, if_neg h, mget_cons, if_neg (by omega)]
      · rw [mget_cons, mget_cons, ih]

@[simp] theorem mget_mset_same [DecidableEq α] (d : α) (m : List (Nat × α)) (a : Nat) (v : α) : mget d (mset d m a v) a = v := by
  unfold mset
  split
  · rename_i h
    rw [mget_merase_same, h]
  · exact mget_minsert_same d m a v

/-- A write leaves every other key as it was, whatever default it is read with. -/
theorem mget_mset_ne [DecidableEq α] (d e : α) (m : List (Nat × α)) {a b : Nat} (v : α) (h : b ≠ a) : mget e (mset d m a v) b = mget e m b := by
  unfold mset
  split
  · exact mget_merase_ne e m h
  · exact mget_minsert_ne e m v h

/-! ### Rising keys. -/

/-- Every key of the store is above `k`. -/
theorem sortedKeys_cons (k : Nat) (v : α) (m : List (Nat × α)) :
    sortedKeys ((k, v) :: m) = true ↔ (∀ e ∈ m, k < e.1) ∧ sortedKeys m = true := by
  induction m generalizing k v with
  | nil => simp [sortedKeys]
  | cons e m ih =>
    obtain ⟨b, w⟩ := e
    simp only [sortedKeys, Bool.and_eq_true, decide_eq_true_eq]
    constructor
    · rintro ⟨h1, h2⟩
      refine ⟨?_, h2⟩
      intro x hx
      rcases List.mem_cons.mp hx with rfl | hx
      · exact h1
      · exact Nat.lt_trans h1 (((ih b w).mp h2).1 x hx)
    · rintro ⟨h1, h2⟩
      exact ⟨h1 _ (List.mem_cons_self ..), h2⟩

theorem sortedKeys_filter (p : Nat × α → Bool) (m : List (Nat × α)) (h : sortedKeys m = true) : sortedKeys (m.filter p) = true := by
  induction m with
  | nil => rfl
  | cons e m ih =>
    obtain ⟨k, v⟩ := e
    have hs := (sortedKeys_cons k v m).mp h
    by_cases hp : p (k, v) = true
    · rw [List.filter_cons_of_pos hp]
      refine (sortedKeys_cons k v _).mpr ⟨?_, ih hs.2⟩
      intro x hx
      exact hs.1 x (List.mem_filter.mp hx).1
    · rw [List.filter_cons_of_neg hp]
      exact ih hs.2

theorem sortedKeys_merase (m : List (Nat × α)) (a : Nat) (h : sortedKeys m = true) : sortedKeys (merase m a) = true :=
  sortedKeys_filter _ m h

theorem mem_minsert {m : List (Nat × α)} {a : Nat} {v : α} {x : Nat × α} (h : x ∈ minsert m a v) : x = (a, v) ∨ x ∈ m := by
  induction m with
  | nil => simpa [minsert] using h
  | cons e m ih =>
    obtain ⟨k, w⟩ := e
    unfold minsert at h
    split at h
    · simpa using h
    · split at h
      · rcases List.mem_cons.mp h with h | h
        · exact .inl h
        · exact .inr (List.mem_cons_of_mem _ h)
      · rcases List.mem_cons.mp h with h | h
        · exact .inr (h ▸ List.mem_cons_self ..)
        · rcases ih h with h | h
          · exact .inl h
          · exact .inr (List.mem_cons_of_mem _ h)

theorem sortedKeys_minsert (m : List (Nat × α)) (a : Nat) (v : α) (h : sortedKeys m = true) : sortedKeys (minsert m a v) = true := by
  induction m with
  | nil => rfl
  | cons e m ih =>
    obtain ⟨k, w⟩ := e
    have hs := (sortedKeys_cons k w m).mp h
    unfold minsert
    split
    · rename_i hk
      refine (sortedKeys_cons a v _).mpr ⟨?_, h⟩
      intro x hx
      rcases List.mem_cons.mp hx with rfl | hx
      · exact hk
      · exact Nat.lt_trans hk (hs.1 x hx)
    · split
      · rename_i _ hk
        subst hk
        exact (sortedKeys_cons a v m).mpr hs
      · rename_i h1 h2
        refine (sortedKeys_cons k w _).mpr ⟨?_, ih hs.2⟩
        intro x hx
        rcases mem_minsert hx with rfl | hx
        · show k < a
          omega
        · exact hs.1 x hx

theorem sortedKeys_mset [DecidableEq α] (d : α) (m : List (Nat × α)) (a : Nat) (v : α) (h : sortedKeys m = true) : sortedKeys (mset d m a v) = true := by
  unfold mset
  split
  · exact sortedKeys_merase m a h
  · exact sortedKeys_minsert m a v h

/-! ### What a store lists. -/

/-- What a key reads as is what the store lists there, or the default. -/
theorem mget_eq_find (d : α) (m : List (Nat × α)) (a : Nat) :
    mget d m a = ((m.find? fun e => e.1 == a).map Prod.snd).getD d := by
  induction m with
  | nil => rfl
  | cons e m ih =>
    obtain ⟨k, v⟩ := e
    rw [mget_cons]
    by_cases h : k = a
    · simp [h]
    · rw [if_neg (Ne.symm h), ih, List.find?_cons, beq_false_of_ne h]

theorem find_merase_ne (m : List (Nat × α)) {a b : Nat} (h : b ≠ a) :
    ((merase m a).find? fun e => e.1 == b) = m.find? fun e => e.1 == b := by
  induction m with
  | nil => rfl
  | cons e m ih =>
    obtain ⟨k, v⟩ := e
    rw [merase_cons]
    split
    · rename_i hk
      have hkb : k ≠ b := by omega
      rw [ih, List.find?_cons, beq_false_of_ne hkb]
    · simp only [List.find?_cons, ih]

theorem find_minsert_ne (m : List (Nat × α)) {a b : Nat} (v : α) (h : b ≠ a) :
    ((minsert m a v).find? fun e => e.1 == b) = m.find? fun e => e.1 == b := by
  have hab : (a == b) = false := beq_false_of_ne (Ne.symm h)
  induction m with
  | nil => rw [minsert, List.find?_cons, hab]
  | cons e m ih =>
    obtain ⟨k, w⟩ := e
    unfold minsert
    split
    · rw [List.find?_cons, hab]
    · split
      · rename_i _ hk
        have hkb : k ≠ b := by omega
        rw [List.find?_cons, List.find?_cons, hab, beq_false_of_ne hkb]
      · simp only [List.find?_cons, ih]

theorem find_mset_ne [DecidableEq α] (d : α) (m : List (Nat × α)) {a b : Nat} (v : α) (h : b ≠ a) :
    ((mset d m a v).find? fun e => e.1 == b) = m.find? fun e => e.1 == b := by
  unfold mset
  split
  · exact find_merase_ne m h
  · exact find_minsert_ne m v h

end Sys2Proof
end

