-- ==== Sys2Proof/Laws/Ops.lean ====
section
/-! SUPPORT. What each shared operation can do: registers read after a write, events and counts only note, a reached write acts once. -/
namespace Sys2Proof.Machine
open Sys2Proof.Safety

/-! ### Registers and counters. -/

@[simp] theorem Dev.rg_wg_same (s : Dev) (r : RegDesc) (c i : Nat) (v : W32) : (s.wg r c i v).rg r c i = v :=
  mget_mset_same ..

theorem Dev.rg_wg_ne (s : Dev) (r e : RegDesc) (c i c' i' : Nat) (v : W32) (h : e.addr c' i' ≠ r.addr c i) :
    (s.wg r c i v).rg e c' i' = s.rg e c' i' := mget_mset_ne _ _ _ _ h

theorem Dev.listed_wg_ne (s : Dev) (r : RegDesc) (c i : Nat) (v : W32) {a : Nat} (h : a ≠ r.addr c i) :
    listed (s.wg r c i v).regs a = listed s.regs a := by
  unfold listed Dev.wg
  exact congrArg _ (find_mset_ne _ _ _ h)

@[simp] theorem Dev.obj_setObj_same (s : Dev) (b o i : Nat) (ws : List W32) : (s.setObj b o i ws).obj b o i = ws :=
  mget_mset_same ..

@[simp] theorem Dev.wing_setWing_same (s : Dev) (r : RegDesc) (c i : Nat) (v : W32) : (s.setWing r c i v).wing r c i = v :=
  mget_mset_same ..

@[simp] theorem Dev.objWing_setObjWing_same (s : Dev) (b o i : Nat) (ws : List W32) : (s.setObjWing b o i ws).objWing b o i = ws :=
  mget_mset_same ..

@[simp] theorem Dev.counter_bump_same (s : Dev) (b o i k n : Nat) : (s.bump b o i k n).counter b o i k = s.counter b o i k + n :=
  mget_mset_same ..

theorem Dev.rg_of_listed {s t : Dev} {r : RegDesc} {c i : Nat} (h : listed t.regs (r.addr c i) = listed s.regs (r.addr c i)) :
    t.rg r c i = s.rg r c i := by
  unfold Dev.rg
  rw [mget_eq_find, mget_eq_find]
  exact congrArg (fun o => Option.getD o _) h

/-- What a store lists at a key just written. -/
theorem listed_mset_same {α : Type} [DecidableEq α] (d : α) (m m' : List (Nat × α)) (a : Nat) (v : α) :
    listed (mset d m a v) a = listed (mset d m' a v) a := by
  have he (m : List (Nat × α)) : listed (mset d m a v) a = if v = d then none else some v := by
    unfold listed mset
    split
    · induction m with
      | nil => rfl
      | cons e m ih =>
        by_cases h : e.1 = a
        · rw [show merase (e :: m) a = merase m a by simp [merase, h]]
          exact ih
        · rw [show merase (e :: m) a = e :: merase m a by simp [merase, h]]
          simp only [List.find?_cons, beq_eq_false_iff_ne.mpr h]
          exact ih
    · induction m with
      | nil => simp [minsert]
      | cons e m ih =>
        obtain ⟨k, w⟩ := e
        unfold minsert
        split
        · simp
        · split
          · simp
          · rename_i h
            have hk : (k == a) = false := beq_eq_false_iff_ne.mpr (fun e => h e.symm)
            simp only [List.find?_cons, hk]
            exact ih
  rw [he, he]

/-! ### Notes. -/

end Sys2Proof.Machine

namespace Sys2Proof.Safety
open Sys2Proof.Machine

theorem Noted.refl (s : Dev) : Noted s s := ⟨rfl, fun _ _ => rfl, fun _ _ h => h, List.prefix_refl _⟩

theorem Noted.trans {s t u : Dev} (h : Noted s t) (k : Noted t u) : Noted s u :=
  ⟨k.body.trans h.body, fun a ha => (k.regs a ha).trans (h.regs a ha), fun b e x => k.evt b e (h.evt b e x), h.out.trans k.out⟩

/-- A register that is no note reads after as before. -/
theorem Noted.rg {s t : Dev} (h : Noted s t) {r : RegDesc} {c i : Nat} (hn : noteReg (r.addr c i) = false) : t.rg r c i = s.rg r c i :=
  Dev.rg_of_listed (h.regs _ hn)

/-- A register that is a note, and no EVT_STATUS, is set. -/
theorem noted_wg (s : Dev) (r : RegDesc) (c i : Nat) (v : W32) (h : noteReg (r.addr c i) = true)
    (hn : ∀ b, Reg.EVT_STATUS.addr 0 b ≠ r.addr c i) : Noted s (s.wg r c i v) :=
  ⟨rfl, fun a ha => Dev.listed_wg_ne s r c i v (fun e => by rw [e, h] at ha; cases ha),
    fun b e x => by rw [Dev.rg_wg_ne _ _ _ _ _ _ _ _ (hn b)]; exact x, List.prefix_refl _⟩

theorem noted_emit (s : Dev) (o : Out) : Noted s (s.emit o) := ⟨rfl, fun _ _ => rfl, fun _ _ h => h, ⟨[o], rfl⟩⟩
theorem noted_setRing (s : Dev) (r : Nat) (x : RingSt) : Noted s (s.setRing r x) := ⟨rfl, fun _ _ => rfl, fun _ _ h => h, List.prefix_refl _⟩

end Sys2Proof.Safety

namespace Sys2Proof.Machine
open Sys2Proof.Safety

/-- EVT_STATUS of every block is a note. -/
theorem noteReg_evt (b : Nat) : noteReg (Reg.EVT_STATUS.addr 0 b) = true := by
  have h : Reg.EVT_STATUS.addr 0 b = Reg.EVT_STATUS.off + windowSize * b := by
    simp only [RegDesc.addr, Reg.EVT_STATUS, windowSize]
    omega
  rw [noteReg, h, Nat.add_mul_mod_self_left]
  simp [Reg.EVT_STATUS, windowSize]

end Sys2Proof.Machine

namespace Sys2Proof.Machine
open Sys2Proof.Safety

/-- Every register of a ring is a note. -/
theorem noteReg_ring (r o : Nat) (rw rc : W32) (hr : r < 1120) (ho : o < 0x40) :
    noteReg ((Reg.ringReg (Reg.ringKind r) o rw rc).addr 0 (Reg.ringNum r)) = true := by
  have hn : Reg.ringNum r < 512 := by
    unfold Reg.ringNum
    split <;> (try split) <;> (try split) <;> omega
  have hk (k : Nat) : (if k = 0 then 65536 else if k = 1 then 131072 else if k = 2 then 196608 else 200704) ≤ 200704 := by
    split <;> (try split) <;> (try split) <;> omega
  have hk := hk (Reg.ringKind r)
  simp only [noteReg, RegDesc.addr, Reg.ringReg, bDMA, windowSize, Bool.or_eq_true, beq_iff_eq, Nat.zero_mul, Nat.add_zero]
  right
  omega

/-- No register of a ring is an EVT_STATUS. -/
theorem evt_ne_ring (r o : Nat) (rw rc : W32) (b : Nat) (hr : r < 1120) (ho : o < 0x40) :
    Reg.EVT_STATUS.addr 0 b ≠ (Reg.ringReg (Reg.ringKind r) o rw rc).addr 0 (Reg.ringNum r) := by
  have hn : Reg.ringNum r < 512 := by
    unfold Reg.ringNum
    split <;> (try split) <;> (try split) <;> omega
  have hk (k : Nat) : (if k = 0 then 65536 else if k = 1 then 131072 else if k = 2 then 196608 else 200704) ≤ 200704
      ∧ 65536 ≤ (if k = 0 then 65536 else if k = 1 then 131072 else if k = 2 then 196608 else 200704) := by
    split <;> (try split) <;> (try split) <;> omega
  have hk := hk (Reg.ringKind r)
  simp only [RegDesc.addr, Reg.ringReg, Reg.EVT_STATUS, bDMA, windowSize, Nat.zero_mul, Nat.add_zero, beq_iff_eq]
  omega

/-- What events, records, interrupts and counts do: they note (R52, R376–R378, R382, R455). -/
theorem noted_ringWg (s : Dev) (r o : Nat) (rw rc v : W32) (hr : r < 1120) (ho : o < 0x40) :
    Noted s (s.ringWg (fun k => Reg.ringReg k o rw rc) r v) :=
  noted_wg _ _ _ _ _ (noteReg_ring r o rw rc hr ho) (fun b => evt_ne_ring r o rw rc b hr ho)

theorem noted_devIdx (s : Dev) (r : Nat) (v : W32) (hr : r < 1120) : Noted s (s.ringWg Reg.DMA_DEV_IDX r v) :=
  noted_ringWg s r _ _ _ v hr (by omega)

theorem noted_dropReg (s : Dev) (r : Nat) (v : W32) (hr : r < 1120) : Noted s (s.ringWg Reg.DMA_DROP r v) :=
  noted_ringWg s r _ _ _ v hr (by omega)

theorem noted_writeBackIdx (s : Dev) (r : Nat) : Noted s (s.writeBackIdx r) := by
  unfold Dev.writeBackIdx
  split
  · exact noted_emit ..
  · exact .refl s

theorem noted_raiseVector (s : Dev) (v : Nat) : Noted s (s.raiseVector v) := by
  unfold Dev.raiseVector
  dsimp only
  split
  · exact noted_emit ..
  · split
    · exact .refl s
    · exact ⟨rfl, fun _ _ => rfl, fun _ _ h => h, List.prefix_refl _⟩

theorem noted_ringVector (s : Dev) (r : Nat) : Noted s (s.ringVector r) := by
  unfold Dev.ringVector
  dsimp only
  split
  · exact (noted_setRing ..).trans (noted_raiseVector ..)
  · exact .refl s

theorem noted_ite {s a b : Dev} (p : Prop) [Decidable p] (ha : Noted s a) (hb : Noted s b) : Noted s (if p then a else b) := by
  split
  · exact ha
  · exact hb

theorem noted_ringAdvance (s : Dev) (r n : Nat) (hr : r < 1120) : Noted s (s.ringAdvance r n) :=
  noted_ite _ (.refl s) ((noted_devIdx s r _ hr).trans ((noted_writeBackIdx _ r).trans ((noted_setRing _ r _).trans
    (noted_ite _ (noted_ringVector _ r) (.refl _)))))

theorem noted_pushRecord (s : Dev) (e : Nat) (ws : List W32) : Noted s (s.pushRecord e ws).1 := by
  have hr : 1024 + e % 64 < 1120 := by omega
  unfold Dev.pushRecord
  extract_lets r
  split
  · show Noted s (Dev.ringAdvance _ r 1)
    exact (noted_emit s _).trans (noted_ringAdvance _ r 1 hr)
  · exact noted_dropReg _ _ _ hr

/-- A bit of a word whose bit `i` was set. -/
theorem bit_setBit (w : W32) (i j : Nat) (h : bit w j = true) : bit (setBit w i true) j = true := by
  simp only [bit, setBit, setFld] at *
  have hj : j < 32 := by
    rcases Nat.lt_or_ge j 32 with hj | hj
    · exact hj
    · rw [BitVec.getLsbD_of_ge _ _ hj] at h
      cases h
  by_cases hij : i = j
  · subst hij
    simp [hj, h]
  · simp [hj, h]

/-- The bit that was set. -/
theorem bit_setBit_same (w : W32) (i : Nat) (h : i < 32) : bit (setBit w i true) i = true := by
  simp only [bit, setBit, setFld, Bool.toNat_true, BitVec.getLsbD_or, BitVec.getLsbD_ofNat, h, decide_true, Bool.true_and]
  simp

/-- EVT_STATUS of different blocks are different registers. -/
theorem evt_addr_ne {b b' : Nat} (h : b' ≠ b) : Reg.EVT_STATUS.addr 0 b' ≠ Reg.EVT_STATUS.addr 0 b := by
  simp only [RegDesc.addr, Reg.EVT_STATUS]
  omega

theorem noted_setEvt (s : Dev) (b e : Nat) : Noted s (s.setEvt b e) := by
  refine ⟨rfl, fun a ha => Dev.listed_wg_ne s _ 0 b _ (fun h => by rw [h, noteReg_evt] at ha; cases ha), fun b' e' h => ?_, List.prefix_refl _⟩
  by_cases hb : b' = b
  · subst hb
    unfold Dev.setEvt
    rw [Dev.rg_wg_same]
    exact bit_setBit _ _ _ h
  · unfold Dev.setEvt
    rw [Dev.rg_wg_ne _ _ _ _ _ _ _ _ (evt_addr_ne hb)]
    exact h

theorem noted_eventCore (s : Dev) (b e : Nat) : Noted s (s.eventCore b e).1 := by
  unfold Dev.eventCore
  extract_lets old s' ring
  split
  · exact (noted_setEvt s b e).trans (noted_pushRecord ..)
  · exact noted_setEvt s b e

theorem noted_pmcAdd (s : Dev) (id n : Nat) (b : Bool) : Noted s (s.pmcAdd id n b).1 :=
  ⟨rfl, fun _ _ => rfl, fun _ _ h => h, List.prefix_refl _⟩

theorem noted_foldl {β : Type} (f : Dev × β → Nat → Dev × β) (hf : ∀ x k, Noted x.1 (f x k).1) (l : List Nat) (x : Dev × β) :
    Noted x.1 (l.foldl f x).1 := by
  induction l generalizing x with
  | nil => exact .refl _
  | cons k l ih => exact (hf x k).trans (ih _)

theorem noted_countCore (s : Dev) (b e cl n : Nat) (a : EvAttr) : Noted s (s.countCore b e cl n a).1 := by
  unfold Dev.countCore
  split
  · exact .refl s
  · refine Noted.trans (noted_foldl _ ?_ _ (s, false, false)) (noted_foldl _ ?_ _ _)
    · intro x k
      extract_lets sel
      split
      · exact noted_pmcAdd ..
      · exact .refl _
    · intro x k
      extract_lets sel
      split
      · split
        · exact .refl _
        · exact .refl _
        · exact noted_pmcAdd ..
      · exact .refl _

theorem noted_event (s : Dev) (b e : Nat) : Noted s (s.event b e) :=
  noted_ite _ ((noted_ite _ ((noted_eventCore s b e).trans (noted_eventCore _ bDMA 2)) (noted_eventCore s b e)).trans (noted_countCore _ _ _ _ _ _))
    (noted_ite _ ((noted_eventCore s b e).trans (noted_eventCore _ bDMA 2)) (noted_eventCore s b e))

theorem noted_eventIf (s : Dev) (p : Bool) (b e : Nat) : Noted s (s.eventIf p b e) := noted_ite _ (noted_event s b e) (.refl s)

theorem noted_record (s : Dev) (r : Nat) (ws : List W32) : Noted s (s.record r ws).1 :=
  noted_ite _ ((noted_pushRecord s r ws).trans (noted_event _ bDMA 2)) (noted_pushRecord s r ws)

theorem noted_count (s : Dev) (b e cl n : Nat) (a : EvAttr) : Noted s (s.count b e cl n a) :=
  ((noted_countCore s b e cl n a).trans (noted_eventIf ..)).trans (noted_eventIf ..)

/-! ### The gate of register writes (R46, R54, R57, R63, R400). -/

theorem denied_disarmed (s : Dev) (q : Req) (x : Access) (w k : Bool) : (disarmed s q).denied x w k = s.denied x w k := by
  rfl

theorem hostShut_disarmed (s : Dev) (q p : Req) : (disarmed s q).hostShut p = s.hostShut p := by
  rfl

theorem isFenced_disarmed (s : Dev) (q p : Req) (a : Nat) : (disarmed s q).isFenced p a = s.isFenced p a := by
  simp only [Dev.isFenced, Dev.holder, Dev.rf, Dev.rg, disarmed]

/-- A write that nothing keeps from its register is counted and acts. -/
theorem gate_reached (s : Dev) (q : Req) (a : Nat) (act : Dev → Dev) (h1 : s.hostShut q = false)
    (h2 : s.denied { req := q, space := .bar0, addr := BitVec.ofNat 28 a, len := 4, full := true } true true = none) (h3 : s.isFenced q a = false) :
    s.gate q a act = act (s.count (a / windowSize) 1 (slotOf a) 1 q.attr) := by
  simp only [Dev.gate, h1, h2, h3, Bool.false_eq_true, if_false]

/-- A write that reaches its register uses up the arming, is counted, and acts. -/
theorem gateWrite_reached (s : Dev) (q : Req) (d : RegDesc) (c i : Nat) (act : Dev → Bool → Dev) (h : Reached s q d c i) :
    ∃ u, Noted (disarmed s q) u ∧ s.gateWrite q d c i act = act u (s.arming.get q) :=
  ⟨(disarmed s q).count (d.addr c i / windowSize) 1 (slotOf (d.addr c i)) 1 q.attr, noted_count ..,
    gate_reached (disarmed s q) q _ _ ((hostShut_disarmed s q q).trans h.1) ((denied_disarmed s q _ _ _).trans h.2.1)
      ((isFenced_disarmed s q q _).trans h.2.2)⟩

/-- An armed write that reaches a KW register acts (R63). -/
theorem gateKw_reached (s : Dev) (q : Req) (d : RegDesc) (c i : Nat) (act : Dev → Dev) (h : Reached s q d c i) (ha : s.arming.get q = true) :
    ∃ u, Noted (disarmed s q) u ∧ s.gateKw q d c i act = act u := by
  obtain ⟨u, hu, e⟩ := gateWrite_reached s q d c i (fun s armed => if armed then act s else s.logErr 7 (d.addr c i) true false q) h
  refine ⟨u, hu, ?_⟩
  unfold Dev.gateKw
  rw [e, ha]
  rfl

/-! ### Commands. -/

/-- A command given as an effect on the device completes and leaves the queue. -/
theorem does_on {i : Instr} {s : State} {f : Dev → Dev} {P : Dev → Prop} (h : exec i s = s.on f) (hp : P (f s.toDev)) : Does i s P :=
  ⟨s.put (f s.toDev) s.latched, h, rfl, hp⟩

end Sys2Proof.Machine
end

