-- ==== Sys2Proof/Laws/Exec.lean ====
section
/-! SUPPORT. The shape of every command: an effect on the device, put back beside the queue. -/
namespace Sys2Proof.Machine

/-- Every command but CUE_TICK is an effect on the device, put back beside the queue. -/
theorem exec_put (i : Instr) (h : ∀ e, i ≠ .cueTick e) (s : State) : ∃ d, exec i s = .next (s.put d s.latched) := by
  cases i
  case cueTick e => exact absurd rfl (h e)
  all_goals exact ⟨_, rfl⟩

theorem exec_cueTick (e : BitVec 16) (s : State) : exec (.cueTick e) s = .next (s.tick e.toNat) := rfl

theorem tick_pending (s : State) (n : Nat) : (s.tick n).pending = s.pending := rfl

theorem put_tableau (s : State) (d : Dev) (l : Option Dev) (h : (s.put d l).latched.isSome = true) : (s.put d l).toDev.tabHeld = true := by
  rw [State.put_latched] at h
  rw [State.put_toDev]
  cases hd : d.tabHeld with
  | true => rfl
  | false => rw [hd] at h; cases h

end Sys2Proof.Machine
end

