-- ==== Sys2Proof/Laws/Memory.lean ====
section
/-! SUPPORT. The host area of the HBM: every operation on it keeps its canonical form, and a byte reads as what was stored last. -/
namespace Sys2Proof.Machine

/-- The byte just stored is the byte read. -/
@[simp] theorem Dev.hbmByte_setHbmByte_same (s : Dev) (a : Nat) (b : Byte) : (s.setHbmByte a b).hbmByte a = b := by
  unfold Dev.hbmByte Dev.setHbmByte
  have : ∀ m : List Host.Cell, ∃ e : Host.Cell, (minsert m a b).find? (fun (e : Host.Cell) => e.1 == a) = some e ∧ e.2 = b := by
    intro m
    induction m with
    | nil => exact ⟨(a, b), by simp [minsert], rfl⟩
    | cons e m ih =>
      obtain ⟨k, w⟩ := e
      unfold minsert
      split
      · exact ⟨(a, b), by simp, rfl⟩
      · split
        · exact ⟨(a, b), by simp, rfl⟩
        · rename_i h1 h2
          have hk : (k == a) = false := beq_eq_false_iff_ne.mpr fun h => h2 h.symm
          simpa [List.find?_cons, hk] using ih
  obtain ⟨e, he, hb⟩ := this s.hbm.mem
  simp [he, hb]

/-- Any other byte reads as before. -/
theorem Dev.hbmByte_setHbmByte_ne (s : Dev) (a x : Nat) (b : Byte) (h : x ≠ a) : (s.setHbmByte a b).hbmByte x = s.hbmByte x := by
  unfold Dev.hbmByte Dev.setHbmByte
  have : ∀ m : List Host.Cell, (minsert m a b).find? (fun (e : Host.Cell) => e.1 == x) = m.find? (fun (e : Host.Cell) => e.1 == x) := by
    intro m
    have ha : (a == x) = false := beq_eq_false_iff_ne.mpr fun h' => h h'.symm
    induction m with
    | nil => simp [minsert, ha]
    | cons e m ih =>
      obtain ⟨k, w⟩ := e
      unfold minsert
      split
      · simp [ha]
      · split
        · rename_i h1 h2
          subst h2
          simp [ha]
        · simp only [List.find?_cons, ih]
  simp [this]

/-- A store leaves every byte outside the stored ones as it was. -/
theorem Dev.hbmByte_hbmStore_ne (s : Dev) (a x : Nat) (bs : List Byte) (h : x < a ∨ a + bs.length ≤ x) : (s.hbmStore a bs).hbmByte x = s.hbmByte x := by
  induction bs generalizing s a with
  | nil => rfl
  | cons b bs ih =>
    simp only [List.length_cons] at h
    unfold Dev.hbmStore
    rw [ih _ _ (by omega), Dev.hbmByte_setHbmByte_ne _ _ _ _ (by omega)]

/-- A store puts each byte at its address. -/
theorem Dev.hbmByte_hbmStore (s : Dev) (a i : Nat) (bs : List Byte) (h : i < bs.length) : (s.hbmStore a bs).hbmByte (a + i) = bs[i] := by
  induction bs generalizing s a i with
  | nil => simp at h
  | cons b bs ih =>
    unfold Dev.hbmStore
    cases i with
    | zero => rw [Dev.hbmByte_hbmStore_ne _ _ _ _ (by omega)]; simp
    | succ i =>
      have := ih (s.setHbmByte a b) (a + 1) i (by simpa using h)
      simpa [Nat.add_assoc, Nat.add_comm 1 i] using this

/-- Setting a byte keeps the canonical form. -/
theorem Dev.setHbmByte_wf (s : Dev) (a : Nat) (b : Byte) (h : Memory.wf s.hbm.mem = true) : Memory.wf (s.setHbmByte a b).hbm.mem = true :=
  sortedKeys_minsert _ _ _ h

/-- A store keeps the canonical form. -/
theorem Dev.hbmStore_wf (s : Dev) (a : Nat) (bs : List Byte) (h : Memory.wf s.hbm.mem = true) : Memory.wf (s.hbmStore a bs).hbm.mem = true := by
  induction bs generalizing s a with
  | nil => exact h
  | cons b bs ih => exact ih _ _ (s.setHbmByte_wf a b h)

/-- Losing a stack's contents keeps the canonical form. -/
theorem Dev.scramble_wf (s : Dev) (k : Nat) (h : Memory.wf s.hbm.mem = true) : Memory.wf (s.scramble k).hbm.mem = true := by
  unfold Dev.scramble
  dsimp only
  split <;> exact sortedKeys_filter _ _ h

/-- After reset nothing is listed. -/
theorem State.reset_wf : Safety.MemoryInv State.reset := rfl

end Sys2Proof.Machine
end

