-- ==== Sys2Proof/Laws/Noted.lean ====
section
/-! SUPPORT. Notes beside effects: an effect done after notes is the effect, noted; an event sets its bit; a write that reaches its register acts on a device that has only noted. -/
namespace Sys2Proof.Machine

/-- What a store reads at a key just written, under any default. -/
theorem mget_mset_at {α : Type} [DecidableEq α] (d e : α) (m : List (Nat × α)) (a : Nat) (v : α) :
    mget e (mset d m a v) a = if v = d then e else v := by
  unfold mset
  split
  · exact mget_merase_same ..
  · exact mget_minsert_same ..

end Sys2Proof.Machine

namespace Sys2Proof.Safety
open Sys2Proof.Machine

/-! ### What notes leave: every field but registers, rings, counters, pending vectors and what was sent. -/

theorem Noted.variant {s t : Dev} (h : Noted s t) : t.variant = s.variant := by have e := congrArg Dev.variant h.body; exact e
theorem Noted.wings {s t : Dev} (h : Noted s t) : t.wings = s.wings := by have e := congrArg Dev.wings h.body; exact e
theorem Noted.objs {s t : Dev} (h : Noted s t) : t.objs = s.objs := by have e := congrArg Dev.objs h.body; exact e
theorem Noted.objWings {s t : Dev} (h : Noted s t) : t.objWings = s.objWings := by have e := congrArg Dev.objWings h.body; exact e
theorem Noted.ctr {s t : Dev} (h : Noted s t) : t.ctr = s.ctr := by have e := congrArg Dev.ctr h.body; exact e
theorem Noted.mbx {s t : Dev} (h : Noted s t) : t.mbx = s.mbx := by have e := congrArg Dev.mbx h.body; exact e
theorem Noted.arming {s t : Dev} (h : Noted s t) : t.arming = s.arming := by have e := congrArg Dev.arming h.body; exact e
theorem Noted.bases {s t : Dev} (h : Noted s t) : t.bases = s.bases := by have e := congrArg Dev.bases h.body; exact e
theorem Noted.cue {s t : Dev} (h : Noted s t) : t.cue = s.cue := by have e := congrArg Dev.cue h.body; exact e
theorem Noted.tab {s t : Dev} (h : Noted s t) : t.tab = s.tab := by have e := congrArg Dev.tab h.body; exact e
theorem Noted.i2c {s t : Dev} (h : Noted s t) : t.i2c = s.i2c := by have e := congrArg Dev.i2c h.body; exact e
theorem Noted.cageWait {s t : Dev} (h : Noted s t) : t.cageWait = s.cageWait := by have e := congrArg Dev.cageWait h.body; exact e
theorem Noted.ccx {s t : Dev} (h : Noted s t) : t.ccx = s.ccx := by have e := congrArg Dev.ccx h.body; exact e
theorem Noted.int {s t : Dev} (h : Noted s t) : t.int = s.int := by have e := congrArg Dev.int h.body; exact e
theorem Noted.pmcRun {s t : Dev} (h : Noted s t) : t.pmcRun = s.pmcRun := by have e := congrArg Dev.pmcRun h.body; exact e
theorem Noted.sta {s t : Dev} (h : Noted s t) : t.sta = s.sta := by have e := congrArg Dev.sta h.body; exact e
theorem Noted.ports {s t : Dev} (h : Noted s t) : t.ports = s.ports := by have e := congrArg Dev.ports h.body; exact e
theorem Noted.otf {s t : Dev} (h : Noted s t) : t.otf = s.otf := by have e := congrArg Dev.otf h.body; exact e
theorem Noted.lci {s t : Dev} (h : Noted s t) : t.lci = s.lci := by have e := congrArg Dev.lci h.body; exact e
theorem Noted.pbk {s t : Dev} (h : Noted s t) : t.pbk = s.pbk := by have e := congrArg Dev.pbk h.body; exact e
theorem Noted.rep0 {s t : Dev} (h : Noted s t) : t.rep0 = s.rep0 := by have e := congrArg Dev.rep0 h.body; exact e
theorem Noted.rep1 {s t : Dev} (h : Noted s t) : t.rep1 = s.rep1 := by have e := congrArg Dev.rep1 h.body; exact e
theorem Noted.intent {s t : Dev} (h : Noted s t) : t.intent = s.intent := by have e := congrArg Dev.intent h.body; exact e
theorem Noted.tbl {s t : Dev} (h : Noted s t) : t.tbl = s.tbl := by have e := congrArg Dev.tbl h.body; exact e
theorem Noted.tm {s t : Dev} (h : Noted s t) : t.tm = s.tm := by have e := congrArg Dev.tm h.body; exact e
theorem Noted.ing {s t : Dev} (h : Noted s t) : t.ing = s.ing := by have e := congrArg Dev.ing h.body; exact e
theorem Noted.hbm {s t : Dev} (h : Noted s t) : t.hbm = s.hbm := by have e := congrArg Dev.hbm h.body; exact e
theorem Noted.upd {s t : Dev} (h : Noted s t) : t.upd = s.upd := by have e := congrArg Dev.upd h.body; exact e
theorem Noted.pwr {s t : Dev} (h : Noted s t) : t.pwr = s.pwr := by have e := congrArg Dev.pwr h.body; exact e
theorem Noted.dvtFT {s t : Dev} (h : Noted s t) : t.dvtFT = s.dvtFT := by have e := congrArg Dev.dvtFT h.body; exact e
theorem Noted.dvtTF {s t : Dev} (h : Noted s t) : t.dvtTF = s.dvtTF := by have e := congrArg Dev.dvtTF h.body; exact e
theorem Noted.freeCtr {s t : Dev} (h : Noted s t) : t.freeCtr = s.freeCtr := by have e := congrArg Dev.freeCtr h.body; exact e

/-! ### Effects after notes. -/

/-- A register set after notes. -/
theorem Noted.wg {s t : Dev} (h : Noted s t) (r : RegDesc) (c i : Nat) (v : W32) : Noted (s.wg r c i v) (t.wg r c i v) := by
  refine ⟨h.body, fun a ha => ?_, fun b e x => ?_, h.out⟩
  · by_cases hn : a = r.addr c i
    · subst hn
      exact listed_mset_same ..
    · rw [Dev.listed_wg_ne _ _ _ _ _ hn, Dev.listed_wg_ne _ _ _ _ _ hn]
      exact h.regs a ha
  · by_cases hn : Reg.EVT_STATUS.addr 0 b = r.addr c i
    · unfold Dev.rg Dev.wg at *
      rw [hn] at x ⊢
      rw [mget_mset_at] at x ⊢
      exact x
    · rw [Dev.rg_wg_ne _ _ _ _ _ _ _ _ hn] at x ⊢
      exact h.evt b e x

/-- An effect on parts that events do not note, after notes. -/
theorem Noted.map {s t : Dev} (h : Noted s t) (f : Dev → Dev) (hb : ∀ d, Safety.body (f d) = f (Safety.body d)) (hr : ∀ d, (f d).regs = d.regs)
    (ho : ∀ d, (f d).out = d.out) : Noted (f s) (f t) := by
  refine ⟨?_, fun a ha => ?_, fun b e x => ?_, ?_⟩
  · rw [hb, hb, h.body]
  · rw [hr, hr]
    exact h.regs a ha
  · unfold Dev.rg at *
    rw [hr] at x ⊢
    exact h.evt b e x
  · rw [ho, ho]
    exact h.out

theorem Noted.event {s t : Dev} (h : Noted s t) (b e : Nat) : Noted s (t.event b e) := h.trans (noted_event ..)
theorem Noted.emit {s t : Dev} (h : Noted s t) (o : Out) : Noted s (t.emit o) := h.trans (noted_emit ..)
theorem Noted.eventIf {s t : Dev} (h : Noted s t) (p : Bool) (b e : Nat) : Noted s (t.eventIf p b e) := h.trans (noted_eventIf ..)
theorem Noted.count {s t : Dev} (h : Noted s t) (b e cl n : Nat) (a : EvAttr) : Noted s (t.count b e cl n a) := h.trans (noted_count ..)
theorem Noted.record {s t : Dev} (h : Noted s t) (r : Nat) (ws : List W32) : Noted s (t.record r ws).1 := h.trans (noted_record ..)

/-- Notes keep a set event bit. -/
theorem Noted.evt_mono {s t : Dev} (h : Noted s t) {b e : Nat} (x : evtSet s b e = true) : evtSet t b e = true := h.evt b e x

/-- An event sets its bit (R52). -/
theorem evt_event (s : Dev) (b e : Nat) (he : e < 32) : evtSet (s.event b e) b e = true := by
  have h0 : evtSet (s.setEvt b e) b e = true := by
    unfold evtSet Dev.setEvt
    rw [Dev.rg_wg_same]
    exact bit_setBit_same _ _ he
  have h1 : Noted (s.setEvt b e) (s.eventCore b e).1 := by
    unfold Dev.eventCore
    extract_lets old s' ring
    split
    · exact noted_pushRecord ..
    · exact .refl _
  have h2 : Noted (s.eventCore b e).1 (s.event b e) :=
    noted_ite _ ((noted_ite _ (noted_eventCore _ bDMA 2) (.refl _)).trans (noted_countCore _ _ _ _ _ _))
      (noted_ite _ (noted_eventCore _ bDMA 2) (.refl _))
  exact (h1.trans h2).evt_mono h0

theorem Sent.mono {s t u : Dev} {o : Out} (h : Sent s t o) (k : Noted t u) : Sent s u o := by
  obtain ⟨l, hl, hm⟩ := h
  obtain ⟨l', hl'⟩ := k.out
  exact ⟨l ++ l', by rw [← hl', hl, List.append_assoc], List.mem_append_left _ hm⟩

theorem sent_emit {s t : Dev} (h : s.out <+: t.out) (o : Out) : Sent s (t.emit o) o := by
  obtain ⟨l, hl⟩ := h
  exact ⟨l ++ [o], by simp [Dev.emit, ← hl], by simp⟩

/-! ### The error log (R58). -/

/-- What an entry of the error log leaves, after notes: the entry, its event, and nothing taken back. -/
theorem noted_logErr {s u : Dev} (h : Noted s u) (c a : Nat) (w v : Bool) (q : Req) :
    Noted (logged s c a w v q) (u.logErr c a w v q)
      ∧ (bit (s.rg Reg.TOP_ERR_INFO 0 0) 31 = false → evtSet (u.logErr c a w v q) bTOP 0 = true)
      ∧ u.out <+: (u.logErr c a w v q).out := by
  have e1 : u.rg Reg.TOP_ERR_COUNT 0 0 = s.rg Reg.TOP_ERR_COUNT 0 0 := h.rg (by decide)
  have e2 : u.rg Reg.TOP_ERR_INFO 0 0 = s.rg Reg.TOP_ERR_INFO 0 0 := h.rg (by decide)
  have e3 : (u.bumpReg Reg.TOP_ERR_COUNT 0 0 1).rg Reg.TOP_ERR_INFO 0 0 = s.rg Reg.TOP_ERR_INFO 0 0 := by
    rw [← e2]
    exact Dev.rg_wg_ne _ _ _ _ _ _ _ _ (by decide)
  have n : Noted (s.wg Reg.TOP_ERR_COUNT 0 0 (w32 (sat32 ((s.rg Reg.TOP_ERR_COUNT 0 0).toNat + 1)))) (u.bumpReg Reg.TOP_ERR_COUNT 0 0 1) := by
    unfold Dev.bumpReg
    rw [e1]
    exact h.wg ..
  unfold logged Dev.logErr
  simp only [e3]
  cases hb : bit (s.rg Reg.TOP_ERR_INFO 0 0) 31 with
  | true => exact ⟨n, fun h => by (cases h), List.prefix_refl _⟩
  | false =>
    refine ⟨((n.wg ..).wg ..).event .., fun _ => evt_event _ _ _ (by decide), ?_⟩
    simp only [Bool.false_eq_true, if_false]
    exact (noted_event ((((u.bumpReg Reg.TOP_ERR_COUNT 0 0 1).wg Reg.TOP_ERR_ADDR 0 0 _).wg Reg.TOP_ERR_INFO 0 0 _)) bTOP 0).out

theorem logs_logErr {s u : Dev} (h : Noted s u) (c a : Nat) (w v : Bool) (q : Req) : Logs s (u.logErr c a w v q) c a w v q :=
  ⟨(noted_logErr h c a w v q).1, (noted_logErr h c a w v q).2.1⟩

theorem Sent.logErr {s u : Dev} {o : Out} (h : Sent s u o) (c a : Nat) (w v : Bool) (q : Req) : Sent s (u.logErr c a w v q) o := by
  obtain ⟨l, h1, h2⟩ := h
  obtain ⟨m, h3⟩ := (noted_logErr (.refl u) c a w v q).2.2
  exact ⟨l ++ m, by rw [← h3, h1, List.append_assoc], List.mem_append_left _ h2⟩

end Sys2Proof.Safety

namespace Sys2Proof.Machine
open Sys2Proof.Safety

/-- A write that reaches its register without arming, to a KW register, is discarded and logged (R64). -/
theorem gateKw_unarmed (s : Dev) (q : Req) (d : RegDesc) (c i : Nat) (act : Dev → Dev) (h : Reached s q d c i) (ha : s.arming.get q = false) :
    Logs (disarmed s q) (s.gateKw q d c i act) 7 (d.addr c i) true false q := by
  obtain ⟨u, hu, e⟩ := gateWrite_reached s q d c i (fun s armed => if armed then act s else s.logErr 7 (d.addr c i) true false q) h
  unfold Dev.gateKw
  rw [e, ha]
  exact logs_logErr hu ..

/-- Commands given as the same effect end in the same state. -/
theorem on_congr (s : State) {f g : Dev → Dev} (h : f s.toDev = g s.toDev) : s.on f = s.on g := by
  unfold State.on
  rw [h]

theorem writeTo_addr (q : Req) (d : RegDesc) (c i : Nat) (ha : d.addr c i < 2 ^ 28) : (writeTo q d c i).addr.toNat = d.addr c i := by
  simp only [writeTo, BitVec.toNat_ofNat]
  exact Nat.mod_eq_of_lt ha

/-- A write that reaches the register at its offset is a write of its word. -/
theorem barWrite_reached (s : Dev) (held : Option Dev) (q : Req) (d : RegDesc) (c i : Nat) (v : W64) (h : Reached s q d c i)
    (hr : regAt (d.addr c i) = some (d, c, i)) (ha : d.addr c i < 2 ^ 28) (hv : d.addr c i % windowSize < 0x400000)
    (hm : inMsix (d.addr c i) = false) : s.barWrite held (writeTo q d c i) v = s.wordWrite held q d c i (v.truncate 32) := by
  obtain ⟨h1, h2, -⟩ := h
  have ea := writeTo_addr q d c i ha
  have en : (writeTo q d c i).normal = d.addr c i := by
    unfold Access.normal
    rw [ea, Nat.mod_eq_of_lt hv, Nat.mul_comm, Nat.div_add_mod]
  have hq : (writeTo q d c i).req = q := rfl
  unfold Dev.barWrite
  rw [hq, h1, ea, en, hm, hr]
  simp only [Option.isSome_some, Bool.true_or, h2, Bool.false_eq_true, if_false]

theorem exec_registerWrite (x : Access) (v : W64) (s : State) : exec (.registerWrite x v) s = s.on fun d => d.accessWrite s.latched x v := rfl

/-- A write by address to a register without a command of its own is a plain write through the gate. -/
theorem registerWrite_plain (s : State) (q : Req) (d : RegDesc) (c i : Nat) (v : W64) (h : Reached s.toDev q d c i)
    (hr : regAt (d.addr c i) = some (d, c, i)) (ha : d.addr c i < 2 ^ 28) (hv : d.addr c i % windowSize < 0x400000)
    (hm : inMsix (d.addr c i) = false)
    (hw : s.toDev.wordWrite s.latched q d c i (v.truncate 32) = s.toDev.gatePlain q d c i (v.truncate 32)) :
    exec (.registerWrite (writeTo q d c i) v) s = s.on fun u => u.gatePlain q d c i (v.truncate 32) := by
  rw [exec_registerWrite]
  refine on_congr s ?_
  have hs : (writeTo q d c i).space = .bar0 := rfl
  unfold Dev.accessWrite
  rw [hs]
  exact (barWrite_reached s.toDev s.latched q d c i v h hr ha hv hm).trans hw

/-- A register write command that reaches its register: what its action does after notes, the command does. -/
theorem does_write {i : Instr} {s : State} {q : Req} {r : RegDesc} {c k : Nat} {act : Dev → Bool → Dev} {P : Dev → Prop}
    (hx : exec i s = s.on fun d => d.gateWrite q r c k act) (h : Reached s.toDev q r c k)
    (hp : ∀ u, Noted (disarmed s.toDev q) u → P (act u (s.arming.get q))) : Does i s P := by
  obtain ⟨u, hu, e⟩ := gateWrite_reached s.toDev q r c k act h
  exact does_on hx (by rw [e]; exact hp u hu)

/-- The same for a write by address to a register without a command of its own. -/
theorem does_plain (s : State) (q : Req) (d : RegDesc) (c i : Nat) (v : W64) {P : Dev → Prop} (h : Reached s.toDev q d c i)
    (hr : regAt (d.addr c i) = some (d, c, i)) (ha : d.addr c i < 2 ^ 28) (hv : d.addr c i % windowSize < 0x400000)
    (hm : inMsix (d.addr c i) = false)
    (hw : s.toDev.wordWrite s.latched q d c i (v.truncate 32) = s.toDev.gatePlain q d c i (v.truncate 32))
    (hp : ∀ u, Noted (disarmed s.toDev q) u → P (u.plainWrite q d c i (v.truncate 32) (s.arming.get q))) :
    Does (.registerWrite (writeTo q d c i) v) s P :=
  does_write (registerWrite_plain s q d c i v h hr ha hv hm hw) h hp

/-- The same for an armed write of a KW register. -/
theorem does_kw {i : Instr} {s : State} {q : Req} {r : RegDesc} {c k : Nat} {act : Dev → Dev} {P : Dev → Prop}
    (hx : exec i s = s.on fun d => d.gateKw q r c k act) (h : Reached s.toDev q r c k) (ha : s.arming.get q = true)
    (hp : ∀ u, Noted (disarmed s.toDev q) u → P (act u)) : Does i s P := by
  obtain ⟨u, hu, e⟩ := gateKw_reached s.toDev q r c k act h ha
  exact does_on hx (by rw [e]; exact hp u hu)

end Sys2Proof.Machine
end

