-- ==== Sys2Proof/Machine/HouseBook.lean ====
section
/-! DEFINITION. The House Book that Meruele ships: its shape facts, parser graph, stage map, classification and rewrites (R198, R334; the table at the end of chapter 04).
The image itself, its table IDs and its program text are Meruele's and not in the spec: `Book.isHouse` says of a book that it holds what the spec gives, and the flash slots of State.reset stay empty (log entry 4).
DESIGN CHOICE (log entry 120): the numbers of states and headers, the field-vector places, and what ends a parse beyond the listed headers. -/
namespace Sys2Proof.Machine

/-! ### Shape facts (chapter 04, "The House Book"). -/

/-- 40 bytes with word 0 carried, Link Cipher required, stacks 0, 1, 4 and 5, every associative-search table reshape-capable. -/
def Book.houseShape (b : Book) : Bool :=
  b.xsize == 40 && b.carried == 1 && b.requires == 8 && b.hbmUse == 0x33 && b.tables.all fun t => t.tkind != 1 || t.reshape

/-! ### The parser graph (R198). -/

/-- A state that records header `hdr`, of fixed length, with its select window and its extraction (source, length, field-vector byte). -/
def houseState (n hdr len selOff selMask : Nat) (x : Nat × Nat × Nat) : PState :=
  { state := n, hdrId := hdr, terminal := false, reject := false, noStack := false, lenFixed := len, lenOff := 0xFF, lenMask := 0, lenShift := 0,
    selOff := selOff, selMask := selMask, xsrc := x.1, xlen := x.2.1, xdst := x.2.2 }

/-- The field-vector bytes of each extraction. -/
def houseFvTag : Nat := 14
def houseFvLabel : Nat := 22
def houseFv4 : Nat := 26
def houseFv6 : Nat := 46
def houseFvPorts : Nat := 86
def houseFvSid : Nat := 90
def houseFvVni : Nat := 98

/-- Header identities that the stage map and the classification name. -/
def houseHdrTag : Nat := 1
def houseHdrLabel : Nat := 3
def houseHdr4 : Nat := 11
def houseHdr6 : Nat := 12

/-- An IPv4 state, an IPv6 state and an extension-header state, with the lengths of R178. -/
def house4 (n : Nat) : PState := { houseState n houseHdr4 0 9 0xFF00 (0, 20, houseFv4) with lenOff := 0, lenMask := 0x0F, lenShift := 2 }
def house6 (n : Nat) : PState := houseState n houseHdr6 40 6 0xFF00 (0, 40, houseFv6)
def houseExt (n hdr : Nat) (x : Nat × Nat × Nat) : PState := { houseState n hdr 8 0 0xFF00 x with lenOff := 1, lenMask := 0xFF, lenShift := 3 }

/-- States: 0 Ethernet, 1–2 tags, 3–10 labels, 11 IPv4, 12 IPv6, 13–16 the extension headers in their order, 17–20 the same as segment routing headers, 21 the fifth extension header,
22 TCP, 23 UDP, 24 VXLAN, 25–27 GRE (flags; protocol; protocol and key), 28 inner Ethernet, 29 inner tag, 30 inner IPv4, 31 inner IPv6, 32–33 inner TCP and UDP. -/
def houseStates : List PState :=
  [houseState 0 0 14 12 0xFFFF (0, 14, 0), houseState 1 houseHdrTag 4 2 0xFFFF (0, 4, houseFvTag), houseState 2 2 4 2 0xFFFF (0, 4, 18)]
    ++ (List.range 8).map (fun i => houseState (3 + i) (houseHdrLabel + i) 4 2 0x0100 (0, if i == 0 then 4 else 0, houseFvLabel))
    ++ [house4 11, house6 12]
    ++ (List.range 4).map (fun i => houseExt (13 + i) (13 + i) (0, 0, 0))
    ++ (List.range 4).map (fun i => houseExt (17 + i) 17 (0, 8, houseFvSid))
    ++ [{ houseState 21 0 8 0xFF 0 (0, 0, 0) with reject := true }]
    ++ [houseState 22 22 20 0xFF 0 (0, 4, houseFvPorts), houseState 23 23 8 2 0xFFFF (0, 4, houseFvPorts), houseState 24 24 8 0xFF 0 (4, 3, houseFvVni),
        houseState 25 25 2 0 0xB000 (0, 0, 0), { houseState 26 0 2 0 0xFFFF (0, 0, 0) with noStack := true },
        { houseState 27 0 6 0 0xFFFF (2, 4, houseFvVni) with noStack := true },
        houseState 28 28 14 12 0xFFFF (0, 14, 0), houseState 29 29 4 2 0xFFFF (0, 0, 0), house4 30, house6 31]
    ++ [houseState 32 32 20 0xFF 0 (0, 4, houseFvPorts), houseState 33 33 8 0xFF 0 (0, 4, houseFvPorts)]

/-- A transition on a whole value of the select window. -/
def houseTo (src dst value : Nat) : PTrans := { src := src, dst := dst, prio := 0, value := value, mask := 0xFFFF }

/-- What an Ethernet or tag header may be followed by: IPv4, IPv6. -/
def houseL3 (src v4 v6 : Nat) : List PTrans := [houseTo src v4 0x0800, houseTo src v6 0x86DD]

/-- What an outer IP header may be followed by, by its protocol byte: inner IPv4 and IPv6, TCP, UDP, GRE, an inner Ethernet frame. -/
def houseL4 (src : Nat) : List PTrans :=
  [houseTo src 30 0x0400, houseTo src 31 0x2900, houseTo src 22 0x0600, houseTo src 23 0x1100, houseTo src 25 0x2F00, houseTo src 28 0x8F00]

/-- Extension header `n` (from 0) may follow: hop-by-hop, fragment and destination options, and the routing header; the fifth fails the parse. -/
def houseExts (src n : Nat) : List PTrans :=
  [0x0000, 0x2C00, 0x3C00].map (fun v => houseTo src (if n < 4 then 13 + n else 21) v) ++ [houseTo src (if n < 4 then 17 + n else 21) 0x2B00]

/-- The transitions. -/
def houseTrans : List PTrans :=
  [houseTo 0 1 0x8100, houseTo 0 1 0x88A8, houseTo 1 2 0x8100, houseTo 0 3 0x8847, houseTo 1 3 0x8847, houseTo 2 3 0x8847]
    ++ houseL3 0 11 12 ++ houseL3 1 11 12 ++ houseL3 2 11 12
    -- a label whose bottom-of-stack bit is clear is followed by the next
    ++ (List.range 7).map (fun i => houseTo (3 + i) (4 + i) 0)
    ++ houseL4 11 ++ houseL4 12 ++ houseExts 12 0
    ++ (List.range 4).flatMap (fun i => houseExts (13 + i) (i + 1) ++ houseL4 (13 + i) ++ houseExts (17 + i) (i + 1) ++ houseL4 (17 + i))
    ++ [houseTo 23 24 4789, { src := 24, dst := 28, prio := 0, value := 0, mask := 0 }]
    -- GRE without and with a key; the protocol names the inner header
    ++ [houseTo 25 26 0, houseTo 25 27 0x2000]
    ++ [26, 27].flatMap (fun n => houseL3 n 30 31 ++ [houseTo n 28 0x6558])
    ++ [houseTo 28 29 0x8100] ++ houseL3 28 30 31 ++ houseL3 29 30 31
    ++ [30, 31].flatMap (fun n => [houseTo n 32 0x0600, houseTo n 33 0x1100])

/-! ### The stage map (R198, R334). -/

/-- A use of a slot: stage, slot, kind, key source, condition and its header, and the key where R198 gives it (no selector where it does not). -/
structure HouseUse where
  stage : Nat
  slot : Nat
  kind : Nat
  keysrc : Nat := 0
  cond : Nat := 0
  condHdr : Nat := 0
  key : List W32 := []
  deriving DecidableEq, Repr

/-- A selector of `len` bytes at `off` of the field vector, and of the metadata. -/
def fvSel (off len : Nat) : W32 := at_ 0 8 off ||| at_ 8 6 len
def mdSel (off len : Nat) : W32 := fvSel off len ||| at_ 16 2 1

/-- The fields an access list is keyed on: PORT_CLASS, addresses, ports. -/
def houseAclKey : List W32 := [mdSel 4 2, fvSel (houseFv4 + 12) 8, fvSel (houseFv6 + 8) 32, fvSel houseFvPorts 4]

/-- The ingress lookups of R198. -/
def houseUses : List HouseUse :=
  [{ stage := 0, slot := 0, kind := 2, key := [mdSel 0 1, fvSel houseFvTag 2] },
   { stage := 1, slot := 0, kind := 1, key := houseAclKey },
   { stage := 2, slot := 0, kind := 2, cond := 1, condHdr := houseHdrLabel, key := [fvSel houseFvLabel 3] },
   { stage := 3, slot := 0, kind := 2, cond := 1, condHdr := houseHdr6, key := [fvSel (houseFv6 + 24) 16] },
   { stage := 3, slot := 1, kind := 2, key := [mdSel 24 2, fvSel 0 6] },
   { stage := 4, slot := 0, kind := 3, keysrc := 1, cond := 1, condHdr := houseHdr4, key := [mdSel 24 2, fvSel (houseFv4 + 16) 4] },
   { stage := 4, slot := 1, kind := 3, keysrc := 2, cond := 1, condHdr := houseHdr6, key := [mdSel 24 2, fvSel (houseFv6 + 24) 16] },
   { stage := 5, slot := 0, kind := 2, cond := 1, condHdr := houseHdr4, key := [fvSel (houseFv4 + 16) 4] },
   { stage := 5, slot := 1, kind := 2, cond := 1, condHdr := houseHdr6, key := [fvSel (houseFv6 + 24) 16] },
   { stage := 7, slot := 0, kind := 1, key := houseAclKey ++ [mdSel 14 2] }]

/-- The egress lookups of R334: ME0 by the bridge domain, ME1 by the ENCAP bytes, ME2 by the VNI or key. -/
def houseEgressUses : List HouseUse :=
  [{ stage := 0, slot := 0, kind := 2, key := [mdSel 32 2] }, { stage := 1, slot := 0, kind := 2 }, { stage := 2, slot := 0, kind := 2, key := [mdSel 36 3] }]

/-- A stage map of `b` makes a use. -/
def Book.makesUse (b : Book) (m : List SlotEnt) (u : HouseUse) : Bool :=
  m.any fun e => e.stage == u.stage && e.slot == u.slot && e.kind == u.kind && e.keysrc == u.keysrc && e.cond == u.cond && e.condHdr == u.condHdr
    && (u.key.isEmpty || slotSels b.tables e == u.key)

/-- The destination-MAC table of MA3 learns source MACs of the bridge domain (EVPN; R198, R203). -/
def Book.houseLearns (b : Book) : Bool :=
  b.imap.any fun e => e.stage == 3 && e.slot == 1
    && (b.tables.any fun t => t.id == e.table && t.learnSel == [mdSel 24 2, fvSel 6 6])
    && b.iprog.any fun i => fld i.w0 0 8 == 0x12 && i.imm.toNat == e.table

/-! ### Classification (R198). -/

/-- The traffic class: 7 minus the top label's TC, the PCP or DSCP[5:3], in that order of preference; DEF_TC with none of these. -/
def houseTc (q : Parsed) (defTc : Nat) : Nat :=
  let has (h : Nat) : Bool := q.present / 2 ^ h % 2 == 1
  let fv (i : Nat) : Nat := (q.fv.getD i 0).toNat
  if has houseHdrLabel then 7 - fv (houseFvLabel + 2) / 2 % 8
  else if has houseHdrTag then 7 - fv houseFvTag / 32
  else if has houseHdr4 then 7 - fv (houseFv4 + 1) / 32
  else if has houseHdr6 then 7 - fv houseFv6 / 2 % 8
  else defTc

/-- Ticket bytes 32–39: bridge domain or VRF, rewrite selector, 0, VNI or service label, 0. -/
def houseResult (domain sel vni : Nat) : List Byte := beBytes 2 domain ++ [BitVec.ofNat 8 sel, 0] ++ beBytes 3 vni ++ [0]

/-- The frame offset of the FIB address behind `tags` tags. -/
def houseAddrAt (tags : Nat) (v6 : Bool) : Nat := 14 + 4 * tags + if v6 then 24 else 16

/-! ### Rewrites (R334). -/

/-- What the egress pipeline does with a frame. -/
inductive HouseRewrite
  /-- The outer VLAN is set from the bridge domain. -/
  | bridged
  /-- MAC addresses from the next hop, and DEC_TTL. -/
  | routed
  /-- A label is swapped or pushed. -/
  | label
  /-- Outer VXLAN or GRE headers. -/
  | tunnel
  /-- SRv6 encapsulation or segment update. -/
  | srv6
  /-- The frame leaves unchanged. -/
  | leave
  deriving DecidableEq, Repr

/-- The rewrite that ticket byte 34 selects, and whether SET_CE runs (R261). -/
def houseRewrite (b : Byte) : HouseRewrite × Bool :=
  let n := b.toNat % 64
  (if n == 0 then .bridged else if n == 1 then .routed else if n == 2 then .label else if n == 3 then .tunnel else if n == 4 then .srv6 else .leave, b.getLsbD 6)

/-- The instruction that each rewrite needs stands in the egress program: SET_VLAN by WRITE, DEC_TTL, PUSH, SET_CE. -/
def Book.houseEgress (b : Book) : Bool := [0x20, 0x22, 0x24, 0x26].all fun op => b.eprog.any fun i => fld i.w0 0 8 == op

/-- The place of a replica's own VNI or service label in the result bytes: AT 4 and LEN 3. -/
def houseReplica : Nat × Nat := (4, 3)

/-! ### A House Book. -/

/-- What chapter 04, R198 and R334 say of the book as data. -/
def Book.isHouse (b : Book) : Bool :=
  b.houseShape && b.states == houseStates && b.trans == houseTrans && houseUses.all (b.makesUse b.imap) && houseEgressUses.all (b.makesUse b.emap)
    && b.houseLearns && b.houseEgress

/-- Result bytes have R198's form: bridge domain or VRF, rewrite selector, 0, VNI or service label, 0. -/
def houseForm (res : List Byte) : Bool := res.take 8 == houseResult (ofBe (res.take 2)) (res.getD 2 0).toNat (ofBe (slice res 4 3))

/-- What R198 says of one pass under the House Book: a packet whose parse succeeds, and whose class no access list set, has the class and the result bytes of R198. The programs that bring it about, and the table entries they hit, are Meruele's and the host's. -/
def Dev.houseActs (s : Dev) (b : Book) (epoch : Nat) (f : RxFrame) : Bool :=
  let (p, k) := s.ingressPass b epoch f false
  let q := b.parse f.bytes
  q.result != 0 || (p.mdN 2 1 == houseTc q (fld (s.pRg Reg.IPP_PORT_CFG f.port) 16 3) && houseForm k.res)

end Sys2Proof.Machine
end

