-- ==== Sys2Proof/Machine/Package.lean ====
section
/-! DEFINITION. The ball map of the package and the power table of the domains (chapters 21, 22): what a board sees of the device besides its registers. -/
namespace Sys2Proof.Machine

/-! ### Balls (R480–R486). -/

/-- A supply net (R487); the HBM rails belong to a stack. -/
inductive Supply
  | f | sram | sdsL | t | sdsF | aSds | cca | ccb | aon | io18
  | hbmCore (s : Nat) | hbmIo (s : Nat) | hbmPump (s : Nat)
  deriving DecidableEq, Repr

/-- The signals of a module cage, by their row k (R484). -/
inductive CageSig | presN | pwren | pg | attnN | indA | indG
  deriving DecidableEq, Repr

/-- The unique signals of R486. -/
inductive Sole
  | peRefclkP | peRefclkN | sysRefclkP | sysRefclkN | perstN | wakeN | ppsIn | ppsOut | todIn | todOut | tableauIn | tableauOut
  | xspiClk | xspiCsN | xspiDqs | xspiResetN | xspiD (n : Nat) | hbmEn (s : Nat) | hbmPg (s : Nat)
  | tck | tms | tdi | tdo | trstN
  deriving DecidableEq, Repr

/-- What a ball carries: `tx` transmit, `neg` the negative leg of a pair. -/
inductive Net
  | vss
  | rail (r : Supply)
  | line (l : Nat) (tx neg : Bool)
  | fabric (f : Nat) (tx neg : Bool)
  | pcie (n : Nat) (tx neg : Bool)
  | lnRefclk (c : Nat) (neg : Bool)
  | fbRefclk (h : Nat) (neg : Bool)
  | cage (n : Nat) (k : CageSig)
  | i2c (m : Nat) (sda : Bool)
  | sole (p : Sole)
  deriving DecidableEq, Repr

/-- Every grid position holds a ball but those of the capacitor area (R480). -/
def populated (x y : Nat) : Bool :=
  decide (1 ≤ x ∧ x ≤ 120 ∧ 1 ≤ y ∧ y ≤ 120) && !decide (31 ≤ x ∧ x ≤ 90 ∧ 37 ≤ y ∧ y ≤ 84)

/-- The origins of the blocks of line lane l, fabric lane f and HBM stack s (R481, R482, R485). -/
def lineOrigin (l : Nat) : Nat × Nat := (13 + 12 * (l / 16 % 8) + 3 * (l % 16 % 4), 1 + 16 * (l / 16 / 8) + 4 * (l % 16 / 4))
def fabricOrigin (f : Nat) : Nat × Nat :=
  (1 + 12 * (f / 16 % 5 + 5 * (f / 16 / 10)) + 3 * (f % 16 % 4), 89 + 16 * (f / 16 / 5 % 2) + 4 * (f % 16 / 4))
def stackOrigin (s : Nat) : Nat × Nat := ((if s < 4 then 1 else 91) + 15 * (s % 2), 73 + 6 * (s % 4 / 2))

/-- The lane whose 3 × 4 block holds a ball of the line-lane zone, and of the fabric-lane zone. -/
def lineAt (x y : Nat) : Nat := 16 * ((x - 13) / 12 + 8 * ((y - 1) / 16)) + (x - 13) % 12 / 3 + 4 * ((y - 1) % 16 / 4)
def fabricAt (x y : Nat) : Nat :=
  16 * ((x - 1) / 12 % 5 + 5 * ((y - 89) / 16) + 10 * ((x - 1) / 60)) + (x - 1) % 12 / 3 + 4 * ((y - 89) % 16 / 4)

/-- Line-side balls (R483). -/
def lineSide (x y : Nat) : Net :=
  if x ≤ 4 || 117 ≤ x then .rail .sdsL
  else if x == 5 || x == 8 || x == 113 || x == 116 then .vss
  else if x == 6 || x == 7 || x == 114 || x == 115 then
    let c := (y - 3) / 4 + (if x < 60 then 0 else 8)
    if 3 ≤ y && (y - 3) % 4 == 0 && (y - 3) / 4 < 8 then .lnRefclk c (x == 7 || x == 115) else .vss
  else .rail .aSds

/-- The signal of row k of a cage. -/
def cageSig (k : Nat) : CageSig := match k with | 0 => .presN | 1 => .pwren | 2 => .pg | 3 => .attnN | 4 => .indA | _ => .indG

/-- F-core balls (R483, R484). -/
def fCore (x y : Nat) : Net :=
  if x ≤ 16 && 37 ≤ y then .cage (x - 1 + 16 * ((y - 37) / 6)) (cageSig ((y - 37) % 6))
  else if 105 ≤ x && (y == 37 || y == 38) then .i2c (x - 105) (y == 38)
  else if (x == 17 || x == 18) && 37 ≤ y then .rail .io18
  else match (x + y) % 4 with | 0 => .vss | 3 => .rail .sram | _ => .rail .f

/-- The signals of X107 to X120, row by row (R486). -/
def soleRow (y : Nat) : List Net :=
  if y == 61 then [.sole .peRefclkP, .sole .peRefclkN, .vss, .sole .sysRefclkP, .sole .sysRefclkN, .vss, .sole .perstN, .sole .wakeN,
    .sole .ppsIn, .sole .ppsOut, .sole .todIn, .sole .todOut, .sole .tableauIn, .sole .tableauOut]
  else if y == 62 then [.sole .xspiClk, .sole .xspiCsN, .sole .xspiDqs, .sole .xspiResetN] ++ (List.range 8).map (fun n => .sole (.xspiD n)) ++ [.vss, .vss]
  else if y == 63 then (List.range 8).map (fun s => .sole (.hbmEn s)) ++ [.sole .tck, .sole .tms, .sole .tdi, .sole .tdo, .sole .trstN, .vss]
  else (List.range 8).map (fun s => .sole (.hbmPg s)) ++ List.replicate 4 (.rail .io18) ++ [.vss, .vss]

/-- T-core and HBM balls (R483, R485, R486). -/
def tCore (x y : Nat) : Net :=
  if y ≤ 64 then
    if 107 ≤ x then (soleRow y).getD (x - 107) .vss
    else if 91 ≤ x then (if y == 61 || y == 63 then .pcie ((x - 91) / 2) (y == 61) ((x - 91) % 2 == 1) else .vss)
    else if x ≤ 8 then .rail .cca
    else if 11 ≤ x && x ≤ 18 then .rail .ccb
    else if 21 ≤ x && x ≤ 26 then .rail .aon
    else .vss
  else if y ≤ 72 then (if (x + y) % 2 == 0 then .vss else .rail .t)
  else
    let s := (if x < 60 then (x - 1) / 15 else 4 + (x - 91) / 15) + 2 * ((y - 73) / 6)
    let dx := x - (stackOrigin s).1
    let dy := y - (stackOrigin s).2
    if dy == 0 && dx < 3 then .rail (.hbmPump s)
    else match (dx + dy) % 3 with | 0 => .vss | 1 => .rail (.hbmIo s) | _ => .rail (.hbmCore s)

/-- Fabric-supply balls (R483). -/
def fabricSupply (x y : Nat) : Net :=
  if y == 85 || y == 88 then .vss
  else if y == 87 then .rail .aSds
  else if x == 30 || x == 31 then .fbRefclk 0 (x == 31)
  else if x == 90 || x == 91 then .fbRefclk 1 (x == 91)
  else if x == 29 || x == 32 || x == 89 || x == 92 then .vss
  else .rail .sdsF

/-- The net of a ball, none at a position without one (R480–R486). -/
def ballNet (x y : Nat) : Option Net :=
  if !populated x y then none
  else if y ≤ 32 then
    if x < 13 || 108 < x then some (lineSide x y)
    else
      let o := lineOrigin (lineAt x y)
      some (match x - o.1, y - o.2 with
        | 0, 0 => .line (lineAt x y) true false
        | 1, 0 => .line (lineAt x y) true true
        | 0, 2 => .line (lineAt x y) false false
        | 1, 2 => .line (lineAt x y) false true
        | _, _ => .vss)
  else if y ≤ 60 then some (fCore x y)
  else if y ≤ 84 then some (tCore x y)
  else if y ≤ 88 then some (fabricSupply x y)
  else
    let o := fabricOrigin (fabricAt x y)
    some (match x - o.1, y - o.2 with
      | 0, 3 => .fabric (fabricAt x y) true false
      | 1, 3 => .fabric (fabricAt x y) true true
      | 0, 1 => .fabric (fabricAt x y) false false
      | 1, 1 => .fabric (fabricAt x y) false true
      | _, _ => .vss)

/-- The ball belongs to a unit that the variant lacks: left unconnected or unpowered (R6, R482, R485). -/
def Net.idle (v : Variant) : Net → Bool
  | .fabric _ _ _ => !v.hasFab
  | .rail (.hbmCore s) | .rail (.hbmIo s) | .rail (.hbmPump s) => !v.hasStack s
  | _ => false

/-! ### Power (R466) and rails (R487). -/

/-- Maximum and typical power of a domain in watts, none for a domain the variant holds off. -/
def Variant.power (v : Variant) (d : Nat) : Nat × Nat :=
  if !v.hasDomain d then (0, 0)
  else if d < 16 then (45, 36) else if d == 16 then (95, 75) else if d == 17 then (60, 40) else if d == 18 then (25, 18)
  else if d == 19 then (70, 50) else if d < 28 then (22, 16) else if d < 30 then (80, 64) else (8, 5)

/-- F-base, T-base and AON: maximum and typical power in watts. -/
def basePower : List (Nat × Nat) := [(80, 65), (190, 155), (8, 5)]

/-- Nominal, minimum and maximum of a rail in millivolts. -/
def Supply.limits : Supply → Nat × Nat × Nat
  | .f | .t => (750, 720, 780)
  | .sram | .cca | .ccb | .aon => (800, 776, 824)
  | .sdsL | .sdsF => (900, 873, 927)
  | .aSds => (1200, 1164, 1236)
  | .io18 | .hbmPump _ => (1800, 1710, 1890)
  | .hbmCore _ => (1050, 1020, 1080)
  | .hbmIo _ => (750, 728, 772)

end Sys2Proof.Machine
end

