-- ==== Sys2Proof/WellFormed.lean ====
section
/-! DEFINITION. Well-formed commands: the conditions on operands that their types do not say. -/
namespace Sys2Proof
open Sys2Proof.Machine

/-- An access lies in its space (R41, R361, R365) and has a length. -/
def accessWf (x : Access) : Bool :=
  x.len.val != 0 && (match x.space with
    | .bar0 => true
    | .bar4 => decide (x.addr.toNat < 0x10000)
    | .config => decide (x.addr.toNat < 0x1000))

/-- A table-work command has at most 14 words after its tag (R208). -/
def twWf (c : TwCmd) : Bool := decide (c.w.length ≤ 14)

/-- The OP bytes of the table-work operations that have rows of their own (R209, R237, R322): every one but NOP's 0x3F. -/
def twOps : List Nat :=
  [0x01, 0x02, 0x03, 0x04, 0x10, 0x11, 0x18, 0x19, 0x1A, 0x1B, 0x20, 0x21, 0x22, 0x28, 0x29, 0x30, 0x31, 0x32, 0x33,
   0x40, 0x41, 0x42, 0x43, 0x44, 0x45]

/-- A command is well-formed. -/
def wellFormed (i : Instr) : Bool :=
  match i with
  | .flitReceive _ _ _ _ flit => flit.length == 256
  | .replayRequest _ _ _ => true
  | .bundleLeaveRotation _ _ _ => true
  | .bundleRetrainComplete _ _ _ => true
  | .registerWrite x _ => accessWf x
  | .accessTimeLimit x _ => accessWf x
  | .wingWrite _ _ _ => true
  | .strobeMapWrite _ _ _ => true
  | .mbxRead _ _ _ _ _ _ _ => true
  | .mbxWrite _ _ _ _ _ => true
  | .mbxComplete _ => true
  | .mbxTimeLimit _ => true
  | .unlockArm _ => true
  | .unlockDisarm _ _ => true
  | .unlockLapse _ => true
  | .cueTick _ => true
  | .freqAdjWrite _ _ => true
  | .phaseAdjWrite _ _ => true
  | .ppsInEdge _ => true
  | .todInCharacter _ => true
  | .setTimeValid _ _ => true
  | .clearTimeValid _ _ => true
  | .oscCheckWindow _ => true
  | .cueSubmit _ _ => true
  | .cueCancel _ _ => true
  | .strobeFire _ _ => true
  | .strobeApplicationComplete _ => true
  | .epochCmdCommit _ _ => true
  | .epochCmdRetire _ _ => true
  | .retainWrite _ _ => true
  | .quarantineEnd _ => true
  | .triggerGo _ _ => true
  | .tableauInEdge _ => true
  | .tableauRelease _ => true
  | .check _ => true
  | .checkComplete _ => true
  | .stage _ => true
  | .abort _ => true
  | .coldInstall _ => true
  | .reshapeRegion _ _ => true
  | .endSplit _ => true
  | .frameReceive _ bytes _ _ _ _ => bytes.length != 0
  | .portDown _ _ => true
  | .portUp _ => true
  | .holdExpiry _ => true
  | .linkTrainingEnd _ _ _ _ => true
  | .psiMultiframeBoundary _ _ _ _ => true
  | .rfCapRise _ => true
  | .rfExpectTimeout _ => true
  | .rateFollowRequest _ _ _ _ => true
  | .modemPoll _ _ => true
  | .otucFrame _ _ => true
  | .gccRecordClose _ _ => true
  | .gccTxRecord _ _ _ bytes _ => decide (bytes.length ≤ 16384)
  | .clearContextLoad _ _ _ => true
  | .clearKekLoad _ _ _ => true
  | .wrappedContextLoad _ _ _ _ => true
  | .restore _ _ _ _ _ => true
  | .park _ _ _ _ => true
  | .drop _ _ _ _ => true
  | .erase _ _ _ _ => true
  | .lciSwitchNow _ _ _ => true
  | .cipherRestore _ _ _ => true
  | .selfTestComplete _ _ => true
  | .frameTransmit _ _ _ => true
  | .headEntry _ => true
  | .pipelineExit _ => true
  | .predictorFlush _ _ _ _ => true
  | .fibSet c => twWf c
  | .fibDel c => twWf c
  | .fibGet c => twWf c
  | .fibMatch c => twWf c
  | .nhSet c => twWf c
  | .nhGet c => twWf c
  | .ecmpSet c => twWf c
  | .ecmpGet c => twWf c
  | .membersSet c => twWf c
  | .membersGet c => twWf c
  | .exmSet c => twWf c
  | .exmDel c => twWf c
  | .exmGet c => twWf c
  | .rehashStart c => twWf c
  | .rehashAbort c => twWf c
  | .rehashMigration _ => true
  | .rehashComplete _ => true
  | .nop x => twWf x.c && !twOps.contains x.op.toNat
  | .watchRevert _ => true
  | .hostWatchLive _ _ => true
  | .hostWatchDead _ _ => true
  | .rearm _ _ => true
  | .agingScan _ => true
  | .acsUnit c => twWf c
  | .acsSet c => twWf c
  | .acsDel c => twWf c
  | .acsGet c => twWf c
  | .start _ _ _ _ => true
  | .next _ => true
  | .throttleSample _ => true
  | .throttleWrite _ _ => true
  | .spillEnable _ _ => true
  | .hbmRegionWrite _ _ _ => true
  | .prePullRead _ _ => true
  | .dequeueCommit _ _ => true
  | .voqService _ => true
  | .bufferFree _ _ _ => true
  | .auditPassEnd _ => true
  | .creditGrant _ => true
  | .cellReceive _ _ _ _ _ payload => decide (payload.length ≤ 256)
  | .reassemblyTimeout _ _ _ => true
  | .controlSlotReceive _ _ _ msgs => msgs.length == 64
  | .request _ _ _ _ _ => true
  | .grant _ => true
  | .revoke _ => true
  | .reachability _ _ _ => true
  | .requestRefresh _ => true
  | .requesterTimeout _ _ _ => true
  | .reachabilityMapExpiry _ _ => true
  | .fabricLaneFailure _ _ => true
  | .fabricLaneInService _ => true
  | .pinHoldExpiry _ => true
  | .pinEntryQuiet _ => true
  | .pinMoveTimeout _ => true
  | .fabPinMove _ _ _ => true
  | .fabPinForce _ _ _ _ => true
  | .deviceIdWrite _ _ => true
  | .fabCfgWrite _ _ => true
  | .mcGroupSet c => twWf c
  | .mcGroupGet c => twWf c
  | .replSet c => twWf c
  | .replGet c => twWf c
  | .mirrorSet c => twWf c
  | .mirrorGet c => twWf c
  | .egressPipelineEntry _ => true
  | .hbmTrain _ _ _ => true
  | .fullSweep _ _ _ => true
  | .returnToReset _ _ _ => true
  | .trainingComplete _ lanes => lanes.length == 256
  | .verificationComplete _ _ lanes => lanes.length == 256
  | .trackingMeasurement _ _ _ _ _ _ => true
  | .bankIdlePrecharge _ _ _ => true
  | .refresh _ _ _ _ => true
  | .hbmTemperatureReading ts => ts.length == 8
  | .hbmThermWrite _ _ => true
  | .patrolScrub _ _ => true
  | .hbmPgRise _ => true
  | .hbmPgLoss _ => true
  | .peerWindowAccess _ _ write data _ => decide (data.length ≤ 4096) && (write || data.isEmpty)
  | .ringEnable _ _ _ => true
  | .ringDisable _ _ _ => true
  | .hostIdxWrite _ _ _ => true
  | .transmitPacket _ descs _ => descs.all fun d => d.length == 8
  | .interruptHoldoffExpiry _ => true
  | .ringReadTimeout _ => true
  | .cageRemoval _ => true
  | .cageInsertion _ => true
  | .attentionPress _ => true
  | .cagePowerRequest _ _ _ => true
  | .cagePowerOff _ _ _ => true
  | .cagePowerGood _ => true
  | .cagePgTimeout _ => true
  | .cagePgLoss _ => true
  | .i2cTransaction _ _ _ => true
  | .i2cComplete _ _ data => decide (data.length ≤ 32)
  | .i2cStretchTimeout _ _ => true
  | .claim _ _ => true
  | .renew _ => true
  | .release _ => true
  | .callDrop _ => true
  | .ccxCallForce _ _ _ => true
  | .serviceCycle _ _ _ _ => true
  | .understudyPoll _ => true
  | .download _ _ => true
  | .verify _ _ => true
  | .activate _ _ => true
  | .confirm _ _ => true
  | .fallBack _ _ => true
  | .eraseSlot _ _ => true
  | .installKey _ _ => true
  | .removeKey _ _ => true
  | .clearCrash _ _ => true
  | .updCommandComplete _ => true
  | .coldBoot _ _ _ => true
  | .trialWatchdog _ => true
  | .crashLogEntry x _ payload => decide (payload.length ≤ 4072) && x.toNat != 3
  | .getVersion _ _ => true
  | .getCapabilities _ _ => true
  | .negotiateAlgorithms _ _ => true
  | .getDigests _ _ => true
  | .getCertificate _ _ => true
  | .challenge _ _ => true
  | .getMeasurements _ _ => true
  | .fuseProgram _ _ _ _ => true
  | .sramScrub _ => true
  | .digestComparison _ _ _ _ => true
  | .digestRecompute _ _ _ _ => true
  | .shadowScrub _ => true
  | .releaseCluster _ _ _ => true
  | .releaseFRegion _ _ _ => true
  | .releaseTRegion _ _ _ => true
  | .releaseUnit _ _ _ => true
  | .resyncComplete _ => true
  | .statsWriteback _ _ => true
  | .counterOverflow _ _ _ _ => true
  | .pwrPdCtrlWrite _ _ => true
  | .domainTransitionComplete _ => true
  | .hbmPgTimeout _ => true
  | .fDieReset _ _ => true
  | .deviceReset _ _ => true
  | .ccaReset _ _ => true
  | .ccbReset _ _ => true
  | .blockReset _ _ => true
  | .complexWatchdog _ => true
  | .thermalSample f t => f.length == 24 && t.length == 16
  | .sensorSilence _ => true
  | .railLoss _ => true
  | .tapInstruction _ => true
  | .registerRead x => accessWf x
  | .laneLock _ => true
  | .prbsCheckerLock _ _ _ => true
  | .ringReadCompletion _ _ descs => descs.all fun d => d.length == 8
  | .doeDiscovery _ => true
  | .railInTolerance _ => true
  | .phaseSlewEnd => true
  | .todOutSend => true
  | .sysRefclkLoss => true
  | .epochFree => true
  | .retentionLimit => true
  | .stragglerSweep => true
  | .stageComplete => true
  | .coldInstallDrainEnd => true
  | .coldInstallComplete => true
  | .reshapeRegionComplete => true
  | .loadWordsClear => true
  | .learnCandidate => true
  | .learnHoldExpiry => true
  | .crossingHeadArrival => true
  | .admissionCommit => true
  | .auditPassStart => true
  | .localReplication => true
  | .busMasterEnableClear => true
  | .initiateFunctionLevelReset => true
  | .flrReset => true
  | .d3hotEntry => true
  | .d0Return => true
  | .perstNAssert => true
  | .linkLoss => true
  | .leaseExpiry => true
  | .activationSynced => true
  | .activationTimeout => true
  | .settingsCompaction => true
  | .probeRun => true
  | .snapshotCopyComplete => true
  | .fDieResetComplete => true
  | .aonPowerOn => true
  | .perstNRelease => true
  | .sysRefclkReturn => true
  | .contextCommandComplete => true
  | .doeAbort => true
  | .pcieLinkTrained => true
  | .noCallTimeout => true

end Sys2Proof
end

