-- ==== Sys2Proof/Tests/Slice0.lean ====
section
/-! SUPPORT. Witnesses and small tests.
For every statement with hypotheses, a theorem `witness_<part>` shows for each of its clauses a state and operands that meet the clause's hypotheses; the theorems `test_…` show an ill-formed term that each check of WellFormed refuses.
The numbers in the states are arbitrary, chosen to meet the hypotheses. -/

namespace Sys2Proof.Tests

set_option maxRecDepth 100000
-- One theorem after another: in parallel their threads' stacks would fill the memory limit of the check.
set_option Elab.async false

open Sys2Proof Sys2Proof.Machine Sys2Proof.Safety

def D0 : Dev :=
  let d : Dev := { Dev.reset .a with bases := true, arming := { host := true, ccA := true, ccB := true }, pci := { memSpace := true, busMaster := true, perst := false, released := true, link := 1 } }
  let d := d.wg Reg.PWR_PD_STATUS 0 0 0xFFFFFFFF#32
  let d := d.wg Reg.CCX_CALL 0 0 1#32
  { d with ccx := { d.ccx with runA := true, runB := true } }
def S (d : Dev) : State := { d with latched := none, pending := [] }
def S0 := S D0
def book0 : Book := { id := 1, digest := List.replicate 48 1, secVersion := 1, toolVer := 1, xsize := 64, carried := 0, requires := 0, hbmUse := 1, states := [], trans := [], imap := [], hash := [], hashed := false, emap := [], tables := [], iprog := [], eprog := [], hier := [], alloc := 1024, snap := 16, ranges := [] }
def upd (d : Dev) (f : Dev → Dev) : Dev := f d
def cu (f : CueSt → CueSt) (d : Dev := D0) : Dev := { d with cue := f d.cue }
def port (p : Nat) (f : PortSt → PortSt) (d : Dev := D0) : Dev := d.setPort p (f (d.port p))
def tblF : TShape := { id := 1, tkind := 3, alloc := 1000, seed := 0, alloc2 := 0, reshape := false, recs := [[1, 6, 0, 0], [at_ 0 3 2 ||| at_ 8 1 1, 6, 0, 0]] }
def tblN : TShape := { id := 2, tkind := 8, alloc := 100, seed := 0, alloc2 := 50, reshape := false, recs := [[400, 0, 0, 0]] }
def twD (d : Dev := D0) : Dev := 
  let d : Dev := { d with pbk := { d.pbk with inForce := some { book0 with tables := [tblF, tblN] } } }
  let d := d.wf Reg.PBK_STATE 0 0 0 4 4
  let d := d.ringWg Reg.DMA_DEV_IDX 1093 (at_ 16 3 1 ||| 4)
  d.ringWg Reg.DMA_HOST_IDX 1093 9
def repD (r : Rep) (d : Dev := twD) : Dev := { d with rep0 := r, rep1 := r, intent := r }
def cmd (table : Nat) (w : List W32) (region : Nat := 0) : TwCmd := { ring := 5, hi := BitVec.ofNat 24 (table + 256 * region), tag := 77, w := w }
def rnd (seed n : Nat) : List Nat := ((List.range (2*n)).foldl (fun (a : List Nat × Nat) _ => let y := (a.2 * 6364136223846793005 + 1442695040888963407) % 2^64; (y / 2^33 :: a.1, y)) ([], seed + 77777)).1
def bs (n : Nat) : List Byte := (List.range n).map fun i => BitVec.ofNat 8 i
def hier0 : List HierRec := [{ level := 3, num := 81, parent := 20, slot := 4 }, { level := 3, num := 82, parent := 20, slot := 5 }, { level := 2, num := 20, parent := 7, slot := 4 }, { level := 1, num := 7, parent := 5, slot := 0 }]
def tmD : Dev :=
  let d : Dev := { D0 with pbk := { D0.pbk with inForce := some { book0 with hier := hier0 } }, cue := { D0.cue with house := [(0, 9)], localNs := 10000000 } }
  let d := (d.wf Reg.PBK_STATE 0 0 0 4 4).wf Reg.BPM_ONDIE_FREE 0 0 0 20 700000
  let d := (d.setObj bQAD 0x11 0 [50, 50, 50, 1000, 1000, 1000, 0, 0]).setObj bQAD 0x10 0 [20, 0, 0x888, 0]
  let d := ((d.setObj bSCH 1 0 [at_ 4 17 1000 ||| 1, at_ 0 8 0 ||| at_ 8 8 31, 0, 0]).setObj bSCH 5 5 [100, 0, 0x11111111, at_ 3 14 10]).setObj bSCH 1 77 [at_ 4 17 3000 ||| 1, at_ 0 8 0 ||| at_ 8 8 31, 0, 0]
  let d := [nodeKey 0 5, nodeKey 1 7, nodeKey 2 20, nodeKey 3 81, nodeKey 3 82].foldl (fun d n => d.setObj bSCH 2 n [ones, 1000, ones, 1000, 1, 0, 0, 0]) d
  let d := (d.wg Reg.SCH_MC_VOQ_BASE 0 0 (at_ 3 14 250)).wg Reg.SCH_HOST_VOQ_BASE 0 0 (at_ 3 14 260)
  (d.pWf Reg.LNP_PORT_STATUS 5 0 3 2).pWg Reg.LNP_PORT_CFG 5 (at_ 0 1 1 ||| at_ 8 14 1518)
def tkt (v : Nat) : Ticket := { voq := BitVec.ofNat 17 v, tc := 1, dst := at_ 10 8 5, frameLen := 104 }
def pkd (i v : Nat) : Pkt := { head := ptrOnDie i, owner := 0, ticket := tkt v, frame := bs 100 }
def chn (is : List Nat) (d : Dev) : Dev := { d with tm := { d.tm with chains := is.map fun i => (ptrOnDie i, { bufs := [ptrOnDie i], owners := [0] }) } }
def qd (q : Nat) (l : List Pkt) (d : Dev := tmD) : Dev := (chn [1, 2, 3, 4] d).setQueue q { pkts := l, depth := l.length, onDie := l.length, link := l.foldl (fun w k => w ^^^ linkTerm k.head) 0 }
def cred (v : Nat) (n : Int) (d : Dev) : Dev := { d with tm := { d.tm with credit := mset 0 d.tm.credit v n } }

/-- A name for a value that the statement defines. -/
theorem the {α : Sort _} {e : α} {P : α → Prop} (h : P e) : ∃ x, x = e ∧ P x := ⟨e, rfl, h⟩

/-- What an answer holds, when it holds something. -/
theorem got {α : Type} {o : Option α} {P : α → Prop} (h : o.isSome = true) (k : P (o.get h)) : ∃ x, o = some x ∧ P x := ⟨_, (Option.some_get h).symm, k⟩
theorem got0 {α : Type} {o : Option α} (h : o.isSome = true) : ∃ x, o = some x := ⟨_, (Option.some_get h).symm⟩
theorem gotPair0 {α β : Type} {o : Option (α × β)} (h : o.isSome = true) : ∃ x y, o = some (x, y) := ⟨_, _, (Option.some_get h).symm⟩
theorem gotPair {α β : Type} {o : Option (α × β)} {P : α → β → Prop} (h : o.isSome = true) (k : P (o.get h).1 (o.get h).2) : ∃ x y, o = some (x, y) ∧ P x y :=
  ⟨_, _, (Option.some_get h).symm, k⟩

/-- The head and the tail of a list that is not empty. -/
theorem gotCons {α : Type} {l : List α} {P : α → List α → Prop} (h : l ≠ []) (k : P (l.head h) l.tail) : ∃ x r, l = x :: r ∧ P x r :=
  ⟨_, _, (List.cons_head_tail h).symm, k⟩

/-- What every answer of an `Option` satisfies, decided on the one it holds. -/
theorem held {α : Type} {o : Option α} {P : α → Prop} (h : ∀ x, x ∈ o → P x) : ∀ x, o = some x → P x := h

/-- Every member of a list, decided one by one. -/
theorem allOf {α : Type} {l : List α} {P : α → Prop} [DecidablePred P] (h : l.all (fun x => decide (P x)) = true) : ∀ x ∈ l, P x :=
  fun x m => of_decide_eq_true (List.all_eq_true.mp h x m)

/-- The value of a computation that ends well, and the error of one that does not. -/
def valueOf {ε α : Type} : Except ε α → Option α
  | .ok x => some x
  | .error _ => none
theorem okIs {ε α : Type} {o : Except ε α} {x : α} (h : valueOf o = some x) : o = .ok x := by
  cases o with
  | ok y => exact congrArg Except.ok (Option.some.inj h)
  | error _ => cases h
def errorOf {ε α : Type} : Except ε α → Option ε
  | .ok _ => none
  | .error e => some e
theorem errIs {ε α : Type} {o : Except ε α} {e : ε} (h : errorOf o = some e) : o = .error e := by
  cases o with
  | ok _ => cases h
  | error y => exact congrArg Except.error (Option.some.inj h)
theorem gotOk {ε α : Type} {o : Except ε α} {P : α → Prop} (h : (valueOf o).isSome = true) (k : P ((valueOf o).get h)) : ∃ x, o = .ok x ∧ P x := by
  cases o with
  | ok x => exact ⟨x, rfl, k⟩
  | error _ => cases h
theorem gotOkPair {ε α β : Type} {o : Except ε (α × β)} {P : α → β → Prop} (h : (valueOf o).isSome = true) (k : P ((valueOf o).get h).1 ((valueOf o).get h).2) :
    ∃ x y, o = .ok (x, y) ∧ P x y := by
  cases o with
  | ok x => exact ⟨x.1, x.2, rfl, k⟩
  | error _ => cases h
theorem gotOkSix {ε α β γ δ ζ η : Type} {o : Except ε (α × β × γ × δ × ζ × η)} {P : α → β → γ → δ → ζ → η → Prop} (h : (valueOf o).isSome = true)
    (k : P ((valueOf o).get h).1 ((valueOf o).get h).2.1 ((valueOf o).get h).2.2.1 ((valueOf o).get h).2.2.2.1 ((valueOf o).get h).2.2.2.2.1 ((valueOf o).get h).2.2.2.2.2) :
    ∃ a b c d e f, o = .ok (a, b, c, d, e, f) ∧ P a b c d e f := by
  cases o with
  | ok x => exact ⟨x.1, x.2.1, x.2.2.1, x.2.2.2.1, x.2.2.2.2.1, x.2.2.2.2.2, rfl, k⟩
  | error _ => cases h
theorem gotErr0 {ε α : Type} {o : Except ε α} (h : (valueOf o).isSome = false) : ∃ e, o = .error e := by
  cases o with
  | ok x => cases h
  | error e => exact ⟨e, rfl⟩

namespace W01

def off : Dev := { D0 with bases := false }

/-- Meets the hypotheses of `AccessesAreDenied` (its part DenialOrder). -/
theorem witness_DenialOrder :
    (∃ x : Access, (x.len.val ≠ 4 ∨ x.full = false ∨ x.addr.toNat % 4 ≠ 0)) ∧
    (∃ s : Dev, ∃ x : Access, x.len.val = 4 ∧ x.full = true ∧ x.addr.toNat % 4 = 0 ∧ s.absentAt x.addr.toNat = true) ∧
    (∃ s : Dev, ∃ x : Access, ∃ write : Bool, x.len.val = 4 ∧ x.full = true ∧ x.addr.toNat % 4 = 0 ∧ s.absentAt x.addr.toNat = false ∧ write = true ∧ activeView x = true) ∧
    (∃ s : Dev, ∃ x : Access, ∃ write : Bool, ∃ known : Bool, x.len.val = 4 ∧ x.full = true ∧ x.addr.toNat % 4 = 0 ∧ s.absentAt x.addr.toNat = false ∧ (write = false ∨ activeView x = false) ∧ known = false) ∧
    (∃ s : Dev, ∃ x : Access, ∃ write : Bool, ∃ known : Bool, x.len.val = 4 ∧ x.full = true ∧ x.addr.toNat % 4 = 0 ∧ s.absentAt x.addr.toNat = false ∧ (write = false ∨ activeView x = false) ∧ known = true) :=
  ⟨⟨({ writeTo .host Reg.TAB_CTRL 0 0 with len := 8 }), by decide +kernel⟩,
   ⟨({ D0 with variant := .s }), (readFrom .host Reg.FAB_CFG 0 0), by decide +kernel⟩,
   ⟨D0, ({ writeTo .ccA Reg.TAB_CTRL 0 0 with addr := 0xFFFFFFC#28 }), true, by decide +kernel⟩,
   ⟨D0, (writeTo .host Reg.TAB_CTRL 0 0), true, false, by decide +kernel⟩,
   ⟨D0, (writeTo .host Reg.TAB_CTRL 0 0), true, true, by decide +kernel⟩⟩

/-- Meets the hypotheses of `AccessesAreDenied` (its part ReadReturns). -/
theorem witness_ReadReturns :
    (∃ s : State, ∃ q : Req, s.hostShut q = false ∧ s.denied (readFrom q Reg.TAB_CTRL 0 0) false true = none) ∧
    (∃ s : State, ∃ q : Req, s.hostShut q = false ∧ s.denied (readFrom q Reg.TAB_REFUSED 0 0) false true = none) ∧
    (∃ s : State, ∃ q : Req, s.hostShut q = false ∧ ∃ x : Access, x = { readFrom q Reg.TAB_REFUSED 0 0 with addr := BitVec.ofNat 28 (Reg.TAB_REFUSED.addr 0 0 + 0x400000) } ∧ s.denied x false true = none) ∧
    (∃ s : State, ∃ q : Req, s.hostShut q = false ∧ s.denied (readFrom q Reg.SPL_CFG 0 0) false true = none) :=
  ⟨⟨(S (D0 : Dev)), Req.host, by decide +kernel⟩,
   ⟨(S (D0 : Dev)), Req.host, by decide +kernel⟩,
   ⟨(S (D0 : Dev)), Req.host, by decide +kernel, the (by decide +kernel)⟩,
   ⟨(S (D0 : Dev)), Req.host, by decide +kernel⟩⟩

/-- Meets the hypotheses of `ErrorLogLatchesTheFirst` (its part DeniedAccessIsLogged). -/
theorem witness_DeniedAccessIsLogged :
    (∃ s : State, ∃ x : Access, ∃ c : Nat, x.space = .bar0 ∧ s.hostShut x.req = false ∧ inMsix x.addr.toNat = false ∧ s.denied x false ((regAt x.normal).isSome || inMsix x.normal) = some (.bus c)) ∧
    (∃ s : State, ∃ x : Access, ∃ c : Nat, x.space = .bar0 ∧ s.hostShut x.req = false ∧ inMsix x.addr.toNat = false ∧ s.denied x false ((regAt x.normal).isSome || inMsix x.normal) = some (.abort c)) ∧
    (∃ s : State, ∃ x : Access, ∃ c : Nat, x.space = .bar0 ∧ s.hostShut x.req = false ∧ inMsix x.addr.toNat = false ∧ s.denied x true ((regAt x.normal).isSome || inMsix x.normal) = some (.abort c)) ∧
    (∃ s : State, ∃ x : Access, ∃ c : Nat, x.space = .bar0 ∧ s.hostShut x.req = false ∧ inMsix x.addr.toNat = false ∧ s.denied x true ((regAt x.normal).isSome || inMsix x.normal) = some (.bus c) ∧ x.req ≠ .host) ∧
    (∃ s : State, ∃ x : Access, ∃ c : Nat, x.space = .bar0 ∧ s.hostShut x.req = false ∧ inMsix x.addr.toNat = false ∧ s.denied x true ((regAt x.normal).isSome || inMsix x.normal) = some (.bus c) ∧ x.req = .host) :=
  ⟨⟨(S (D0 : Dev)), ({ writeTo .host Reg.TAB_CTRL 0 0 with len := 8 }), 4, by decide +kernel⟩,
   ⟨(S (off : Dev)), (writeTo .host Reg.TAB_CTRL 0 0), 6, by decide +kernel⟩,
   ⟨(S (off : Dev)), (writeTo .host Reg.TAB_CTRL 0 0), 6, by decide +kernel⟩,
   ⟨(S (D0 : Dev)), ({ writeTo .ccA Reg.TAB_CTRL 0 0 with addr := 0xFFFFFFC#28 }), 3, by decide +kernel⟩,
   ⟨(S (D0 : Dev)), ({ writeTo .host Reg.TAB_CTRL 0 0 with len := 8 }), 4, by decide +kernel⟩⟩

/-- Meets the hypotheses of `ErrorLogLatchesTheFirst` (its part TimeLimitIsLogged). -/
theorem witness_TimeLimitIsLogged :
    (∃ s : State, ∃ x : Access, x.space = .bar0 ∧ s.hostShut x.req = false ∧ inMsix x.addr.toNat = false ∧ s.denied x false ((regAt x.normal).isSome || inMsix x.normal) = none) ∧
    (∃ s : State, ∃ x : Access, x.space = .bar0 ∧ s.hostShut x.req = false ∧ inMsix x.addr.toNat = false ∧ s.denied x true ((regAt x.normal).isSome || inMsix x.normal) = none) ∧
    (∃ s : State, ∃ x : Access, (x.space = .bar0 ∧ s.hostShut x.req = false ∧ inMsix x.addr.toNat = false) ∧ ∃ c, s.denied x false ((regAt x.normal).isSome || inMsix x.normal) = some (.bus c)) :=
  ⟨⟨(S (D0 : Dev)), (writeTo .host Reg.TAB_CTRL 0 0), by decide +kernel⟩,
   ⟨(S (D0 : Dev)), (writeTo .host Reg.TAB_CTRL 0 0), by decide +kernel⟩,
   ⟨(S (D0 : Dev)), { writeTo .host Reg.TAB_CTRL 0 0 with len := 8 }, by decide +kernel, ⟨4, by decide +kernel⟩⟩⟩

/-- Meets the hypotheses of `ErrorLogLatchesTheFirst` (its part WriteActsByAccessCode). -/
theorem witness_WriteActsByAccessCode :
    (∃ s : State, ∃ q : Req, ∃ k : Fin 4, Reached s.toDev q Reg.CUE_SUBMIT_W 0 k) ∧
    (∃ s : State, ∃ q : Req, Reached s.toDev q Reg.TAB_CTRL 0 0) ∧
    (∃ s : State, ∃ q : Req, Reached s.toDev q Reg.TOP_ERR_INFO 0 0) ∧
    (∃ s : State, ∃ q : Req, Reached s.toDev q Reg.TOP_ERR_ADDR 0 0) ∧
    (∃ s : State, ∃ q : Req, ∃ b : Fin 29, Reached s.toDev q Reg.EVT_STATUS 0 b) :=
  ⟨⟨(S (D0 : Dev)), Req.host, 0, by decide +kernel⟩,
   ⟨(S (D0 : Dev)), Req.host, by decide +kernel⟩,
   ⟨(S (D0 : Dev)), Req.host, by decide +kernel⟩,
   ⟨(S (D0 : Dev)), Req.host, by decide +kernel⟩,
   ⟨(S (D0 : Dev)), Req.host, 0, by decide +kernel⟩⟩

/-- Meets the hypotheses of `WingsAndStrobeMaps` (its part WingWriteLandsInWing). -/
theorem witness_WingWriteLandsInWing : ∃ s : State, ∃ q : Req, ∃ a : BitVec 28, ∃ r : RegDesc, ∃ c : Nat, ∃ i : Nat, regAt a.toNat = some (r, c, i) ∧ r.rs ≠ 0 ∧ a.toNat % windowSize < 0x400000 ∧ Reached s.toDev q r c i :=
  ⟨(S (D0 : Dev)), (.host), (BitVec.ofNat 28 ((Reg.SPL_CFG).addr (0) (0))), (Reg.SPL_CFG), (0), (0), rfl, by decide +kernel⟩

end W01

namespace W02

def app (g : Nat) : Dev := D0.setGroup g { (D0.group g) with applying := true }
def una : Dev := { D0 with arming := {} }
def mb (b : Nat) : Dev := D0.wf Reg.MBX_STATUS 0 b 1 1 1
def mc (e : Nat) (w : Bool) (ws : List W32) : Dev := { (mb 2) with mbx := [(2, { ecode := e, words := ws, tag := 7, write := w })] }
def mcue (e : Nat) : Dev := let d := D0.wf Reg.MBX_STATUS 0 bCUE 1 1 1; { d with mbx := [(bCUE, { ecode := e, words := [], tag := 7, write := true })], cue := { d.cue with stepLoad := some (5, 7) } }

/-- Meets the hypotheses of `WingsAndStrobeMaps` (its part StrobeMapWrite). -/
theorem witness_StrobeMapWrite :
    (∃ s : State, ∃ q : Req, ∃ b : Fin 29, Reached s.toDev q Reg.STROBE_MAP 0 b ∧ (∀ k ∈ subsOf b, (s.group (s.groupOf b k)).applying = false)) ∧
    (∃ s : State, ∃ q : Req, ∃ b : Fin 29, ∃ v : W32, Reached s.toDev q Reg.STROBE_MAP 0 b ∧ ∃ k, subsOf b = [k] ∧ (s.group (s.groupOf b k)).applying = true ∧ s.groupOf b k ≠ fld v (8 * k) 5) :=
  ⟨⟨(S (D0 : Dev)), (.host), (13 : Fin 29), by decide +kernel⟩,
   ⟨(S (app 0 : Dev)), (.host), (13 : Fin 29), 0x050403#32, by decide +kernel, ⟨0, by decide +kernel⟩⟩⟩

/-- Meets the hypotheses of `UnlockGuardsKwWrites` (its part UnlockArms). -/
theorem witness_UnlockArms : ∃ s : State, ∃ q : Req, Reached s.toDev q Reg.TOP_UNLOCK 0 0 ∧ ∃ key : BitVec 16, key ≠ 0xC4D3#16 :=
  ⟨(S (D0 : Dev)), (.host), by decide +kernel, ⟨0, by decide +kernel⟩⟩

/-- Meets the hypotheses of `UnlockGuardsKwWrites` (its part UnarmedKwWriteIsDiscarded). -/
theorem witness_UnarmedKwWriteIsDiscarded :
    (∃ s : State, ∃ q : Req, s.arming.get q = false ∧ Reached s.toDev q Reg.PWR_PD_CTRL 0 0) ∧
    (∃ s : State, ∃ q : Req, ∃ v : W32, s.arming.get q = false ∧ ∃ i : Instr, (i = .fDieReset q v ∨ i = .deviceReset q v ∨ i = .ccaReset q v ∨ i = .ccbReset q v ∨ i = .blockReset q v) ∧ Reached s.toDev q Reg.TOP_RESET 0 0) ∧
    (∃ s : State, ∃ q : Req, s.arming.get q = false ∧ Reached s.toDev q Reg.TOP_FUSE_PROG 0 0) ∧
    (∃ s : State, ∃ q : Req, s.arming.get q = false ∧ Reached s.toDev q Reg.TOP_DEVICE_ID 0 0) ∧
    (∃ s : State, ∃ q : Req, s.arming.get q = false ∧ Reached s.toDev q Reg.CCX_CALL_FORCE 0 0) ∧
    (∃ s : State, ∃ q : Req, ∃ x : BitVec 14, ∃ go : Bool, s.arming.get q = false ∧ ∃ i : Instr, (i = .clearContextLoad q x go ∨ i = .clearKekLoad q x go) ∧ Reached s.toDev q Reg.LCI_CLEAR_LOAD 0 0) ∧
    (∃ s : State, ∃ q : Req, s.arming.get q = false ∧ Reached s.toDev q Reg.FAB_PIN_FORCE 0 0) :=
  ⟨⟨(S (una : Dev)), (.host), by decide +kernel⟩,
   ⟨(S (una : Dev)), (.host), 3, by decide +kernel, ⟨(.fDieReset ((.host)) 3), by decide +kernel⟩⟩,
   ⟨(S (una : Dev)), (.host), by decide +kernel⟩,
   ⟨(S (una : Dev)), (.host), by decide +kernel⟩,
   ⟨(S (una : Dev)), (.host), by decide +kernel⟩,
   ⟨(S (una : Dev)), (.host), 0, false, by decide +kernel, ⟨(.clearContextLoad ((.host)) 0 false), by decide +kernel⟩⟩,
   ⟨(S (una : Dev)), (.host), by decide +kernel⟩⟩

/-- Meets the hypotheses of `MailboxOperations` (its part MailboxStarts). -/
theorem witness_MailboxStarts :
    (∃ s : State, ∃ q : Req, ∃ b : Fin 29, Reached s.toDev q Reg.MBX_CMD 0 b ∧ s.rf Reg.MBX_STATUS 0 b 1 1 = 1) ∧
    (∃ s : State, ∃ q : Req, ∃ b : Fin 29, ∃ obj : Byte, Reached s.toDev q Reg.MBX_CMD 0 b ∧ s.rf Reg.MBX_STATUS 0 b 1 1 = 0 ∧ obj.toNat < 0x80 ∧ objSpec b obj.toNat (s.rg Reg.MBX_INDEX 0 b).toNat = none) ∧
    (∃ s : State, ∃ q : Req, Reached s.toDev q Reg.MBX_CMD 0 bCUE ∧ s.rf Reg.MBX_STATUS 0 bCUE 1 1 = 0 ∧ s.rg Reg.MBX_INDEX 0 bCUE = 0) ∧
    (∃ s : State, ∃ q : Req, ∃ i : Fin 256, Reached s.toDev q Reg.MBX_CMD 0 bSCH ∧ s.rf Reg.MBX_STATUS 0 bSCH 1 1 = 0 ∧ s.rg Reg.MBX_INDEX 0 bSCH = w32 i) :=
  ⟨⟨(S (mb 2 : Dev)), (.host), (2 : Fin 29), by decide +kernel⟩,
   ⟨(S (D0 : Dev)), (.host), (2 : Fin 29), 0x7F, by decide +kernel⟩,
   ⟨(S (D0 : Dev)), (.host), by decide +kernel⟩,
   ⟨(S (mb 2 : Dev)), (.host), 0, by decide +kernel⟩⟩

/-- Meets the hypotheses of `MailboxOperations` (its part MailboxCompletes). -/
theorem witness_MailboxCompletes :
    (∃ s : State, ∃ b : Fin 29, ∃ x : MbxOp, s.mbx.find? (fun e => e.1 == b.val) = some (b.val, x) ∧ (x.ecode ≠ 0 ∨ x.write = true) ∧ (b.val = bCUE → s.cue.stepLoad = none)) ∧
    (∃ s : State, ∃ b : Fin 29, ∃ x : MbxOp, s.mbx.find? (fun e => e.1 == b.val) = some (b.val, x) ∧ x.ecode = 0 ∧ x.write = false ∧ x.words.length ≤ 8) ∧
    (∃ s : State, ∃ b : Fin 29, ∃ x : MbxOp, s.mbx.find? (fun e => e.1 == b.val) = some (b.val, x) ∧ (b.val = bCUE → s.cue.stepLoad = none)) ∧
    (∃ s : State, ∃ b : Fin 29, ∃ x : MbxOp, s.mbx.find? (fun e => e.1 == b.val) = some (b.val, x) ∧ ∃ p, s.cue.stepLoad = some p ∧ b.val = bCUE ∧ x.write = true ∧ x.ecode = 0) :=
  ⟨⟨(S (mc 3 false [] : Dev)), 2, (((mc 3 false [] : Dev).mbx.headD (0, ⟨true, 0, [], 0, false⟩)).2), by decide +kernel⟩,
   ⟨(S (mc 0 false [1, 2, 3] : Dev)), 2, (((mc 0 false [1, 2, 3] : Dev).mbx.headD (0, ⟨true, 0, [], 0, false⟩)).2), by decide +kernel⟩,
   ⟨(S (mc 3 false [] : Dev)), 2, (((mc 3 false [] : Dev).mbx.headD (0, ⟨true, 0, [], 0, false⟩)).2), by decide +kernel⟩,
   ⟨(S (mcue 0)), (⟨bCUE, by decide⟩), ({ ecode := 0, words := [], tag := 7, write := true }), by decide +kernel, got (by decide +kernel) (by decide +kernel)⟩⟩

end W02

namespace W03

def osc : Dev := D0.wg Reg.CUE_CTRL 0 0 0xFF#32
def valid : Dev := (cu (fun c => { c with oscPass := 4, slots := [(3, { state := 1 }), (5, { state := 2 }), (230, { state := 5 })] }) D0).wg Reg.CUE_CTRL 0 0 1#32
def w0s (a b c d : W32) (s : Dev) : Dev := (((s.wg Reg.CUE_SUBMIT_W 0 0 a).wg Reg.CUE_SUBMIT_W 0 1 b).wg Reg.CUE_SUBMIT_W 0 2 c).wg Reg.CUE_SUBMIT_W 0 3 d
def ret (arm : Bool) (house : Nat) (loc : Nat) : Dev := cu (fun c => { c with house := if house = 0 then [] else [(3, house)], localNs := loc }) (D0.wg Reg.CUE_EPOCH 0 0 (at_ 0 4 2 ||| at_ 4 4 3 ||| atB 8 true ||| atB 9 arm))
def qua (h : Nat) : Dev := cu (fun c => { c with house := if h = 0 then [] else [(3, h)] }) (D0.wg Reg.CUE_EPOCH 0 0 0xFFFF0000#32)

/-- Meets the hypotheses of `ClockAndTimePins` (its part ClockDiscipline). -/
theorem witness_ClockDiscipline :
    (∃ s : State, ∃ q : Req, Reached s.toDev q Reg.CUE_FREQ_ADJ 0 0) ∧
    (∃ s : State, ∃ q : Req, Reached s.toDev q Reg.CUE_PHASE_ADJ 0 0) ∧
    (∃ s : State, ∃ q : Req, Reached s.toDev q Reg.CUE_RETAIN 0 0) :=
  ⟨⟨(S (D0 : Dev)), (.host), by decide +kernel⟩,
   ⟨(S (D0 : Dev)), (.host), by decide +kernel⟩,
   ⟨(S (D0 : Dev)), (.host), by decide +kernel⟩⟩

/-- Meets the hypotheses of `ClockAndTimePins` (its part TimePins). -/
theorem witness_TimePins :
    (∃ s : State, s.cue.todIn.length < 64) ∧
    (∃ s : State, s.cue.todIn.length = 64) ∧
    (∃ s : State, s.cue.todDue ≠ []) ∧
    (∃ s : State, s.cue.todDue = []) :=
  ⟨⟨(S (D0 : Dev)), by decide +kernel⟩,
   ⟨(S (cu fun c => { c with ns := 999999990, todIn := List.replicate 64 7, todDue := [3], todOut := [1, 2], refclkLost := true } : Dev)), by decide +kernel⟩,
   ⟨(S (cu fun c => { c with ns := 999999990, todIn := List.replicate 64 7, todDue := [3], todOut := [1, 2], refclkLost := true } : Dev)), by decide +kernel⟩,
   ⟨(S (D0 : Dev)), by decide +kernel⟩⟩

/-- Meets the hypotheses of `OscillatorAndTimeValid` (its part OscillatorCheck). -/
theorem witness_OscillatorCheck :
    (∃ s : State, bit (s.rg Reg.CUE_CTRL 0 0) 4 = false) ∧
    (∃ s : State, ∃ ppb : W32, bit (s.rg Reg.CUE_CTRL 0 0) 4 = true ∧ s.cue.refclkLost = false ∧ ppb.toNat ≤ max 10 (s.rf Reg.CUE_OSC_CHECK 0 0 0 8) * 1000) ∧
    (∃ s : State, ∃ ppb : W32, bit (s.rg Reg.CUE_CTRL 0 0) 4 = true ∧ (s.cue.refclkLost = true ∨ max 10 (s.rf Reg.CUE_OSC_CHECK 0 0 0 8) * 1000 < ppb.toNat) ∧ s.reactOf 14 = 0) :=
  ⟨⟨(S (D0.wg Reg.CUE_CTRL 0 0 0 : Dev)), by decide +kernel⟩,
   ⟨(S (D0 : Dev)), 0#32, by decide +kernel⟩,
   ⟨(S (D0 : Dev)), 0x7FFFFFFF#32, by decide +kernel⟩⟩

/-- Meets the hypotheses of `OscillatorAndTimeValid` (its part TimeValidWrites). -/
theorem witness_TimeValidWrites :
    (∃ s : State, ∃ q : Req, ∃ v : W32, Reached s.toDev q Reg.CUE_CTRL 0 0 ∧ (bit v 1 = false ∨ s.timeValid = false)) ∧
    (∃ s : State, ∃ q : Req, ∃ v : W32, Reached s.toDev q Reg.CUE_CTRL 0 0 ∧ bit v 1 = true ∧ s.timeValid = true) :=
  ⟨⟨(S (D0 : Dev)), (.host), 0#32, by decide +kernel⟩,
   ⟨(S (osc : Dev)), (.host), 2, by decide +kernel⟩⟩

/-- Meets the hypotheses of `CuesSubmittedAndCancelled` (its part CueSubmitResult). -/
theorem witness_CueSubmitResult :
    (∃ s : State, ∃ q : Req, ∃ slot : Byte, ∃ w : Nat → W32, ∃ code : Nat, Reached s.toDev q Reg.CUE_SUBMIT_CMD 0 0 ∧ (∀ k, w k = s.rg Reg.CUE_SUBMIT_W 0 k) ∧ (code = if s.timeValid = false then 2 else if 224 ≤ slot.toNat ∧ s.isLead q = false then 3 else if s.cueBad (w 0) (w 2) (w 3) = true then 4 else if (s.slot slot.toNat).state = 1 then 5 else if (w 1).toNat + 2 ^ 32 * fld (w 2) 0 16 < s.cue.sec ∨ ((w 1).toNat + 2 ^ 32 * fld (w 2) 0 16 = s.cue.sec ∧ (w 0).toNat ≤ s.cue.ns) then 1 else 0) ∧ 2 ≤ code) ∧
    (∃ s : State, ∃ q : Req, ∃ slot : Byte, ∃ w : Nat → W32, ∃ code : Nat, Reached s.toDev q Reg.CUE_SUBMIT_CMD 0 0 ∧ (∀ k, w k = s.rg Reg.CUE_SUBMIT_W 0 k) ∧ (code = if s.timeValid = false then 2 else if 224 ≤ slot.toNat ∧ s.isLead q = false then 3 else if s.cueBad (w 0) (w 2) (w 3) = true then 4 else if (s.slot slot.toNat).state = 1 then 5 else if (w 1).toNat + 2 ^ 32 * fld (w 2) 0 16 < s.cue.sec ∨ ((w 1).toNat + 2 ^ 32 * fld (w 2) 0 16 = s.cue.sec ∧ (w 0).toNat ≤ s.cue.ns) then 1 else 0) ∧ code < 2) :=
  ⟨⟨(S (D0 : Dev)), (.host), 3, (fun k => (D0 : Dev).rg Reg.CUE_SUBMIT_W 0 k), 2, by decide +kernel, fun _ => rfl, by decide +kernel⟩,
   ⟨(S (w0s 5 0 0x10000 1 valid : Dev)), (.host), 5, (fun k => (w0s 5 0 0x10000 1 valid : Dev).rg Reg.CUE_SUBMIT_W 0 k), 0, by decide +kernel, fun _ => rfl, by decide +kernel⟩⟩

/-- Meets the hypotheses of `CuesSubmittedAndCancelled` (its part CueCancelResult). -/
theorem witness_CueCancelResult :
    (∃ s : State, ∃ q : Req, ∃ slot : Byte, ∃ code : Nat, Reached s.toDev q Reg.CUE_SUBMIT_CMD 0 0 ∧ (code = if 224 ≤ slot.toNat ∧ s.isLead q = false then 3 else if (s.slot slot.toNat).state = 1 then 0 else if (s.slot slot.toNat).state = 0 ∨ (s.slot slot.toNat).state = 5 then 5 else 6) ∧ code ≠ 0) ∧
    (∃ s : State, ∃ q : Req, ∃ slot : Byte, ∃ code : Nat, Reached s.toDev q Reg.CUE_SUBMIT_CMD 0 0 ∧ (code = if 224 ≤ slot.toNat ∧ s.isLead q = false then 3 else if (s.slot slot.toNat).state = 1 then 0 else if (s.slot slot.toNat).state = 0 ∨ (s.slot slot.toNat).state = 5 then 5 else 6) ∧ code = 0) :=
  ⟨⟨(S (D0 : Dev)), (.host), 3, 5, by decide +kernel⟩,
   ⟨(S (valid : Dev)), (.host), 3, 0, by decide +kernel⟩⟩

/-- Meets the hypotheses of `EpochsRetire` (its part EpochCommandsWait). -/
theorem witness_EpochCommandsWait : ∃ s : State, ∃ q : Req, Reached s.toDev q Reg.CUE_EPOCH_CMD 0 0 :=
  ⟨(S D0), (.host), by decide +kernel⟩

/-- Meets the hypotheses of `EpochsRetire` (its part EpochsEnd). -/
theorem witness_EpochsEnd :
    (∃ s : State, ∃ e : Nat, s.retiring = some e ∧ e < 16 ∧ bit (s.rg Reg.CUE_EPOCH 0 0) 9 = true ∧ s.houseOf e = 0) ∧
    (∃ s : State, ∃ e : Nat, s.retiring = some e ∧ e < 16 ∧ (bit (s.rg Reg.CUE_EPOCH 0 0) 9 = false ∨ s.houseOf e ≠ 0)) ∧
    (∃ s : State, ∃ e : Nat, s.retiring = some e ∧ e < 16 ∧ s.cue.retireFrom + max 21 (s.rf Reg.CUE_RETAIN 0 0 0 8) * 1000000 ≤ s.cue.localNs ∧ s.houseOf e ≠ 0 ∧ s.tm.staged = []) ∧
    (∃ s : State, ∃ e : Nat, s.retiring = some e ∧ e < 16 ∧ s.cue.retireFrom + max 21 (s.rf Reg.CUE_RETAIN 0 0 0 8) * 1000000 ≤ s.cue.localNs ∧ s.houseOf e = 0) ∧
    (∃ s : State, ∃ e : Nat, s.retiring = some e ∧ e < 16 ∧ s.cue.localNs < s.cue.retireFrom + max 21 (s.rf Reg.CUE_RETAIN 0 0 0 8) * 1000000) :=
  ⟨⟨(S (ret true 0 0 : Dev)), 3, by decide +kernel⟩,
   ⟨(S (ret true 2 0 : Dev)), 3, by decide +kernel⟩,
   ⟨(S (ret true 2 2100000000 : Dev)), 3, by decide +kernel⟩,
   ⟨(S (ret true 0 2100000000 : Dev)), 3, by decide +kernel⟩,
   ⟨(S (ret true 0 0 : Dev)), 3, by decide +kernel⟩⟩

/-- Meets the hypotheses of `EpochsRetire` (its part QuarantineEnds). -/
theorem witness_QuarantineEnds :
    (∃ s : State, ∃ e : Fin 16, s.quarantined e = true ∧ s.houseOf e = 0) ∧
    (∃ s : State, ∃ e : Fin 16, (s.quarantined e = false ∨ s.houseOf e ≠ 0)) :=
  ⟨⟨(S (qua 0 : Dev)), 3, by decide +kernel⟩,
   ⟨(S (D0 : Dev)), 3, by decide +kernel⟩⟩

end W03

namespace W04

def ec (e : Nat) : Dev := cu fun c => { c with epochCmds := [(1, e)] }
def inen : Dev := D0.wg Reg.TAB_CTRL 0 0 3#32
def held : State := { S (inen.wg Reg.TAB_STATUS 0 0 (1#32 ||| at_ 1 3 2)) with latched := some D0 }
def tr (s : State) : State := { s with tab := { s.tab with regReq := true } }
def grp (n : Nat) (a : Bool) : Dev := D0.setGroup 5 { applying := a, waiting := n, tick := 9 }
def fir (maps : Bool) : Dev :=
  let d := cu fun c => { c with fireReq := [4] }
  let d := if maps then (d.wg Reg.STROBE_MAP 0 bQAD 0x050004#32) else d.wg Reg.STROBE_MAP 0 bQAD 0x040404#32
  let d := d.setWing Reg.QAD_ECN_CFG 0 0 0xFFFFFFFF#32
  ((d.setWing Reg.QAD_POOL_MIN 0 3 0xABCDEF01#32).wf Reg.WING_PEND 0 bQAD 0 3 7)
def inside (n : Nat) : Dev := { grp 0 true with ing := { D0.ing with pipe := [{ port := 5, frame := [], epoch := 0, since := 3, prot := 0, good := true, md := [], hashed := [], dest := .sysPort 5, tsNs := 0, tsSec := 0, voq := none }] }, cue := { (grp 0 true).cue with tickNo := n } }

/-- Meets the hypotheses of `TicksAndCommits` (its part QuietTick). -/
theorem witness_QuietTick :
    (∃ s : State, Quiet s.toDev ∧ NoTrigger s.toDev ∧ s.cue.step = none ∧ (¬ (s.cue.ns + 128 = 1000000000 ∧ bit (s.rg Reg.CUE_CTRL 0 0) 2 = true)) ∧ s.cue.ns + 128 ≤ 1000000000) ∧
    (∃ s : State, Quiet s.toDev ∧ NoTrigger s.toDev ∧ s.cue.step = none ∧ s.cue.ns + 128 = 1000000000 ∧ bit (s.rg Reg.CUE_CTRL 0 0) 2 = true) ∧
    (∃ s : State, (Quiet s.toDev ∧ NoTrigger s.toDev) ∧ ∃ sec ns, s.cue.step = some (sec, ns) ∧ ns ≠ 0) :=
  ⟨⟨(S (D0 : Dev)), by decide +kernel⟩,
   ⟨(S (cu fun c => { c with ns := 999999872, slew := -1000 } : Dev)), by decide +kernel⟩,
   ⟨(S (cu fun c => { c with step := some (5, 7), slew := 20 } : Dev)), by decide +kernel, gotPair (by decide +kernel) (by decide +kernel)⟩⟩

/-- Meets the hypotheses of `TicksAndCommits` (its part EpochCommitAtTick). -/
theorem witness_EpochCommitAtTick :
    (∃ s : State, ∃ el : BitVec 16, ∃ e : Fin 16, (Still s.toDev ∧ NoTrigger s.toDev ∧ s.cue.epochCmds = [(1, e.val)] ∧ s.cue.step = none ∧ s.cue.ns + 128 < 1000000000 ∧ s.pbkState ≠ 4 ∧ s.pbkState ≠ 5) ∧ ∃ r, s.retiring = some r ∧ r < 16 ∧ bit (s.rg Reg.CUE_EPOCH 0 0) 9 = false ∧ s.cue.localNs + el.toNat < s.cue.retireFrom + s.retainMs * 1000000) ∧
    (∃ s : State, ∃ e : Fin 16, Still s.toDev ∧ NoTrigger s.toDev ∧ s.cue.epochCmds = [(1, e.val)] ∧ s.cue.step = none ∧ s.cue.ns + 128 < 1000000000 ∧ s.pbkState ≠ 4 ∧ s.pbkState ≠ 5 ∧ e.val ≠ s.epochNow ∧ s.retiring = none ∧ s.quarantined e = false) ∧
    (∃ s : State, ∃ e : Fin 16, Still s.toDev ∧ NoTrigger s.toDev ∧ s.cue.epochCmds = [(1, e.val)] ∧ s.cue.step = none ∧ s.cue.ns + 128 < 1000000000 ∧ s.pbkState ≠ 4 ∧ s.pbkState ≠ 5 ∧ s.retiring = none ∧ (e.val = s.epochNow ∨ s.quarantined e = true)) :=
  ⟨⟨(S ((ec 3).wg Reg.CUE_EPOCH 0 0 (at_ 4 4 7 ||| atB 8 true) : Dev)), 0, 3, by decide +kernel, got (by decide +kernel) (by decide +kernel)⟩,
   ⟨(S (ec 3)), 3, by decide +kernel⟩,
   ⟨(S (ec 0)), 0, by decide +kernel⟩⟩

/-- Meets the hypotheses of `TableauTakenAtTick` (its part TableauRequests). -/
theorem witness_TableauRequests :
    (∃ s : State, ∃ q : Req, Reached s.toDev q Reg.TAB_TRIGGER 0 0) ∧
    (∃ s : State, bit (s.rg Reg.TAB_CTRL 0 0) 0 = true) ∧
    (∃ s : State, bit (s.rg Reg.TAB_CTRL 0 0) 0 = false) ∧
    (∃ s : State, ∃ q : Req, Reached s.toDev q Reg.TAB_STATUS 0 0) :=
  ⟨⟨(S0 : State), (.host), by decide +kernel⟩,
   ⟨(S0 : State), by decide +kernel⟩,
   ⟨(S (D0.wg Reg.TAB_CTRL 0 0 0)), by decide +kernel⟩,
   ⟨(S0 : State), (.host), by decide +kernel⟩⟩

/-- Meets the hypotheses of `TableauTakenAtTick` (its part TableauAtTick). -/
theorem witness_TableauAtTick :
    (∃ s : State, Quiet s.toDev ∧ s.tab.regReq = true ∧ s.tab.pinReq = [] ∧ s.cue.step = none ∧ s.cue.ns + 128 < 1000000000 ∧ s.tabHeld = false ∧ s.sta.copying = false ∧ s.tabRange.2 = 0) ∧
    (∃ s : State, Quiet s.toDev ∧ s.tab.regReq = true ∧ s.tab.pinReq = [] ∧ s.cue.step = none ∧ s.cue.ns + 128 < 1000000000 ∧ s.tabHeld = true ∧ bit (s.rg Reg.TAB_CTRL 0 0) 2 = false) :=
  ⟨⟨(tr S0), by decide +kernel⟩,
   ⟨(tr held), by decide +kernel⟩⟩

/-- Meets the hypotheses of `StrobesFire` (its part StrobeGroups). -/
theorem witness_StrobeGroups :
    (∃ s : State, ∃ q : Req, ∃ m : W32, Reached s.toDev q Reg.CUE_STROBE_FIRE 0 0 ∧ (∀ k < 32, bit m k = true → (s.group k).applying = false ∧ (s.group k).waiting = 0)) ∧
    (∃ s : State, ∃ q : Req, ∃ g : Fin 32, Reached s.toDev q Reg.CUE_STROBE_FIRE 0 0 ∧ ((s.group g).applying = true ∨ (s.group g).waiting ≠ 0) ∧ (s.group g).waiting < 4) ∧
    (∃ s : State, ∃ q : Req, ∃ g : Fin 32, Reached s.toDev q Reg.CUE_STROBE_FIRE 0 0 ∧ ((s.group g).applying = true ∨ (s.group g).waiting ≠ 0) ∧ 4 ≤ (s.group g).waiting) ∧
    (∃ s : State, ∃ g : Fin 32, ((s.group g).applying = true ∧ s.cue.mapWaits = []) ∧ (∀ k, s.insideSince k = false)) ∧
    (∃ s : State, ∃ g : Fin 32, (s.group g).applying = true ∧ s.insideSince (s.group g).tick = true ∧ s.cue.tickNo < (s.group g).tick + 19) ∧
    (∃ s : State, ∃ g : Fin 32, (s.group g).applying = true ∧ s.cue.mapWaits = [] ∧ (s.group g).tick + 19 ≤ s.cue.tickNo) ∧
    (∃ s : State, ∃ g : Fin 32, (s.group g).applying = false) :=
  ⟨⟨(S (D0 : Dev)), (.host), 5#32, by decide +kernel⟩,
   ⟨(S (grp 0 true : Dev)), (.host), 5, by decide +kernel⟩,
   ⟨(S (grp 4 true : Dev)), (.host), 5, by decide +kernel⟩,
   ⟨(S (grp 0 true : Dev)), 5, by decide +kernel, fun _ => rfl⟩,
   ⟨(S (inside 27)), 5, by decide +kernel⟩,
   ⟨(S (inside 28)), 5, by decide +kernel⟩,
   ⟨(S (D0 : Dev)), 0, by decide +kernel⟩⟩

/-- Meets the hypotheses of `StrobesFire` (its part FiringCopiesWings). -/
theorem witness_FiringCopiesWings : ∃ s : State, ∃ g : Nat, Quiet { s.toDev with cue := { s.cue with fireReq := [] } } ∧ NoTrigger s.toDev ∧ s.cue.step = none ∧ s.cue.ns + 128 < 1000000000 ∧ g < 32 ∧ s.cue.fireReq = [g] ∧ s.group g = {} ∧ (∀ b < 29, ∀ k ∈ subsOf b, s.groupOf b k = g → b = bQAD) :=
  ⟨(S (fir true : Dev)), 4, by decide +kernel⟩

end W04

namespace W05

def tA : TShape := { id := 5, tkind := 2, alloc := 4096, seed := 0, alloc2 := 0, reshape := true, recs := [] }
def b1 : Book := { book0 with tables := [tA] }
def b2 : Book := { book0 with id := 2, tables := [{ tA with alloc := 8192 }] }
def st (n : Nat) (busy : Bool) (case_ : Nat := 0) : Dev := D0.setPbk n 0x0C case_ busy
def spl (d : Dev) (r : Nat) : Dev := d.wg Reg.PBK_SPLIT 0 0 (w32 r)
def book (d : Dev) (f : PbkSt → PbkSt) : Dev := { d with pbk := f d.pbk }
def late (n : Nat) : Dev := let d := book (st 3 true 3) fun p => { p with inForce := some b1, checked := some b2, busyOp := 4, phase := 1, drainFrom := 7 }; { d with cue := { d.cue with house := [(0, 2)], localNs := n } }

/-- Meets the hypotheses of `LoaderChecks` (its part LoaderRefusals). -/
theorem witness_LoaderRefusals : ∃ s : State, ∃ q : Req, ∃ r : Fin 2, ∃ code : Nat, ∃ i : Instr, Reached s.toDev q Reg.PBK_CMD 0 0 ∧ ((i = .check q ∧ code = 0x0D ∧ (s.pbkBusy = true ∨ ¬ s.pbkState ∈ [0, 1, 3])) ∨ (i = .coldInstall q ∧ code = 0x0D ∧ (s.pbkBusy = true ∨ ¬ s.pbkState ∈ [0, 1, 3])) ∨ (i = .coldInstall q ∧ code = 0x0E ∧ s.pbkBusy = false ∧ s.pbkState ∈ [0, 1, 3] ∧ s.retiring ≠ none) ∨ (i = .stage q ∧ code = 0x0D ∧ (s.pbkBusy = true ∨ s.pbkState ≠ 3)) ∨ (i = .stage q ∧ code = 0x11 ∧ s.pbkBusy = false ∧ s.pbkState = 3 ∧ (s.pbkCase = 1 ∨ s.pbkCase = 4)) ∨ (i = .stage q ∧ code = 0x0E ∧ s.pbkBusy = false ∧ s.pbkState = 3 ∧ s.pbkCase ≠ 1 ∧ s.pbkCase ≠ 4 ∧ s.retiring ≠ none) ∨ (i = .abort q ∧ code = 0x0D ∧ (s.pbkBusy = true ∨ (s.pbkState ≠ 3 ∧ s.pbkState ≠ 5))) ∨ (i = .reshapeRegion q r ∧ code = 0x0D ∧ (s.pbkBusy = true ∨ s.splitStates = false)) ∨ (i = .reshapeRegion q r ∧ code = 0x10 ∧ s.pbkBusy = false ∧ s.splitStates = true ∧ (bit (s.rg Reg.PBK_SPLIT 0 0) r = false ∨ s.inIngress r = true)) ∨ (i = .endSplit q ∧ code = 0x0D ∧ (s.pbkBusy = true ∨ s.splitStates = false)) ∨ (i = .endSplit q ∧ code = 0x12 ∧ s.pbkBusy = false ∧ s.splitStates = true ∧ (s.reshaped 0 = false ∨ s.reshaped 1 = false))) :=
  ⟨(S (st 0 true)), (.host), 1, 0x0D, (.check .host), by decide +kernel, Or.inl (by decide +kernel)⟩

/-- Meets the hypotheses of `LoaderChecks` (its part CheckStarts). -/
theorem witness_CheckStarts : ∃ s : State, ∃ q : Req, Reached s.toDev q Reg.PBK_CMD 0 0 ∧ s.pbkBusy = false ∧ s.pbkState ∈ [0, 1, 3] :=
  ⟨(S (st 0 false : Dev)), (.ccA), by decide +kernel⟩

/-- Meets the hypotheses of `LoaderChecks` (its part CheckCompletes). -/
theorem witness_CheckCompletes :
    (∃ s : State, ∃ b : Book, s.pbkState = 2 ∧ s.pbk.busyOp = 1 ∧ s.pbk.code = 0 ∧ s.pbk.result = some b) ∧
    (∃ s : State, s.pbkState = 2 ∧ s.pbk.code ≠ 0) ∧
    (∃ s : State, s.pbkState = 2 ∧ s.rf Reg.PBK_LOAD_CTRL 0 0 0 2 = 2 ∧ s.reactOf 12 = 0) ∧
    (∃ s : State, s.pbkState = 2 ∧ s.rf Reg.PBK_LOAD_CTRL 0 0 0 2 ≠ 2) :=
  ⟨⟨(S (book (st 2 true) fun p => { p with busyOp := 1, result := some b1 } : Dev)), b1, by decide +kernel⟩,
   ⟨(S (book (st 2 true) fun p => { p with busyOp := 1, code := 9 , inForce := some b2} : Dev)), by decide +kernel⟩,
   ⟨(S (book ((st 2 true).wg Reg.PBK_LOAD_CTRL 0 0 2) fun p => { p with busyOp := 1, result := some b1 })), by decide +kernel⟩,
   ⟨(S (book (st 2 true) fun p => { p with busyOp := 1, result := some b1 } : Dev)), by decide +kernel⟩⟩

/-- Meets the hypotheses of `LoaderStages` (its part StagingRuns). -/
theorem witness_StagingRuns :
    (∃ s : State, ∃ q : Req, Reached s.toDev q Reg.PBK_CMD 0 0 ∧ s.pbkBusy = false ∧ s.pbkState = 3 ∧ s.pbkCase ≠ 1 ∧ s.pbkCase ≠ 4 ∧ s.retiring = none) ∧
    (∃ s : State, s.pbkState = 4 ∧ s.pbkCase ≠ 3) ∧
    (∃ s : State, (s.pbkState = 4 ∧ s.pbkCase = 3) ∧ ∃ o, s.pbk.inForce = some o ∧ ∃ n, s.pbk.checked = some n) ∧
    (∃ s : State, s.pbkState ≠ 4) :=
  ⟨⟨(S (st 3 false 2 : Dev)), (.host), by decide +kernel⟩,
   ⟨(S (st 4 true 2 : Dev)), by decide +kernel⟩,
   ⟨(S (book (st 4 true 3) fun p => { p with inForce := some b1, checked := some b2 } : Dev)), by decide +kernel, got (by decide +kernel) (got0 (by decide +kernel))⟩,
   ⟨(S (st 3 false 2 : Dev)), by decide +kernel⟩⟩

/-- Meets the hypotheses of `LoaderStages` (its part AbortDiscards). -/
theorem witness_AbortDiscards :
    (∃ s : State, ∃ q : Req, Reached s.toDev q Reg.PBK_CMD 0 0 ∧ s.pbkBusy = false ∧ s.pbkState = 3) ∧
    (∃ s : State, ∃ q : Req, Reached s.toDev q Reg.PBK_CMD 0 0 ∧ s.pbkBusy = false ∧ s.pbkState = 5 ∧ s.reshaped 0 = false ∧ s.reshaped 1 = false) :=
  ⟨⟨(S (st 3 false 2 : Dev)), (.host), by decide +kernel⟩,
   ⟨(S (st 5 false 3 : Dev)), (.host), by decide +kernel⟩⟩

/-- Meets the hypotheses of `LoaderInstalls` (its part ColdInstallRuns). -/
theorem witness_ColdInstallRuns :
    (∃ s : State, ∃ q : Req, Reached s.toDev q Reg.PBK_CMD 0 0 ∧ s.pbkBusy = false ∧ s.pbkState = 3 ∧ s.retiring = none ∧ s.pbk.inForce = none) ∧
    (∃ s : State, ∃ q : Req, Reached s.toDev q Reg.PBK_CMD 0 0 ∧ s.pbkBusy = false ∧ s.pbkState = 3 ∧ s.retiring = none ∧ s.pbk.inForce ≠ none) ∧
    (∃ s : State, ∃ q : Req, Reached s.toDev q Reg.PBK_CMD 0 0 ∧ s.pbkBusy = false ∧ (s.pbkState = 0 ∨ s.pbkState = 1) ∧ s.retiring = none) ∧
    (∃ s : State, ∃ b : Book, s.pbkState = 2 ∧ s.pbk.busyOp = 4 ∧ s.pbk.code = 0 ∧ s.pbk.result = some b ∧ s.pbk.inForce = none) ∧
    (∃ s : State, s.pbk.busyOp = 4 ∧ s.pbk.phase = 1 ∧ s.retiring = none ∧ s.houseOf s.epochNow = 0) ∧
    (∃ s : State, s.pbk.busyOp = 4 ∧ s.pbk.phase = 1 ∧ s.retiring = none ∧ s.houseOf s.epochNow ≠ 0 ∧ s.cue.localNs < s.pbk.drainFrom + s.retainMs * 1000000) ∧
    (∃ s : State, s.pbk.busyOp = 4 ∧ s.pbk.phase = 1 ∧ s.retiring = none ∧ s.houseOf s.epochNow ≠ 0 ∧ s.pbk.drainFrom + s.retainMs * 1000000 ≤ s.cue.localNs) ∧
    (∃ s : State, ∃ b : Book, s.pbk.busyOp = 4 ∧ s.pbk.phase = 2 ∧ s.pbk.checked = some b ∧ s.pbk.inForce = none) :=
  ⟨⟨(S (st 3 false 2 : Dev)), (.host), by decide +kernel⟩,
   ⟨(S (book (st 3 false 3) fun p => { p with inForce := some b1, checked := some b2 } : Dev)), (.host), by decide +kernel⟩,
   ⟨(S (book (st 1 false) fun p => { p with inForce := some b1 })), (.host), by decide +kernel⟩,
   ⟨(S (book (st 2 true) fun p => { p with busyOp := 4, result := some b1 })), b1, by decide +kernel⟩,
   ⟨(S (book (st 3 true 3) fun p => { p with inForce := some b1, checked := some b2, busyOp := 4, phase := 1 } : Dev)), by decide +kernel⟩,
   ⟨(S (late (6 + D0.retainMs * 1000000))), by decide +kernel⟩,
   ⟨(S (late (7 + D0.retainMs * 1000000))), by decide +kernel⟩,
   ⟨(S (book (st 3 true 3) fun p => { p with checked := some b2, busyOp := 4, phase := 2 } : Dev)), b2, by decide +kernel⟩⟩

/-- Meets the hypotheses of `LoaderInstalls` (its part SplitRuns). -/
theorem witness_SplitRuns :
    (∃ s : State, ∃ q : Req, ∃ r : Fin 2, Reached s.toDev q Reg.PBK_CMD 0 0 ∧ s.pbkBusy = false ∧ s.splitStates = true ∧ bit (s.rg Reg.PBK_SPLIT 0 0) r = true ∧ s.inIngress r = false) ∧
    (∃ s : State, ∃ r : Fin 2, s.pbk.busyOp = 5 ∧ s.pbk.region = r.val) ∧
    (∃ s : State, ∃ q : Req, Reached s.toDev q Reg.PBK_CMD 0 0 ∧ s.pbkBusy = false ∧ s.splitStates = true ∧ s.reshaped 0 = true ∧ s.reshaped 1 = true) :=
  ⟨⟨(S { (spl (st 5 false 3) 0x103 : Dev) with tbl := { (spl (st 5 false 3) 0x103 : Dev).tbl with seeds := [(5, 3)] } }), (.host), 0, by decide +kernel⟩,
   ⟨(S { (book (spl (st 5 true 3) 0x103) fun p => { p with busyOp := 5, region := 0, changed := [5], inForce := some b1, checked := some b2 } : Dev) with tbl := { (book (spl (st 5 true 3) 0x103) fun p => { p with busyOp := 5, region := 0, changed := [5], inForce := some b1, checked := some b2 } : Dev).tbl with seeds := [(5, 3)] } }), 0, by decide +kernel⟩,
   ⟨(S { (book (spl (st 5 false 3) 0x703) fun p => { p with changed := [5], inForce := some b1, checked := some b2 } : Dev) with tbl := { (book (spl (st 5 false 3) 0x703) fun p => { p with changed := [5], inForce := some b1, checked := some b2 } : Dev).tbl with seeds := [(5, 3)] } }), (.host), by decide +kernel⟩⟩

end W05

namespace W06

def dv (f : DvtDir → DvtDir) (dir := 0) : Dev := D0.setDvt dir (f (D0.dvt dir))
def fl0 : List Byte := List.replicate 252 0
def good : List Byte := fl0 ++ beBytes 4 (crc32c fl0).toNat
def sentD (n : Nat) (h : List (Nat × Nat)) : Dev := dv fun d => { d with next := n, sent := 9, held := h, replayBuf := [{ bundle := 3, seq := 6, data := [] }, { bundle := 3, seq := 7, data := [] }] }
def packD : Dev := dv fun d => { d with pack := bs 300, sent := 9, last := 3 }
def replayed (n : Nat) : Dev := (dv fun d => { d with replays := [(3, (6, n))] }).wg Reg.DVT_LINK_STATUS 0 0 0x00080002

/-- Meets the hypotheses of `DovetailCarries` (its part FlitsIssued). -/
theorem witness_FlitsIssued : ∃ s : Dev, ∃ dir : Fin 2, ∃ b, 248 ≤ (s.dvt dir).pack.length ∧ (s.dvt dir).after (s.dvt dir).last = some b ∧ ((s.dvt dir).replayBuf.filter fun f => f.bundle == b).length < 512 :=
  ⟨packD, 0, 4, by decide +kernel⟩

/-- Meets the hypotheses of `DovetailCarries` (its part FlitsInOrder). -/
theorem witness_FlitsInOrder :
    (∃ s : State, ∃ dir : Fin 2, ∃ b : Fin 16, b.val ∈ (s.dvt dir).out) ∧
    (∃ s : State, ∃ dir : Fin 2, ∃ b : Fin 16, ∃ seq : W32, ∃ flit : List Byte, b.val ∉ (s.dvt dir).out ∧ seq.toNat < (s.dvt dir).sent ∧ (s.dvt dir).intact b seq.toNat flit = false) ∧
    (∃ s : State, ∃ dir : Fin 2, ∃ b : Fin 16, ∃ seq : W32, ∃ flit : List Byte, b.val ∉ (s.dvt dir).out ∧ seq.toNat < (s.dvt dir).sent ∧ (s.dvt dir).intact b seq.toNat flit = true) :=
  ⟨⟨(S (dv fun d => { d with out := [3] })), 0, 3, by decide +kernel⟩,
   ⟨(S (sentD 6 [])), 0, 3, 6, (List.replicate 256 7), by decide +kernel⟩,
   ⟨(S (sentD 6 [])), 0, 3, 6, good, by decide +kernel⟩⟩

/-- Meets the hypotheses of `DovetailCarries` (its part ReplayAndRotation). -/
theorem witness_ReplayAndRotation :
    (∃ s : State, ∃ dir : Fin 2, (∀ e ∈ (s.dvt dir).replays, e.2.2 < 16)) ∧
    (∃ s : State, ∃ dir : Fin 2, ∃ b : Fin 16, ∃ lost : Bool, (lost = true ∨ ∃ e, (s.dvt dir).replays.find? (fun e => e.1 == b.val) = some e ∧ 16 ≤ e.2.2) ∧ b.val ∉ (s.dvt dir).out ∧ (s.dvt dir).out.length < 2 ∧ s.rf Reg.DVT_LINK_STATUS 0 dir 0 3 ≠ 4 ∧ s.reactOf 8 = 0) ∧
    (∃ s : State, ∃ dir : Fin 2, ∃ b : Fin 16, (s.dvt dir).out = [b.val] ∧ (bundleUnit dir b).code.toNat ∉ s.int.units ∧ s.rf Reg.DVT_LINK_STATUS 0 dir 0 3 = 3) :=
  ⟨⟨(S (D0 : Dev)), (0 : Fin 2), by decide +kernel⟩,
   ⟨(S (D0 : Dev)), (0 : Fin 2), 0, true, by decide +kernel⟩,
   ⟨(S (((dv fun d => { d with out := [3] }).wg Reg.DVT_LINK_STATUS 0 0 3) : Dev)), (0 : Fin 2), 3, by decide +kernel⟩⟩

/-- Meets the hypotheses of `DovetailCarries` (its part FailedDovetailStops). -/
theorem witness_FailedDovetailStops :
    (∃ s : State, ∃ dir : Fin 2, ∃ b : Fin 16, s.stopped = false ∧ (∀ p < 256, s.portState p = 0) ∧ (∀ l < 320, s.laneUp l = false) ∧ s.tm = {} ∧ s.ing = {} ∧ s.int.units = [] ∧ s.reactOf 8 = 0 ∧ b.val ∈ (s.dvt dir).out) ∧
    (∃ s : State, ∃ dir : Fin 2, ∃ b : Fin 16, s.stopped = false ∧ (∀ p < 256, s.portState p = 0) ∧ (∀ l < 320, s.laneUp l = false) ∧ s.tm = {} ∧ s.ing = {} ∧ s.int.units = [] ∧ s.reactOf 8 = 0 ∧ b.val ∉ (s.dvt dir).out ∧ (s.dvt dir).out.length = 2) :=
  ⟨⟨(S ((dv fun d => { d with out := [3] }) : Dev)), (0 : Fin 2), 3, by decide +kernel⟩,
   ⟨(S ((dv fun d => { d with out := [3, 4] }) : Dev)), (0 : Fin 2), 5, by decide +kernel⟩⟩

end W06

namespace W07

def ps (p st : Nat) (d : Dev := D0) : Dev := (d.pWf Reg.LNP_PORT_STATUS p 0 3 st)
def pc (p : Nat) (v : W32) (d : Dev := D0) : Dev := d.pWg Reg.LNP_PORT_CFG p v
def p5 (st : Nat) (hold : Nat := 7) := ps 5 st (pc 5 (at_ 0 1 1 ||| at_ 22 8 hold))
def cg (d : Dev) : Dev := d.wg Reg.CAG_CAGE_CFG 0 3 (at_ 0 8 4 ||| at_ 8 4 4)
def ln (v : Nat) (d : Dev := D0) : Dev := d.pWg Reg.LNP_LANE_CTRL 5 (w32 v)
def st (f : RfStep → RfStep) (loc : Nat := 5000000000) : Dev := cu (fun c => { c with localNs := loc }) (port 5 (fun x => { x with step := some (f { slots := 30, old := 20, up := true, revert := false, expectRx := false, expectSlots := 4, gapAt := 5, start := 1, phase := 2 }) }))
def otn : Dev := pc 5 (at_ 0 1 1 ||| at_ 1 3 6 ||| at_ 4 2 3 ||| at_ 6 2 3)
def valid (d : Dev) : Dev := (cu (fun c => { c with oscPass := 4 }) d).wg Reg.CUE_CTRL 0 0 1#32
def setup (d : Dev) : Dev := (d.pWg Reg.LNP_RF_SETUP 5 1)
def nolead (d : Dev) : Dev := d.wg Reg.CCX_CALL 0 0 0
def idle (p : Nat) (d : Dev) : Dev := d.setObj bSCH 4 p [0]
def led (d : Dev) : Dev := d
def stI (loc : Nat) (f : RfStep → RfStep) : Dev := (st f loc)

/-- Meets the hypotheses of `PortsAndLanes` (its part PortGoesDown). -/
theorem witness_PortGoesDown :
    (∃ s : State, ∃ p : Fin 256, ∃ c : Fin 11, c ≠ 0 ∧ (s.gen p).issued = [] ∧ s.tm.staged = [] ∧ s.portState p = 2 ∧ s.pRf Reg.LNP_PORT_CFG p 22 8 ≠ 0) ∧
    (∃ s : State, ∃ p : Fin 256, ∃ c : Fin 11, c ≠ 0 ∧ (s.gen p).issued = [] ∧ s.tm.staged = [] ∧ s.portState p = 2 ∧ s.pRf Reg.LNP_PORT_CFG p 22 8 = 0 ∧ s.portQueues p = [] ∧ (s.port p).step = none) :=
  ⟨⟨(S (p5 2 : Dev)), 5, (1 : Fin 11), by decide +kernel⟩,
   ⟨(S (p5 2 0)), 5, 1, by decide +kernel⟩⟩

/-- Meets the hypotheses of `PortsAndLanes` (its part PortNotesCause). -/
theorem witness_PortNotesCause :
    (∃ s : State, ∃ p : Fin 256, ∃ c : Fin 11, c ≠ 0 ∧ s.portState p ≠ 0 ∧ s.portState p ≠ 2 ∧ c ≠ 1) ∧
    (∃ s : State, ∃ p : Fin 256, ∃ c : Fin 11, c ≠ 0 ∧ s.portState p = 0 ∧ c ≠ 1) ∧
    (∃ s : State, ∃ p : Fin 256, ∃ c : Fin 11, c ≠ 0 ∧ s.portState p ≠ 2 ∧ c = 1 ∧ s.portOn p = true) ∧
    (∃ s : State, ∃ p : Fin 256, ∃ c : Fin 11, c ≠ 0 ∧ s.portState p ≠ 2 ∧ s.portOn p = true ∧ (s.port p).remoteFault = false ∧ c.val ∈ [1, 2, 3, 4, 6]) :=
  ⟨⟨(S (p5 3)), 5, 3, by decide +kernel⟩,
   ⟨(S D0), 5, 8, by decide +kernel⟩,
   ⟨(S (ps 5 3 (pc 5 3))), 5, 1, by decide +kernel⟩,
   ⟨(S (ps 5 3 (pc 5 3))), 5, 1, by decide +kernel⟩⟩

/-- Meets the hypotheses of `PortsAndLanes` (its part PortComesUp). -/
theorem witness_PortComesUp :
    (∃ s : State, ∃ p : Fin 256, s.portState p ∈ [1, 3, 4] ∧ (s.port p).causes &&& 0x700#32 = 0 ∧ s.cageHolds p = false ∧ s.clusterIso (p.val / 16) = false ∧ (s.portMode p = 6 → bit (s.port p).causes 6 = false)) ∧
    (∃ s : State, ∃ p : Fin 256, (s.portState p ∉ [1, 3, 4] ∨ (s.port p).causes &&& 0x700#32 ≠ 0 ∨ s.cageHolds p = true ∨ s.clusterIso (p.val / 16) = true ∨ (s.portMode p = 6 ∧ bit (s.port p).causes 6 = true))) ∧
    (∃ s : State, ∃ p : Fin 256, s.portState p = 3 ∧ s.portQueues p = []) ∧
    (∃ s : State, ∃ p : Fin 256, s.portState p ≠ 3) :=
  ⟨⟨(S (p5 1 : Dev)), 5, by decide +kernel⟩,
   ⟨(S (cg (ps 5 1 (pc 5 3)) : Dev)), 5, by decide +kernel⟩,
   ⟨(S (p5 3 : Dev)), 5, by decide +kernel⟩,
   ⟨(S (p5 1 : Dev)), 5, by decide +kernel⟩⟩

/-- Meets the hypotheses of `PortsAndLanes` (its part LaneCommands). -/
theorem witness_LaneCommands :
    (∃ s : State, ∃ l : Fin 256, s.pRf Reg.LNP_LANE_CTRL l 0 2 ∈ [1, 2]) ∧
    (∃ s : State, ∃ l : Fin 256, s.pRf Reg.LNP_LANE_CTRL l 0 2 ∉ [1, 2]) ∧
    (∃ s : State, ∃ l : Fin 256, s.portOn l = true ∧ cfgWidth (s.portCfg l) = 1 ∧ (∀ p : Fin 256, p ≠ l → s.portOn p = false)) ∧
    (∃ s : State, (∀ p : Fin 256, s.portOn p = false)) ∧
    (∃ s : State, ∃ l : Fin 256, 1 ≤ s.pRf Reg.LNP_LANE_CTRL l 6 4 ∧ s.pRf Reg.LNP_LANE_CTRL l 6 4 < 9) :=
  ⟨⟨(S (ln 1 : Dev)), 5, by decide +kernel⟩,
   ⟨(S (D0 : Dev)), 5, by decide +kernel⟩,
   ⟨(S (pc 5 3 : Dev)), 5, by decide +kernel⟩,
   ⟨(S (ln 1 : Dev)), by decide +kernel⟩,
   ⟨(S (ln 0xC2 : Dev)), 5, by decide +kernel⟩⟩

/-- Meets the hypotheses of `RateFollow` (its part RateFollowSteps). -/
theorem witness_RateFollowSteps :
    (∃ s : State, ∃ p : Fin 256, ∃ r : RfStep, (s.port p).step = some r ∧ r.up = true ∧ r.phase = 2 ∧ r.gapAt ≤ s.cue.localNs ∧ r.b2 ≤ s.cue.localNs ∧ r.expectRx = false ∧ r.slots < 512) ∧
    (∃ s : State, ∃ p : Fin 256, ∃ r : RfStep, (s.port p).step = some r ∧ (r.up = false ∨ r.phase ≠ 2 ∨ s.cue.localNs < max r.gapAt r.b2)) ∧
    (∃ s : State, ∃ p : Fin 256, ∃ r : RfStep, (s.port p).step = some r ∧ r.expectRx = true ∧ s.rfRx p ≠ r.expectSlots ∧ r.phase < 4 ∧ r.start + max 1 (s.rf Reg.LNP_RF_CTRL 0 0 0 8) * 1000000 ≤ s.cue.localNs) ∧
    (∃ s : State, ∃ p : Fin 256, ∃ r : RfStep, (s.port p).step = some r ∧ (r.expectRx = false ∨ s.rfRx p = r.expectSlots ∨ 4 ≤ r.phase ∨ s.cue.localNs < r.start + max 1 (s.rf Reg.LNP_RF_CTRL 0 0 0 8) * 1000000)) :=
  ⟨⟨(S (st id : Dev)), 5, (((st id : Dev).port 5).step.getD { slots := 30, old := 20, up := true, revert := false, expectRx := false, expectSlots := 4, gapAt := 5, start := 1, phase := 2 }), by decide +kernel⟩,
   ⟨(S (st (fun r => { r with up := false }) : Dev)), 5, (((st (fun r => { r with up := false }) : Dev).port 5).step.getD { slots := 30, old := 20, up := true, revert := false, expectRx := false, expectSlots := 4, gapAt := 5, start := 1, phase := 2 }), by decide +kernel⟩,
   ⟨(S (st (fun r => { r with expectRx := true }) : Dev)), 5, (((st (fun r => { r with expectRx := true }) : Dev).port 5).step.getD { slots := 30, old := 20, up := true, revert := false, expectRx := false, expectSlots := 4, gapAt := 5, start := 1, phase := 2 }), by decide +kernel⟩,
   ⟨(S (st id : Dev)), 5, (((st id : Dev).port 5).step.getD { slots := 30, old := 20, up := true, revert := false, expectRx := false, expectSlots := 4, gapAt := 5, start := 1, phase := 2 }), by decide +kernel⟩⟩

/-- Meets the hypotheses of `RateFollow` (its part RateFollowRequests). -/
theorem witness_RateFollowRequests :
    (∃ s : State, ∃ q : Req, ∃ p : Fin 256, Reached s.toDev q Reg.LNP_RF_REQ 0 0 ∧ (s.leadRuns = false ∨ (s.port p).step ≠ none)) ∧
    (∃ s : State, ∃ q : Req, ∃ p : Fin 256, Reached s.toDev q Reg.LNP_RF_REQ 0 0 ∧ s.leadRuns = true ∧ (s.port p).step = none ∧ s.portRf p = false) ∧
    (∃ s : State, ∃ q : Req, ∃ p : Fin 256, ∃ slots : BitVec 9, Reached s.toDev q Reg.LNP_RF_REQ 0 0 ∧ s.leadRuns = true ∧ (s.port p).step = none ∧ s.portRf p = true ∧ s.rfK p ≠ slots.toNat ∧ slots.toNat ≤ 20 * cfgOtuN (s.portCfg p) ∧ 10 ≤ slots.toNat ∧ s.timeValid = true ∧ s.variant.hasOtn = true ∧ (s.slot 224).state ≠ 1) :=
  ⟨⟨(S (nolead D0 : Dev)), (.host), 5, by decide +kernel⟩,
   ⟨(S (D0 : Dev)), (.host), 5, by decide +kernel⟩,
   ⟨(S (valid otn : Dev)), (.host), 5, 10, by decide +kernel⟩⟩

/-- Meets the hypotheses of `RateFollow` (its part ModemPolls). -/
theorem witness_ModemPolls :
    (∃ s : State, ∃ p : Fin 256, ∃ w : W32, w = s.pRg Reg.LNP_RF_SETUP p ∧ ∃ m : Nat, m = s.rf Reg.CAG_CAGE_CFG 0 (fld w 1 6) 12 4 ∧ (bit w 0 = false ∨ s.leadRuns = false ∨ (mget ({} : I2cSt) s.i2c m).busy = true)) ∧
    (∃ s : State, ∃ p : Fin 256, ∃ count : BitVec 16, ∃ w : W32, w = s.pRg Reg.LNP_RF_SETUP p ∧ ∃ m : Nat, m = s.rf Reg.CAG_CAGE_CFG 0 (fld w 1 6) 12 4 ∧ bit w 0 = true ∧ s.leadRuns = true ∧ (mget ({} : I2cSt) s.i2c m).busy = false ∧ ((s.port p).modem = none ∨ (s.port p).modem = some count.toNat)) ∧
    (∃ s : State, ∃ p : Fin 256, ∃ count : BitVec 16, ∃ w : W32, w = s.pRg Reg.LNP_RF_SETUP p ∧ ∃ m : Nat, m = s.rf Reg.CAG_CAGE_CFG 0 (fld w 1 6) 12 4 ∧ bit w 0 = true ∧ s.leadRuns = true ∧ (mget ({} : I2cSt) s.i2c m).busy = false ∧ (s.port p).modem ≠ none ∧ (s.port p).modem ≠ some count.toNat ∧ (s.port p).step ≠ none) ∧
    (∃ s : State, ∃ p : Fin 256, ∃ count : BitVec 16, ∃ w : W32, w = s.pRg Reg.LNP_RF_SETUP p ∧ ∃ m : Nat, m = s.rf Reg.CAG_CAGE_CFG 0 (fld w 1 6) 12 4 ∧ bit w 0 = true ∧ s.leadRuns = true ∧ (mget ({} : I2cSt) s.i2c m).busy = false ∧ (s.port p).modem ≠ none ∧ (s.port p).modem ≠ some count.toNat ∧ (s.port p).step = none ∧ s.portRf p = true ∧ s.rfK p ≠ count.toNat ∧ count.toNat < 512 ∧ count.toNat ≤ 20 * cfgOtuN (s.portCfg p) ∧ 10 ≤ count.toNat ∧ s.timeValid = true ∧ s.variant.hasOtn = true ∧ (s.slot 224).state ≠ 1) :=
  ⟨⟨(S D0), 5, the (the (by decide +kernel))⟩,
   ⟨(S (setup otn)), 5, 7, the (the (by decide +kernel))⟩,
   ⟨(S (setup (port 5 (fun x => { x with modem := some 3 }) (st id)))), 5, 9, the (the (by decide +kernel))⟩,
   ⟨(S (setup (port 5 (fun x => { x with modem := some 3 }) (valid otn)))), 5, 10, the (the (by decide +kernel))⟩⟩

end W07

namespace W08

def otn : Dev := D0.pWg Reg.LNP_PORT_CFG 5 (at_ 0 1 1 ||| at_ 1 3 6 ||| at_ 4 2 3 ||| at_ 6 2 3)
def c6 : Dev := port 5 (fun x => { x with causes := 0x40 }) otn
def stp (ph : Nat) (d : Dev) : Dev := port 5 (fun x => { x with step := some { slots := 30, old := 20, up := true, revert := false, expectRx := false, expectSlots := 4, gapAt := 5, start := 1, phase := ph } }) d
def gr (n : Nat) : Dev := otn.setOtf 5 { otn.otf1 5 with gccRx := [{}, { bytes := List.replicate n 7, mfas := [3] }, {}, {}] }
def tx (d : Dev) (run : Bool := true) : Dev :=
  let d := (d.pWg Reg.OTF_GCC_RING 5 (at_ 16 9 3)).pWg Reg.OTF_GCC_CFG 5 0xFF
  let d := if run then d.ringWg Reg.DMA_DEV_IDX 515 (at_ 16 3 1) else d
  d.ringWg Reg.DMA_HOST_IDX 515 3
def rfs (f : RfStep → RfStep) (d : Dev := otn) : Dev := port 5 (fun x => { x with step := some (f { slots := 30, old := 20, up := true, revert := false, expectRx := false, expectSlots := 4, gapAt := 5, start := 1, phase := 1 }) }) d
def inOrder : Dev :=
  let d := otn.pWg Reg.OTF_RX_PSI 5 (w32 (256 + otn.pRf Reg.OTF_OH_CFG 5 8 8))
  let d := d.setOtf 5 { d.otf1 5 with fas := { phase := some 77 }, mfLocked := true, mfas := 41, omfi := 41, lanes := (List.range 8).map fun i => { phase := some i } }
  (d.setObj bOTF 0x12 5 (List.replicate 16 0x2A2A2A2A)).setOtf 5 { d.otf1 5 with fas := { phase := some 77 }, mfLocked := true, mfas := 41, omfi := 41, lanes := (List.range 8).map fun i => { phase := some i }, txMfas := 9 }
def fr0 : OtuFrame := { markers := (List.range 8).map fun i => [99, i], omfi := 42, phases := [3, 77], mfas := 42, crcErrors := 2 }
def rxr (d : Dev) : Dev := (d.ringWg Reg.DMA_DEV_IDX 0 (at_ 16 3 1)).setRing 0 { desc := [(4096, 512)] }
def full : Dev := (tx otn).setOtf 5 { (tx otn).otf1 5 with gccTx := [List.replicate 505 0, [], [], []] }

/-- Meets the hypotheses of `DefectsAreDeclared` (its part DefectSuppression). -/
theorem witness_DefectSuppression : ∃ i : Nat, i < 14 :=
  ⟨0, by decide +kernel⟩

/-- Meets the hypotheses of `DefectsAreDeclared` (its part OtucFrameLayers). -/
theorem witness_OtucFrameLayers :
    (∃ s : State, ∃ p : Fin 256, ∃ f : OtuFrame, s.portOn p = true ∧ s.portMode p = 6 ∧ f.lockLost = true ∧ (bit (s.port p).causes 6 = true ∨ s.portState p ≠ 2)) ∧
    (∃ s : State, ∃ p : Fin 256, ∃ f : OtuFrame, ∃ φ, (s.otf1 p).fas.phase = some φ ∧ s.portOn p = true ∧ s.portMode p = 6 ∧ FramerInOrder s.toDev p ∧ (s.otf1 p).msiOk ≠ some false ∧ (s.otf1 p).aisRun = 0 ∧ f.lockLost = false ∧ f.skewOk = true ∧ (∀ i < cfgWidth (s.portCfg p), ∃ ψ ∈ f.markers.getD i [], ((s.otf1 p).lanes.getD i {}).phase = some ψ) ∧ f.omfi.toNat = ((s.otf1 p).omfi + 1) % 256 ∧ φ ∈ f.phases ∧ f.mfas.toNat = ((s.otf1 p).mfas + 1) % 256 ∧ f.mfas ≠ 0 ∧ f.allOnes = false ∧ f.stat = 1 ∧ f.smBdi = false ∧ f.pmBdi = false) ∧
    (∃ s : State, ∃ p : Fin 256, (s.portOn p = false ∨ s.portMode p ≠ 6)) :=
  ⟨⟨(S (c6 : Dev)), 5, ({ lockLost := true }), by decide +kernel⟩,
   ⟨(S inOrder), 5, fr0, got (by decide +kernel) (by decide +kernel)⟩,
   ⟨(S (D0 : Dev)), 5, by decide +kernel⟩⟩

/-- Meets the hypotheses of `OverheadBoundaries` (its part PsiBoundary). -/
theorem witness_PsiBoundary :
    (∃ s : State, ∃ p : Fin 256, (s.portOn p = true ∧ s.portMode p = 6) ∧ ∃ r, (s.port p).step = some r ∧ r.phase = 0) ∧
    (∃ s : State, ∃ p : Fin 256, (s.portOn p = true ∧ s.portMode p = 6) ∧ ∃ r, (s.port p).step = some r ∧ r.phase = 1 ∧ r.up = true ∧ s.farBdi p = false) ∧
    (∃ s : State, ∃ p : Fin 256, (s.portOn p = true ∧ s.portMode p = 6) ∧ ∃ r, (s.port p).step = some r ∧ r.phase = 1 ∧ r.up = false ∧ s.cue.localNs < r.gapAt) ∧
    (∃ s : State, ∃ p : Fin 256, (s.portOn p = true ∧ s.portMode p = 6) ∧ ∃ r, (s.port p).step = some r ∧ r.phase = 1 ∧ r.up = false ∧ r.gapAt ≤ s.cue.localNs ∧ r.expectRx = false ∧ r.slots < 512) ∧
    (∃ s : State, ∃ p : Fin 256, (s.portOn p = true ∧ s.portMode p = 6) ∧ ∃ r, (s.port p).step = some r ∧ r.phase = 4) ∧
    (∃ s : State, ∃ p : Fin 256, (s.portOn p = true ∧ s.portMode p = 6) ∧ ∃ r, (s.port p).step = some r ∧ r.phase = 5) ∧
    (∃ s : State, ∃ p : Fin 256, s.portOn p = true ∧ s.portMode p = 6 ∧ (s.port p).step = none) ∧
    (∃ s : State, ∃ p : Fin 256, ∃ msi : Option (BitVec 9), (s.portOn p = true ∧ s.portMode p = 6 ∧ NoNewDown s.toDev p ∧ (s.port p).step = none) ∧ ∃ j : BitVec 9, msi = some j ∧ (if s.portRf p then 10 ≤ j.toNat ∧ j.toNat ≤ 20 * cfgOtuN (s.portCfg p) else j.toNat = 20 * cfgOtuN (s.portCfg p))) ∧
    (∃ s : State, ∃ p : Fin 256, ∃ msi : Option (BitVec 9), s.portOn p = true ∧ s.portMode p = 6 ∧ (bit (s.port p).causes 6 = true ∨ s.portState p ≠ 2) ∧ msi = none) :=
  ⟨⟨(S (stp 0 otn : Dev)), 5, by decide +kernel, got (by decide +kernel) (by decide +kernel)⟩,
   ⟨(S (rfs id)), 5, by decide +kernel, got (by decide +kernel) (by decide +kernel)⟩,
   ⟨(S (rfs fun r => { r with up := false, gapAt := 9 })), 5, by decide +kernel, got (by decide +kernel) (by decide +kernel)⟩,
   ⟨(S (rfs fun r => { r with up := false, gapAt := 0 })), 5, by decide +kernel, got (by decide +kernel) (by decide +kernel)⟩,
   ⟨(S (rfs fun r => { r with phase := 4 })), 5, by decide +kernel, got (by decide +kernel) (by decide +kernel)⟩,
   ⟨(S (rfs fun r => { r with phase := 5 })), 5, by decide +kernel, got (by decide +kernel) (by decide +kernel)⟩,
   ⟨(S (c6 : Dev)), 5, by decide +kernel⟩,
   ⟨(S (c6 : Dev)), 5, (some 12), by decide +kernel, got (by decide +kernel) (by decide +kernel)⟩,
   ⟨(S (stp 0 otn : Dev)), 5, none, by decide +kernel⟩⟩

/-- Meets the hypotheses of `OverheadBoundaries` (its part ChannelRecords). -/
theorem witness_ChannelRecords :
    (∃ s : State, ∃ p : Fin 256, ∃ c : Fin 4, ∃ g : GccRx, g = (s.otf1 p).gccRx.getD c {} ∧ (g.bytes = [] ∨ (g.bytes.length < 256 ∧ s.gccRuns p c = true))) ∧
    (∃ s : State, ∃ p : Fin 256, ∃ c : Fin 4, ∃ g : GccRx, g = (s.otf1 p).gccRx.getD c {} ∧ ∃ ring : Nat, ring = s.pRf Reg.OTF_GCC_RING p 0 9 ∧ (256 ≤ g.bytes.length ∨ (g.bytes ≠ [] ∧ s.gccRuns p c = false)) ∧ (s.ringState ring ≠ 1 ∨ s.mastering = false)) ∧
    (∃ s : State, ∃ p : Fin 256, ∃ c : Fin 4, ∃ g : GccRx, g = (s.otf1 p).gccRx.getD c {} ∧ ∃ ring : Nat, ring = s.pRf Reg.OTF_GCC_RING p 0 9 ∧ ((256 ≤ g.bytes.length ∨ (g.bytes ≠ [] ∧ s.gccRuns p c = false))) ∧ ∃ d rest, (s.ring ring).desc = d :: rest ∧ s.ringState ring = 1 ∧ s.mastering = true ∧ 264 ≤ d.2) :=
  ⟨⟨(S (D0 : Dev)), 5, 1, the (by decide +kernel)⟩,
   ⟨(S (gr 256 : Dev)), 5, 1, the (the (by decide +kernel))⟩,
   ⟨(S (rxr (gr 256))), 5, 1, the (the ⟨by decide +kernel, gotCons (by decide +kernel) (by decide +kernel)⟩)⟩⟩

/-- Meets the hypotheses of `OverheadBoundaries` (its part ChannelTx). -/
theorem witness_ChannelTx :
    (∃ s : State, ∃ ring : Fin 512, ∃ descs : Fin 9, (s.ringState (512 + ring.val) ≠ 1 ∨ s.mastering = false ∨ s.outstanding (512 + ring.val) < descs)) ∧
    (∃ s : State, ∃ ring : Fin 512, ∃ w0 : W32, ∃ w1 : W32, ∃ descs : Fin 9, ∃ p : Nat, p = fld w0 0 8 ∧ s.ringState (512 + ring.val) = 1 ∧ s.mastering = true ∧ descs ≤ s.outstanding (512 + ring.val) ∧ (w1 ≠ 0 ∨ s.portMode p ≠ 6 ∨ fld w0 16 9 = 0 ∨ 256 < fld w0 16 9)) ∧
    (∃ s : State, ∃ ring : Fin 512, ∃ w0 : W32, ∃ w1 : W32, ∃ descs : Fin 9, ∃ p : Nat, p = fld w0 0 8 ∧ ∃ c : Nat, c = fld w0 8 2 ∧ s.ringState (512 + ring.val) = 1 ∧ s.mastering = true ∧ descs ≤ s.outstanding (512 + ring.val) ∧ s.portOn p = true ∧ s.portMode p = 6 ∧ s.pRf Reg.OTF_GCC_RING p 16 9 = ring ∧ bit (s.pRg Reg.OTF_GCC_CFG p) (4 + c) = true ∧ 1 ≤ fld w0 16 9 ∧ fld w0 16 9 ≤ 256 ∧ fld w0 10 6 = 0 ∧ fld w0 25 7 = 0 ∧ w1 = 0 ∧ 512 < ((s.otf1 p).gccTx.getD c []).length + fld w0 16 9) ∧
    (∃ s : State, ∃ ring : Fin 512, ∃ w0 : W32, ∃ w1 : W32, ∃ descs : Fin 9, ∃ p : Nat, p = fld w0 0 8 ∧ ∃ c : Nat, c = fld w0 8 2 ∧ s.ringState (512 + ring.val) = 1 ∧ s.mastering = true ∧ descs ≤ s.outstanding (512 + ring.val) ∧ s.portOn p = true ∧ s.portMode p = 6 ∧ s.pRf Reg.OTF_GCC_RING p 16 9 = ring ∧ bit (s.pRg Reg.OTF_GCC_CFG p) (4 + c) = true ∧ 1 ≤ fld w0 16 9 ∧ fld w0 16 9 ≤ 256 ∧ fld w0 10 6 = 0 ∧ fld w0 25 7 = 0 ∧ w1 = 0 ∧ ((s.otf1 p).gccTx.getD c []).length + fld w0 16 9 ≤ 512) :=
  ⟨⟨(S D0), 3, 1, by decide +kernel⟩,
   ⟨(S (tx otn)), 3, 0, 1, 1, the (by decide +kernel)⟩,
   ⟨(S full), 3, (at_ 0 8 5 ||| at_ 16 9 8), 0, 1, the (the (by decide +kernel))⟩,
   ⟨(S (tx otn)), 3, (at_ 0 8 5 ||| at_ 16 9 8), 0, 1, the (the (by decide +kernel))⟩⟩

end W08

namespace W09

def lc (f : LciSt → LciSt) (d : Dev := D0) : Dev := { d with lci := f d.lci }
def words (p : Nat) : List W32 := [at_ 6 8 p ||| at_ 2 1 1, 0, 5, 0, 1, 2, 0, 0, 0, 0, 0, 0, 1, 2, 3, 4, 0, 0, 0, 0]
def ld (ws : List W32) (d : Dev) : Dev := lc (fun l => { l with load := (List.range 20).zipWith (fun i w => (i, w)) ws }) d
def prot : Dev := (D0.pWg Reg.LNP_PORT_CFG 5 3).pWg Reg.LCI_PORT_CFG 5 1
def slot (d : Dev) : Dev := lc (fun l => { l with slots := [(7, { words := words 5, index := 3, pn := 9 })] }) d
def stored (p : Nat) (d : Dev) : Dev := lc (fun l => { l with store := [(3, { key := 0, words := ctxWith (words p) 5 1 })], gens := [(3, 1)] }) d
def sw (d : Dev) : Dev := d.setObj bLCI 0x10 9 [at_ 0 8 5 ||| at_ 8 8 7]
def slot2 (f : CtxSlot → CtxSlot) (d : Dev) : Dev := lc (fun l => { l with slots := [(8, f { words := words 5, index := 9, pn := 9 })] }) d
def implW (p : Nat) : List W32 := [at_ 6 8 p ||| at_ 5 1 1, 0, 5, 0, 1, 2, 0, 0, 0, 0, 0, 0, 1, 2, 3, 4, 0, 0, 0, 0]
def spent (i : Nat) (d : Dev) : Dev := lc (fun l => { l with gens := [(i, 2 ^ 64 - 1)] }) d
def storedW (ws : List W32) (key : Nat) (d : Dev) : Dev := lc (fun l => { l with store := [(3, { key := key, words := ctxWith ws 5 1 })], gens := [(3, 1)] }) d

/-- Meets the hypotheses of `ContextsLoad` (its part ContextCommandEnds). -/
theorem witness_ContextCommandEnds :
    (∃ s : State, s.lci.busy = none) ∧
    (∃ s : State, ∃ code : Nat, s.lci.busy = some code) :=
  ⟨⟨(S (D0 : Dev)), by decide +kernel⟩,
   ⟨(S (lc fun l => { l with busy := some 4, load := [(3, 4)] } : Dev)), 4, by decide +kernel⟩⟩

/-- Meets the hypotheses of `ContextsLoad` (its part ContextLoads). -/
theorem witness_ContextLoads :
    (∃ s : State, ∃ q : Req, Reached s.toDev q Reg.LCI_CLEAR_LOAD 0 0 ∧ s.arming.get q = true ∧ s.lci.busy ≠ none) ∧
    (∃ s : State, ∃ q : Req, (Reached s.toDev q Reg.LCI_CLEAR_LOAD 0 0 ∧ s.arming.get q = true) ∧ ∃ ws : List W32, ws = s.loadWords 20 ∧ s.lci.busy = none ∧ (ctxOk ws = false ∨ s.portOn (ctxPort ws) = false ∨ s.protected (ctxPort ws) = false)) ∧
    (∃ s : State, ∃ q : Req, ∃ x : BitVec 14, (Reached s.toDev q Reg.LCI_CLEAR_LOAD 0 0 ∧ s.arming.get q = true) ∧ ∃ ws : List W32, ws = s.loadWords 20 ∧ s.lci.busy = none ∧ ctxOk ws = true ∧ s.portOn (ctxPort ws) = true ∧ s.protected (ctxPort ws) = true ∧ s.restored x.toNat = true) ∧
    (∃ s : State, ∃ q : Req, ∃ x : BitVec 14, (Reached s.toDev q Reg.LCI_CLEAR_LOAD 0 0 ∧ s.arming.get q = true) ∧ ∃ ws : List W32, ws = s.loadWords 20 ∧ s.lci.busy = none ∧ ctxOk ws = true ∧ s.portOn (ctxPort ws) = true ∧ s.protected (ctxPort ws) = true ∧ s.restored x.toNat = false ∧ s.nextGen x.toNat = none) ∧
    (∃ s : State, ∃ q : Req, ∃ x : BitVec 14, (Reached s.toDev q Reg.LCI_CLEAR_LOAD 0 0 ∧ s.arming.get q = true) ∧ ∃ ws : List W32, ws = s.loadWords 20 ∧ (s.lci.busy = none ∧ ctxOk ws = true ∧ s.portOn (ctxPort ws) = true ∧ s.protected (ctxPort ws) = true) ∧ ∃ g, s.nextGen x.toNat = some g ∧ s.restored x.toNat = false) ∧
    (∃ s : State, ∃ q : Req, Reached s.toDev q Reg.LCI_CLEAR_LOAD 0 0 ∧ s.arming.get q = true ∧ s.lci.busy ≠ none) ∧
    (∃ s : State, ∃ q : Req, Reached s.toDev q Reg.LCI_CLEAR_LOAD 0 0 ∧ s.arming.get q = true ∧ s.lci.busy = none) ∧
    (∃ s : State, ∃ q : Req, Reached s.toDev q Reg.LCI_WRAP_LOAD 0 0 ∧ s.lci.busy ≠ none) ∧
    (∃ s : State, ∃ q : Req, ∃ k : Fin 4, Reached s.toDev q Reg.LCI_WRAP_LOAD 0 0 ∧ s.lci.busy = none ∧ (s.lci.keks.find? fun e => e.1 == k.val) = none) ∧
    (∃ s : State, ∃ q : Req, ∃ k : Fin 4, (Reached s.toDev q Reg.LCI_WRAP_LOAD 0 0 ∧ s.lci.busy = none) ∧ ∃ kek, (s.lci.keks.find? fun e => e.1 == k.val) = some kek) :=
  ⟨⟨(S (lc (fun l => { l with busy := some 0 }) D0 : Dev)), (.host), by decide +kernel⟩,
   ⟨(S (D0 : Dev)), (.host), by decide +kernel, the (by decide +kernel)⟩,
   ⟨(S (slot (ld (words 5) prot) : Dev)), (.host), 3, by decide +kernel, the (by decide +kernel)⟩,
   ⟨(S (spent 3 (ld (words 5) prot))), (.host), 3, by decide +kernel, the (by decide +kernel)⟩,
   ⟨(S (ld (words 5) prot : Dev)), (.host), 3, by decide +kernel, the ⟨by decide +kernel, got (by decide +kernel) (by decide +kernel)⟩⟩,
   ⟨(S (lc (fun l => { l with busy := some 0 }) D0 : Dev)), (.host), by decide +kernel⟩,
   ⟨(S (D0 : Dev)), (.host), by decide +kernel⟩,
   ⟨(S (lc (fun l => { l with busy := some 0 }) D0 : Dev)), (.host), by decide +kernel⟩,
   ⟨(S (D0 : Dev)), (.host), 0, by decide +kernel⟩,
   ⟨(S (lc (fun l => { l with keks := [(2, [1, 2, 3, 4, 5, 6, 7, 8])] }) D0 : Dev)), (.host), 2, by decide +kernel, got0 (by decide +kernel)⟩⟩

/-- Meets the hypotheses of `ContextsMove` (its part ContextCommands). -/
theorem witness_ContextCommands :
    (∃ s : State, ∃ q : Req, ∃ x : BitVec 14, ∃ c : Fin 16, ∃ slot : Byte, (Reached s.toDev q Reg.LCI_CTX_CMD 0 0 ∧ s.lci.busy ≠ none) ∧ ∃ i, ∃ op, (i, op) ∈ [(Instr.restore q x c slot false, 1), (.park q x c slot, 2), (.drop q x c slot, 3), (.erase q x c slot, 4)]) ∧
    (∃ s : State, ∃ q : Req, ∃ c : Fin 16, Reached s.toDev q Reg.LCI_CTX_CMD 0 0 ∧ s.lci.busy = none ∧ s.cipherIn c = false) ∧
    (∃ s : State, ∃ q : Req, ∃ c : Fin 16, ∃ slot : Byte, Reached s.toDev q Reg.LCI_CTX_CMD 0 0 ∧ ∃ n : Nat, n = slot.toNat ∧ s.lci.busy = none ∧ s.cipherIn c = true ∧ s.ctx? c n ≠ none) ∧
    (∃ s : State, ∃ q : Req, ∃ x : BitVec 14, ∃ c : Fin 16, ∃ slot : Byte, Reached s.toDev q Reg.LCI_CTX_CMD 0 0 ∧ ∃ n : Nat, n = slot.toNat ∧ s.lci.busy = none ∧ s.cipherIn c = true ∧ s.ctx? c n = none ∧ s.tIso 0 = false ∧ s.lci.store.find? (fun e => e.1 == x.toNat) = none) ∧
    (∃ s : State, ∃ q : Req, ∃ x : BitVec 14, ∃ c : Fin 16, ∃ slot : Byte, Reached s.toDev q Reg.LCI_CTX_CMD 0 0 ∧ ∃ n : Nat, n = slot.toNat ∧ s.lci.busy = none ∧ ∃ e, (s.lci.store.find? (fun e => e.1 == x.toNat) = some e) ∧ s.cipherIn c = true ∧ s.ctx? c n = none ∧ s.tIso 0 = false ∧ s.restored x.toNat = true) ∧
    (∃ s : State, ∃ q : Req, ∃ x : BitVec 14, ∃ c : Fin 16, ∃ slot : Byte, Reached s.toDev q Reg.LCI_CTX_CMD 0 0 ∧ ∃ n : Nat, n = slot.toNat ∧ s.lci.busy = none ∧ ∃ e, (s.lci.store.find? (fun e => e.1 == x.toNat) = some e) ∧ ∃ ws, ws = e.2.words ∧ s.cipherIn c = true ∧ s.ctx? c n = none ∧ s.tIso 0 = false ∧ s.restored x.toNat = false ∧ (e.2.key ≠ s.lci.devKey ∨ ctxGen ws ≠ mget 0 s.lci.gens x.toNat)) ∧
    (∃ s : State, ∃ q : Req, ∃ x : BitVec 14, ∃ c : Fin 16, ∃ slot : Byte, Reached s.toDev q Reg.LCI_CTX_CMD 0 0 ∧ ∃ n : Nat, n = slot.toNat ∧ s.lci.busy = none ∧ ∃ e, (s.lci.store.find? (fun e => e.1 == x.toNat) = some e) ∧ ∃ ws, ws = e.2.words ∧ s.cipherIn c = true ∧ s.ctx? c n = none ∧ s.tIso 0 = false ∧ s.restored x.toNat = false ∧ e.2.key = s.lci.devKey ∧ ctxGen ws = mget 0 s.lci.gens x.toNat ∧ ctxPort ws / 16 ≠ c) ∧
    (∃ s : State, ∃ q : Req, ∃ x : BitVec 14, ∃ c : Fin 16, ∃ slot : Byte, Reached s.toDev q Reg.LCI_CTX_CMD 0 0 ∧ ∃ n : Nat, n = slot.toNat ∧ s.lci.busy = none ∧ ∃ e, (s.lci.store.find? (fun e => e.1 == x.toNat) = some e) ∧ ∃ ws, ws = e.2.words ∧ s.cipherIn c = true ∧ s.ctx? c n = none ∧ s.tIso 0 = false ∧ s.restored x.toNat = false ∧ e.2.key = s.lci.devKey ∧ ctxGen ws = mget 0 s.lci.gens x.toNat ∧ ctxPort ws / 16 = c ∧ ctxImplicit ws = true ∧ ctxTx ws = false ∧ (∃ z ∈ s.lci.slots, ctxImplicit z.2.words = true ∧ ctxTx z.2.words = false ∧ ctxPort z.2.words = ctxPort ws ∧ ctxAn z.2.words = ctxAn ws)) ∧
    (∃ s : State, ∃ q : Req, ∃ x : BitVec 14, ∃ c : Fin 16, ∃ slot : Byte, Reached s.toDev q Reg.LCI_CTX_CMD 0 0 ∧ ∃ n : Nat, n = slot.toNat ∧ s.lci.busy = none ∧ ∃ e, (s.lci.store.find? (fun e => e.1 == x.toNat) = some e) ∧ ∃ ws, ws = e.2.words ∧ s.cipherIn c = true ∧ s.ctx? c n = none ∧ s.tIso 0 = false ∧ s.restored x.toNat = false ∧ e.2.key = s.lci.devKey ∧ ctxGen ws = mget 0 s.lci.gens x.toNat ∧ ctxPort ws / 16 = c ∧ (ctxImplicit ws = false ∨ ctxTx ws = true)) ∧
    (∃ s : State, ∃ q : Req, ∃ c : Fin 16, ∃ slot : Byte, Reached s.toDev q Reg.LCI_CTX_CMD 0 0 ∧ ∃ n : Nat, n = slot.toNat ∧ s.lci.busy = none ∧ s.ctx? c n = none) ∧
    (∃ s : State, ∃ q : Req, ∃ c : Fin 16, ∃ slot : Byte, Reached s.toDev q Reg.LCI_CTX_CMD 0 0 ∧ ∃ n : Nat, n = slot.toNat ∧ s.lci.busy = none ∧ ∃ e, s.ctx? c n = some e ∧ s.nextGen e.index = none) ∧
    (∃ s : State, ∃ q : Req, ∃ c : Fin 16, ∃ slot : Byte, Reached s.toDev q Reg.LCI_CTX_CMD 0 0 ∧ ∃ n : Nat, n = slot.toNat ∧ s.lci.busy = none ∧ ∃ e, s.ctx? c n = some e ∧ ∃ g, s.nextGen e.index = some g) ∧
    (∃ s : State, ∃ q : Req, ∃ c : Fin 16, ∃ slot : Byte, Reached s.toDev q Reg.LCI_CTX_CMD 0 0 ∧ ∃ n : Nat, n = slot.toNat ∧ s.lci.busy = none ∧ s.ctx? c n ≠ none) ∧
    (∃ s : State, ∃ q : Req, ∃ x : BitVec 14, Reached s.toDev q Reg.LCI_CTX_CMD 0 0 ∧ s.lci.busy = none ∧ s.restored x.toNat = false) ∧
    (∃ s : State, ∃ q : Req, ∃ x : BitVec 14, Reached s.toDev q Reg.LCI_CTX_CMD 0 0 ∧ s.lci.busy = none ∧ s.restored x.toNat = true) :=
  ⟨⟨(S (lc (fun l => { l with busy := some 0 }) D0)), (.host), 3, 0, 7, by decide +kernel, ⟨(Instr.restore ((.host)) 3 0 7 false), ⟨1, by decide +kernel⟩⟩⟩,
   ⟨(S (prot.wf Reg.LCI_CLUSTER_STATUS 0 0 0 2 1 : Dev)), (.host), (0 : Fin 16), by decide +kernel⟩,
   ⟨(S (slot prot : Dev)), (.host), (0 : Fin 16), 7, by decide +kernel, the (by decide +kernel)⟩,
   ⟨(S (D0 : Dev)), (.host), 3, (0 : Fin 16), 7, by decide +kernel, the (by decide +kernel)⟩,
   ⟨(S (slot (stored 5 prot))), (.host), 3, 0, 9, by decide +kernel, the ⟨by decide +kernel, got (by decide +kernel) (by decide +kernel)⟩⟩,
   ⟨(S (storedW (words 5) 4 prot)), (.host), 3, 0, 9, by decide +kernel, the ⟨by decide +kernel, got (by decide +kernel) (the (by decide +kernel))⟩⟩,
   ⟨(S (storedW (words 21) 0 prot)), (.host), 3, 0, 9, by decide +kernel, the ⟨by decide +kernel, got (by decide +kernel) (the (by decide +kernel))⟩⟩,
   ⟨(S (slot2 (fun z => { z with words := implW 5 }) (storedW (implW 5) 0 prot))), (.host), 3, 0, 9, by decide +kernel, the ⟨by decide +kernel, got (by decide +kernel) (the (by decide +kernel))⟩⟩,
   ⟨(S (stored 5 prot : Dev)), (.host), 3, (0 : Fin 16), 7, by decide +kernel, the ⟨by decide +kernel, got (by decide +kernel) (the (by decide +kernel))⟩⟩,
   ⟨(S (prot.wf Reg.LCI_CLUSTER_STATUS 0 0 0 2 1 : Dev)), (.host), (0 : Fin 16), 0, by decide +kernel, the (by decide +kernel)⟩,
   ⟨(S (spent 3 (slot prot))), (.host), 0, 7, by decide +kernel, the ⟨by decide +kernel, got (by decide +kernel) (by decide +kernel)⟩⟩,
   ⟨(S (slot prot : Dev)), (.host), (0 : Fin 16), 7, by decide +kernel, the ⟨by decide +kernel, got (by decide +kernel) (got0 (by decide +kernel))⟩⟩,
   ⟨(S (slot prot : Dev)), (.host), (0 : Fin 16), 7, by decide +kernel, the (by decide +kernel)⟩,
   ⟨(S (prot.wf Reg.LCI_CLUSTER_STATUS 0 0 0 2 1 : Dev)), (.host), 0, by decide +kernel⟩,
   ⟨(S (slot prot : Dev)), (.host), 3, by decide +kernel⟩⟩

/-- Meets the hypotheses of `ContextsMove` (its part SwitchAndSelfTest). -/
theorem witness_SwitchAndSelfTest :
    (∃ s : State, ∃ q : Req, Reached s.toDev q Reg.LCI_SWITCH_NOW 0 0) ∧
    (∃ s : State, ∃ r : BitVec 12, ∃ w, w = word (s.obj bLCI 0x10 r.toNat) 0 ∧ ∃ p, p = fld w 0 8 ∧ ∃ slot, slot = fld w 8 8 ∧ fld w 16 16 = 0 ∧ s.txSlotOk p slot = true) ∧
    (∃ s : State, ∃ r : BitVec 12, ∃ w, w = word (s.obj bLCI 0x10 r.toNat) 0 ∧ ∃ p, p = fld w 0 8 ∧ ∃ slot, slot = fld w 8 8 ∧ fld w 16 16 = 0 ∧ s.txSlotOk p slot = false) ∧
    (∃ s : State, ∃ q : Req, ∃ c : Fin 16, Reached s.toDev q Reg.LCI_CLUSTER_CTRL c 0 ∧ s.rf Reg.LCI_CLUSTER_STATUS c 0 0 2 = 1) ∧
    (∃ s : State, ∃ q : Req, ∃ c : Fin 16, Reached s.toDev q Reg.LCI_CLUSTER_CTRL c 0 ∧ s.rf Reg.LCI_CLUSTER_STATUS c 0 0 2 ≠ 1) ∧
    (∃ s : State, ∃ c : Fin 16, s.rf Reg.LCI_CLUSTER_STATUS c 0 0 2 = 2 ∧ s.validSlots c = []) ∧
    (∃ s : State, ∃ c : Fin 16, s.rf Reg.LCI_CLUSTER_STATUS c 0 0 2 ≠ 2) :=
  ⟨⟨(S (D0 : Dev)), (.host), by decide +kernel⟩,
   ⟨(S (sw (slot prot) : Dev)), 9, the (the (the (by decide +kernel)))⟩,
   ⟨(S (D0 : Dev)), 0, the (the (the (by decide +kernel)))⟩,
   ⟨(S (prot.wf Reg.LCI_CLUSTER_STATUS 0 0 0 2 1 : Dev)), (.host), 0, by decide +kernel⟩,
   ⟨(S (D0 : Dev)), (.host), 0, by decide +kernel⟩,
   ⟨(S (prot.wf Reg.LCI_CLUSTER_STATUS 0 0 0 2 2 : Dev)), 0, by decide +kernel⟩,
   ⟨(S (D0 : Dev)), 0, by decide +kernel⟩⟩

end W09

namespace W10

def bk (b : Book := book0) (d : Dev := D0) : Dev := ({ d with pbk := { d.pbk with inForce := some b } } : Dev).wf Reg.PBK_STATE 0 0 0 4 4
def up (p : Nat) (d : Dev := bk) : Dev := (d.pWf Reg.LNP_PORT_STATUS p 0 3 2).pWg Reg.LNP_PORT_CFG p (at_ 0 1 1 ||| at_ 8 14 1518 ||| at_ 30 1 1)

def rx (c : Nat) (fs : List RxFrame) (d : Dev := up 5) : Dev := { d with ing := { d.ing with rx := mset [] d.ing.rx c fs } }
def fr (n : Nat) : RxFrame := { port := 5, bytes := bs n, tsNs := 7, tsSec := 1, prot := 0, good := true }
def iso (c : Nat) (d : Dev) : Dev := d.wg Reg.INT_ISO 0 0 (at_ c 1 1)
def ik (n : Nat) : IngPkt := { port := 5, frame := bs n, epoch := 0, since := 0, prot := 0, good := true, md := (List.replicate 64 0).set 2 3, hashed := [], dest := .sysPort 5, tsNs := 0, tsSec := 0, voq := some 9 }
def pp (k : IngPkt) (d : Dev := (up 5).wg Reg.IPP_PRED_CTRL 0 0 0) : Dev := { d with ing := { d.ing with pipe := [k]  }, cue := { d.cue with house := [(0, 3)] } }
def gen (n : Nat) (d : Dev) : Dev := { d with tm := { d.tm with general := mset [] d.tm.general 0 (List.replicate n { ticket := {}, frame := [], since := 0, good := true }) } }
def ek (n : Nat) : EgPkt := { port := 5, queue := 40, ticket := {}, frame := bs n, since := 0, replica := false, mirrored := false, cut := false, fin := some 0 }
def eg (k : EgPkt) (d : Dev := up 5) : Dev := { d with tm := { d.tm with toEgress := [k] } }
def tk (n : Nat) : TxFrame := { port := 5, queue := 40, frame := bs n, ticket := {}, since := 0, insert := none, capture := none }
def li (k : TxFrame) (d : Dev := up 5) : Dev := { d with tm := { d.tm with toLine := [k] } , cue := { d.cue with sec := 77, ns := 88 } }
def loop (m : Nat) : Dev := ((up 5).pWg Reg.LNP_PORT_CFG 5 (at_ 0 4 3 ||| at_ 8 14 1518)).pWg Reg.LNP_LANE_CTRL 5 (at_ 10 2 m)
def prot (d : Dev := up 5) : Dev := (d.pWg Reg.LCI_PORT_CFG 5 3)
def txs (z : CtxSlot → CtxSlot) : Dev :=
  let d := (prot.pWg Reg.LCI_PORT_TX 5 (at_ 0 8 7 ||| at_ 8 1 1))
  let d := { d with lci := { d.lci with slots := [(7, z { words := [at_ 6 8 5 ||| at_ 2 1 1, 0, 5, 0, 1, 2, 0, 0, 0, 0, 0, 0, 1, 2, 3, 4, 0, 0, 0, 0], index := 3, pn := 9 })] } }
  li (tk 100) d
def st0 : Dev := (up 5).wg Reg.CUE_EPOCH 0 0 (at_ 16 1 1)

/-- Meets the hypotheses of `FramesEnterAndLeaveIngress` (its part FramesReceived). -/
theorem witness_FramesReceived :
    (∃ s : State, ∃ p : Fin 256, s.loopShut p = true) ∧
    (∃ s : State, ∃ p : Fin 256, s.loopShut p = false ∧ s.loopFar p = true ∧ s.protected p = false) ∧
    (∃ s : State, ∃ p : Fin 256, s.loopShut p = false ∧ s.loopFar p = false ∧ (s.portUp p = false ∨ s.clusterIso (p.val / 16) = true)) ∧
    (∃ s : State, ∃ p : Fin 256, ∃ bytes : List Byte, ∃ len : Nat, len = bytes.length + 4 ∧ ∃ lim : Nat, lim = s.maxFrame p + (if s.protected p then 32 else 0) ∧ s.loopShut p = false ∧ s.loopFar p = false ∧ s.portUp p = true ∧ s.clusterIso (p.val / 16) = false ∧ s.rxFull (p.val / 16) (min len lim) = true) ∧
    (∃ s : State, ∃ p : Fin 256, ∃ bytes : List Byte, ∃ len : Nat, len = bytes.length + 4 ∧ ∃ lim : Nat, lim = s.maxFrame p + (if s.protected p then 32 else 0) ∧ s.loopShut p = false ∧ s.loopFar p = false ∧ s.portUp p = true ∧ s.clusterIso (p.val / 16) = false ∧ s.rxFull (p.val / 16) (min len lim) = false ∧ (len < 64 ∨ lim < len)) ∧
    (∃ s : State, ∃ p : Fin 256, ∃ bytes : List Byte, ∃ len : Nat, len = bytes.length + 4 ∧ ∃ lim : Nat, lim = s.maxFrame p + (if s.protected p then 32 else 0) ∧ s.loopShut p = false ∧ s.loopFar p = false ∧ s.portUp p = true ∧ s.clusterIso (p.val / 16) = false ∧ s.rxFull (p.val / 16) (min len lim) = false ∧ 64 ≤ len ∧ len ≤ lim ∧ (s.protected p = true ∨ len ≤ 512)) ∧
    (∃ s : State, ∃ p : Fin 256, ∃ bytes : List Byte, ∃ len : Nat, len = bytes.length + 4 ∧ ∃ lim : Nat, lim = s.maxFrame p + (if s.protected p then 32 else 0) ∧ s.loopShut p = false ∧ s.loopFar p = false ∧ s.portUp p = true ∧ s.clusterIso (p.val / 16) = false ∧ s.rxFull (p.val / 16) (min len lim) = false ∧ 64 ≤ len ∧ len ≤ lim ∧ s.protected p = false ∧ 512 < len) ∧
    (∃ s : State, ∃ p : Fin 256, ∃ bytes : List Byte, ∃ len : Nat, len = bytes.length + 4 ∧ ∃ lim : Nat, lim = s.maxFrame p + (if s.protected p then 32 else 0) ∧ s.loopShut p = false ∧ s.loopFar p = false ∧ s.portUp p = true ∧ s.clusterIso (p.val / 16) = false ∧ s.rxFull (p.val / 16) (min len lim) = false ∧ 64 ≤ len ∧ len ≤ lim ∧ s.protected p = true ∧ s.cipherIn (p.val / 16) = false) ∧
    (∃ s : State, ∃ p : Fin 256, ∃ bytes : List Byte, ∃ len : Nat, len = bytes.length + 4 ∧ ∃ lim : Nat, lim = s.maxFrame p + (if s.protected p then 32 else 0) ∧ s.loopShut p = false ∧ s.loopFar p = false ∧ s.portUp p = true ∧ s.clusterIso (p.val / 16) = false ∧ s.rxFull (p.val / 16) (min len lim) = false ∧ 64 ≤ len ∧ len ≤ lim ∧ s.protected p = true ∧ s.cipherIn (p.val / 16) = true ∧ ofBe (slice bytes 12 2) ≠ 0x88E5 ∧ bit (s.rg Reg.LCI_BYPASS 0 0) 16 = false ∧ bit (s.pRg Reg.LCI_PORT_CFG p) 1 = true ∧ len ≤ s.maxFrame p) :=
  ⟨⟨(S (loop 1)), 5, by decide +kernel⟩,
   ⟨(S (loop 2)), 5, by decide +kernel⟩,
   ⟨(S (D0 : Dev)), 5, by decide +kernel⟩,
   ⟨(S (rx 0 (List.replicate 14 (fr 9400)) : Dev)), 5, (bs 100), the (the (by decide +kernel))⟩,
   ⟨(S (up 5 : Dev)), 5, (bs 10), the (the (by decide +kernel))⟩,
   ⟨(S (up 5 : Dev)), 5, (bs 100), the (the (by decide +kernel))⟩,
   ⟨(S (up 5)), 5, (bs 600), the (the (by decide +kernel))⟩,
   ⟨(S (prot.wf Reg.LCI_CLUSTER_STATUS 0 0 0 2 1)), 5, (bs 100), the (the (by decide +kernel))⟩,
   ⟨(S (prot.wg Reg.LCI_BYPASS 0 0 0)), 5, (bs 100), the (the (by decide +kernel))⟩⟩

/-- Meets the hypotheses of `FramesEnterAndLeaveIngress` (its part HeadsEnter). -/
theorem witness_HeadsEnter :
    (∃ s : State, ∃ c : Fin 16, mget [] s.ing.rx c = []) ∧
    (∃ s : State, ∃ c : Fin 16, ∃ f rest, mget [] s.ing.rx c = f :: rest ∧ (s.clusterIso c = true ∨ s.pdOn c = false)) ∧
    (∃ s : State, ∃ c : Fin 16, ∃ f rest, mget [] s.ing.rx c = f :: rest ∧ s.clusterIso c = false ∧ s.pdOn c = true ∧ s.noBook = true) ∧
    (∃ s : State, ∃ c : Fin 16, ∃ f rest, mget [] s.ing.rx c = f :: rest ∧ s.clusterIso c = false ∧ s.pdOn c = true ∧ s.noBook = false ∧ s.drained (c.val / 8) = true) ∧
    (∃ s : State, ∃ c : Fin 16, ∃ f rest, mget [] s.ing.rx c = f :: rest ∧ s.clusterIso c = false ∧ s.pdOn c = true ∧ s.noBook = false ∧ s.drained (c.val / 8) = false ∧ (s.bookOf s.epochNow).isSome = true) :=
  ⟨⟨(S (D0 : Dev)), 0, by decide +kernel⟩,
   ⟨(S (iso 0 (rx 0 [fr 100]) : Dev)), 0, gotCons (by decide +kernel) (by decide +kernel)⟩,
   ⟨(S (rx 0 [fr 100] D0 : Dev)), 0, gotCons (by decide +kernel) (by decide +kernel)⟩,
   ⟨(S ((rx 0 [fr 100]).wg Reg.PBK_SPLIT 0 0 3 : Dev)), 0, gotCons (by decide +kernel) (by decide +kernel)⟩,
   ⟨(S (rx 0 [fr 100, fr 64] : Dev)), 0, gotCons (by decide +kernel) (by decide +kernel)⟩⟩

/-- Meets the hypotheses of `FramesEnterAndLeaveIngress` (its part PipelineExits). -/
theorem witness_PipelineExits :
    (∃ s : State, ∃ p : Fin 256, (∀ k ∈ s.ing.pipe, k.port ≠ p.val)) ∧
    (∃ s : State, ∃ p : Fin 256, ∃ k : IngPkt, ∃ i : Nat, s.ing.pipe.findIdx? (fun k => k.port == p.val) = some i ∧ s.ing.pipe[i]? = some k ∧ s.clusterIso (p.val / 16) = true) ∧
    (∃ s : State, ∃ p : Fin 256, ∃ k : IngPkt, ∃ i : Nat, ∃ b : Book, s.ing.pipe.findIdx? (fun k => k.port == p.val) = some i ∧ s.ing.pipe[i]? = some k ∧ s.clusterIso (p.val / 16) = false ∧ s.bookOf k.epoch = some b ∧ bit (s.rg Reg.IPP_PRED_CTRL (k.port / 16) 0) 0 = false ∧ k.drop ≠ none) ∧
    (∃ s : State, ∃ p : Fin 256, ∃ k : IngPkt, ∃ i : Nat, ∃ sp : Nat, ∃ b : Book, s.ing.pipe.findIdx? (fun k => k.port == p.val) = some i ∧ s.ing.pipe[i]? = some k ∧ s.clusterIso (p.val / 16) = false ∧ s.bookOf k.epoch = some b ∧ bit (s.rg Reg.IPP_PRED_CTRL (k.port / 16) 0) 0 = false ∧ k.drop = none ∧ k.red = none ∧ k.dest = .sysPort sp ∧ k.good = true ∧ s.ticketFor k (s.flowHash k) 0 (at_ 10 22 sp) 0 k.eq none k.res = none) ∧
    (∃ s : State, ∃ p : Fin 256, ∃ k : IngPkt, ∃ i : Nat, ∃ sp : Nat, ∃ b : Book, ∃ tk : Ticket, s.ing.pipe.findIdx? (fun k => k.port == p.val) = some i ∧ s.ing.pipe[i]? = some k ∧ s.clusterIso (p.val / 16) = false ∧ s.bookOf k.epoch = some b ∧ bit (s.rg Reg.IPP_PRED_CTRL (k.port / 16) 0) 0 = false ∧ k.drop = none ∧ k.red = none ∧ k.dest = .sysPort sp ∧ k.good = true ∧ s.ticketFor k (s.flowHash k) 0 (at_ 10 22 sp) 0 k.eq none k.res = some tk ∧ tk.tc ≠ 0 ∧ (mget [] s.tm.general (k.port / 16)).length < 64) ∧
    (∃ s : State, ∃ p : Fin 256, ∃ k : IngPkt, ∃ i : Nat, ∃ sp : Nat, ∃ b : Book, ∃ tk : Ticket, s.ing.pipe.findIdx? (fun k => k.port == p.val) = some i ∧ s.ing.pipe[i]? = some k ∧ s.clusterIso (p.val / 16) = false ∧ s.bookOf k.epoch = some b ∧ bit (s.rg Reg.IPP_PRED_CTRL (k.port / 16) 0) 0 = false ∧ k.drop = none ∧ k.red = none ∧ k.dest = .sysPort sp ∧ k.good = true ∧ s.ticketFor k (s.flowHash k) 0 (at_ 10 22 sp) 0 k.eq none k.res = some tk ∧ tk.tc = 0 ∧ (mget [] s.tm.urgent (k.port / 16)).length < 16) ∧
    (∃ s : State, ∃ p : Fin 256, ∃ k : IngPkt, ∃ i : Nat, ∃ sp : Nat, ∃ b : Book, ∃ tk : Ticket, s.ing.pipe.findIdx? (fun k => k.port == p.val) = some i ∧ s.ing.pipe[i]? = some k ∧ s.clusterIso (p.val / 16) = false ∧ s.bookOf k.epoch = some b ∧ bit (s.rg Reg.IPP_PRED_CTRL (k.port / 16) 0) 0 = false ∧ k.drop = none ∧ k.red = none ∧ k.dest = .sysPort sp ∧ k.good = true ∧ s.ticketFor k (s.flowHash k) 0 (at_ 10 22 sp) 0 k.eq none k.res = some tk ∧ ((tk.tc ≠ 0 ∧ 64 ≤ (mget [] s.tm.general (k.port / 16)).length) ∨ (tk.tc = 0 ∧ 16 ≤ (mget [] s.tm.urgent (k.port / 16)).length))) ∧
    (∃ s : State, ∃ q : Req, ∃ cl : Fin 16, Reached s.toDev q Reg.IPP_PRED_CTRL cl 0) :=
  ⟨⟨(S (D0 : Dev)), 5, by decide +kernel⟩,
   ⟨(S (iso 0 (pp (ik 100)) : Dev)), 5, (((iso 0 (pp (ik 100)) : Dev).ing.pipe).headD (ik 1)), 0, by decide +kernel⟩,
   ⟨(S (pp { ik 100 with drop := some 3 } : Dev)), 5, (((pp { ik 100 with drop := some 3 } : Dev).ing.pipe).headD (ik 1)), 0, book0, by decide +kernel⟩,
   ⟨(S (pp { ik 100 with voq := none, dest := .sysPort 77 })), 5, ({ ik 100 with voq := none, dest := .sysPort 77 }), 0, 77, book0, by decide +kernel⟩,
   ⟨(S (pp (ik 100) : Dev)), 5, (((pp (ik 100) : Dev).ing.pipe).headD (ik 1)), 0, 5, book0, (((pp (ik 100) : Dev).ing.pipe.head?.bind fun k => (pp (ik 100) : Dev).ticketFor k ((pp (ik 100) : Dev).flowHash k) 0 (at_ 10 22 5) 0 k.eq none k.res).getD {}), by decide +kernel⟩,
   ⟨(S (pp { ik 100 with md := List.replicate 64 0 })), 5, ({ ik 100 with md := List.replicate 64 0 }), 0, 5, book0, (((S (pp { ik 100 with md := List.replicate 64 0 })).ticketFor { ik 100 with md := List.replicate 64 0 } ((S (pp (ik 100))).flowHash { ik 100 with md := List.replicate 64 0 }) 0 (at_ 10 22 5) 0 (ik 100).eq none (ik 100).res).getD {}), by decide +kernel⟩,
   ⟨(S (gen 64 (pp (ik 100)) : Dev)), 5, (((gen 64 (pp (ik 100)) : Dev).ing.pipe).headD (ik 1)), 0, 5, book0, (((gen 64 (pp (ik 100)) : Dev).ing.pipe.head?.bind fun k => (gen 64 (pp (ik 100)) : Dev).ticketFor k ((gen 64 (pp (ik 100)) : Dev).flowHash k) 0 (at_ 10 22 5) 0 k.eq none k.res).getD {}), by decide +kernel⟩,
   ⟨(S (D0 : Dev)), (.host), 0, by decide +kernel⟩⟩

/-- Meets the hypotheses of `PacketsLeaveEgress` (its part PacketsEnterEgress). -/
theorem witness_PacketsEnterEgress :
    (∃ s : State, s.tm.toEgress = []) ∧
    (∃ s : State, ∃ p : Fin 256, ∃ k : EgPkt, ∃ rest : List EgPkt, s.tm.toEgress = k :: rest ∧ (k.fin = none ∨ (∃ n, k.fin = some n ∧ s.dvtTF.delivered < n) ∨ k.port ≠ p)) ∧
    (∃ s : State, ∃ p : Fin 256, ∃ k : EgPkt, ∃ rest : List EgPkt, s.tm.toEgress = k :: rest ∧ ∃ n, k.fin = some n ∧ n ≤ s.dvtTF.delivered ∧ k.port = p ∧ s.quarantined k.ticket.epoch.toNat = true) ∧
    (∃ s : State, ∃ p : Fin 256, ∃ k : EgPkt, ∃ rest : List EgPkt, s.tm.toEgress = k :: rest ∧ ∃ n, k.fin = some n ∧ (n ≤ s.dvtTF.delivered ∧ k.port = p ∧ s.quarantined k.ticket.epoch.toNat = false) ∧ (∀ b, s.bookOf k.ticket.epoch.toNat = some b → b.emap = []) ∧ ∃ m, m = max 1518 (min 9600 (fld (s.cfg k.since Reg.LNP_PORT_CFG (p.val / 16) (p.val % 16)) 8 14)) ∧ k.frame.length + 4 ≤ m) ∧
    (∃ s : State, ∃ p : Fin 256, ∃ k : EgPkt, ∃ rest : List EgPkt, s.tm.toEgress = k :: rest ∧ ∃ n, k.fin = some n ∧ (n ≤ s.dvtTF.delivered ∧ k.port = p ∧ s.quarantined k.ticket.epoch.toNat = false) ∧ (∀ b, s.bookOf k.ticket.epoch.toNat = some b → b.emap = []) ∧ ∃ m, m = max 1518 (min 9600 (fld (s.cfg k.since Reg.LNP_PORT_CFG (p.val / 16) (p.val % 16)) 8 14)) ∧ m < k.frame.length + 4) :=
  ⟨⟨(S (D0 : Dev)), by decide +kernel⟩,
   ⟨(S (eg { ek 100 with fin := none })), 5, ({ ek 100 with fin := none }), [], by decide +kernel⟩,
   ⟨(S (eg (ek 100) ((up 5).wg Reg.CUE_EPOCH 0 0 (at_ 16 1 1)) : Dev)), 5, ((eg (ek 100) ((up 5).wg Reg.CUE_EPOCH 0 0 (at_ 16 1 1)) : Dev).tm.toEgress.headD (ek 1)), [], by decide +kernel, got (by decide +kernel) (by decide +kernel)⟩,
   ⟨(S (eg { ek 100 with pend := some 3 } : Dev)), 5, ((eg { ek 100 with pend := some 3 } : Dev).tm.toEgress.headD (ek 1)), [], by decide +kernel, got (by decide +kernel) ⟨by decide +kernel, held (by decide +kernel), the (by decide +kernel)⟩⟩,
   ⟨(S (eg (ek 2000) : Dev)), 5, ((eg (ek 2000) : Dev).tm.toEgress.headD (ek 1)), [], by decide +kernel, got (by decide +kernel) ⟨by decide +kernel, held (by decide +kernel), the (by decide +kernel)⟩⟩⟩

/-- Meets the hypotheses of `PacketsLeaveEgress` (its part FramesLeave). -/
theorem witness_FramesLeave :
    (∃ s : State, ∃ p : Fin 256, (∀ x ∈ s.tm.toLine, x.port ≠ p.val)) ∧
    (∃ s : State, ∃ p : Fin 256, ∃ sub : Fin 128, ∃ i : Nat, ∃ sec : Nat, ∃ ns : Nat, ∃ x : TxFrame, s.tm.toLine.findIdx? (fun x => x.port == p.val) = some i ∧ s.tm.toLine[i]? = some x ∧ s.timeIn sub = (sec, ns) ∧ s.portUp p = false) ∧
    (∃ s : State, ∃ p : Fin 256, ∃ sub : Fin 128, ∃ i : Nat, ∃ sec : Nat, ∃ ns : Nat, ∃ x : TxFrame, ∃ f : List Byte, (s.tm.toLine.findIdx? (fun x => x.port == p.val) = some i ∧ s.tm.toLine[i]? = some x ∧ s.timeIn sub = (sec, ns) ∧ s.portUp p = true ∧ s.protectedAt x.since p = false ∧ s.loopNear p = false) ∧ (∀ b, s.bookOf x.ticket.epoch.toNat = some b → b.ranges = []) ∧ (((x.insert = none ∧ f = x.frame) ∨ ∃ off, x.insert = some (1, off, none) ∧ off + 10 ≤ min 256 x.frame.length ∧ bit (s.cfg x.since Reg.EPP_PORT_CFG (p.val / 16) (p.val % 16)) 0 = true ∧ f = patch x.frame off (beBytes 6 sec ++ beBytes 4 ns))) ∧ ((s.port p).stamps.length < 64 ∨ x.capture = none)) ∧
    (∃ s : State, ∃ p : Fin 256, ∃ sub : Fin 128, ∃ i : Nat, ∃ sec : Nat, ∃ ns : Nat, ∃ x : TxFrame, s.tm.toLine.findIdx? (fun x => x.port == p.val) = some i ∧ s.tm.toLine[i]? = some x ∧ s.timeIn sub = (sec, ns) ∧ s.portUp p = true ∧ s.protectedAt x.since p = true ∧ x.insert = none ∧ s.cipherIn (p.val / 16) = false) ∧
    (∃ s : State, ∃ p : Fin 256, ∃ sub : Fin 128, ∃ i : Nat, ∃ sec : Nat, ∃ ns : Nat, ∃ x : TxFrame, (s.tm.toLine.findIdx? (fun x => x.port == p.val) = some i ∧ s.tm.toLine[i]? = some x ∧ s.timeIn sub = (sec, ns)) ∧ ∃ slot, slot = fld (s.pRg Reg.LCI_PORT_TX p) 0 8 ∧ ∃ y, s.ctx? (p.val / 16) slot = some y ∧ (s.portUp p = true ∧ s.protectedAt x.since p = true ∧ x.insert = none ∧ x.capture = none ∧ s.loopNear p = false ∧ s.loopFar p = false) ∧ (∀ b, s.bookOf x.ticket.epoch.toNat = some b → b.ranges = []) ∧ s.cipherIn (p.val / 16) = true ∧ bit (s.pRg Reg.LCI_PORT_TX p) 8 = true ∧ x.frame.length + 4 + (if ctxTxSci y.words then 32 else 24) ≤ s.maxFrame p + 32 ∧ 2 ^ s.warnExp (ctxPort y.words) y + 1 < y.remaining ∧ 12 ≤ x.frame.length) :=
  ⟨⟨(S (D0 : Dev)), 5, by decide +kernel⟩,
   ⟨(S (li (tk 100) D0 : Dev)), 5, 3, 0, (((li (tk 100) D0 : Dev).timeIn (3 : Fin 128)).1), (((li (tk 100) D0 : Dev).timeIn (3 : Fin 128)).2), ((li (tk 100) D0 : Dev).tm.toLine.headD (tk 1)), by decide +kernel⟩,
   ⟨(S (li (tk 100))), 5, 3, 0, (((li (tk 100) D0 : Dev).timeIn (3 : Fin 128)).1), (((li (tk 100) D0 : Dev).timeIn (3 : Fin 128)).2), (tk 100), (bs 100), by decide +kernel, held (by decide +kernel), Or.inl (by decide +kernel), by decide +kernel⟩,
   ⟨(S (li (tk 100) (prot.wf Reg.LCI_CLUSTER_STATUS 0 0 0 2 1))), 5, 3, 0, (((li (tk 100) D0 : Dev).timeIn (3 : Fin 128)).1), (((li (tk 100) D0 : Dev).timeIn (3 : Fin 128)).2), (tk 100), by decide +kernel⟩,
   ⟨(S (txs id)), 5, 3, 0, (((li (tk 100) D0 : Dev).timeIn (3 : Fin 128)).1), (((li (tk 100) D0 : Dev).timeIn (3 : Fin 128)).2), (tk 100), by decide +kernel, the (got (by decide +kernel) ⟨by decide +kernel, held (by decide +kernel), by decide +kernel⟩)⟩⟩

end W10

namespace W11

def rep1 : Rep := { routes := [(routeKey 1 0 8 (9 * 2^120), (5, 1))] }
def fc (ks len pfx a : Nat) (v : Nat := 0) (rg : Nat := 0): TwCmd := cmd 1 [w32 (ks + 256 * len), w32 pfx, w32 (a * 2^24), 0, 0, 0, w32 v] rg
def fm (ks pfx a : Nat) : TwCmd := cmd 1 [w32 ks, w32 pfx, w32 (a * 2^24), 0, 0, 0]
def full : Rep := { routes := (List.range 6).map fun i => (routeKey 1 0 8 (i * 2^120), (5, 1)) }
def nc (w : List W32) (rg : Nat := 0) : TwCmd := cmd 2 w rg
def lat (d : Dev := D0) : Dev := (({ d with tbl := { d.tbl with latched := [5], upAt := [(5, 100)] } } : Dev).pWf Reg.LNP_PORT_STATUS 5 0 3 2).wg Reg.FIB_WATCH_CFG 0 5 (at_ 8 8 20)
def rv (d : Dev := lat) : Dev := { d with tbl := { d.tbl with revertAt := [(5, 1000)], latched := [] } }
def aat (n : Nat) (d : Dev) : Dev := { d with cue := { d.cue with localNs := n } }
theorem fib_operands : fibOperands (fc 1 8 0 9) tblF true 8 = .ok (1, 8, 0, (fc 1 8 0 9).n128 4, false, 6) := by
  unfold fibOperands
  dsimp only
  rw [if_neg (by decide +kernel)]
  rfl

/-- Meets the hypotheses of `TableWorkOnFib` (its part TableWorkRefusals). -/
theorem witness_TableWorkRefusals :
    (∃ s : State, ∃ c : TwCmd, ∃ i : Instr, ∃ op : Nat, ∃ kind : Nat, ∃ write : Bool, (i, op, kind, write) ∈ [(.fibSet c, 0x01, 3, true), (.fibDel c, 0x02, 3, true), (.fibGet c, 0x03, 3, false), (.fibMatch c, 0x04, 3, false), (.nhSet c, 0x10, 8, true), (.nhGet c, 0x11, 8, false), (.ecmpSet c, 0x18, 8, true), (.ecmpGet c, 0x19, 8, false), (.membersSet c, 0x1A, 8, true), (.membersGet c, 0x1B, 8, false), (.exmSet c, 0x20, 2, true), (.exmDel c, 0x21, 2, true), (.exmGet c, 0x22, 2, false), (.rehashStart c, 0x28, 2, true), (.rehashAbort c, 0x29, 2, true), (.acsDel c, 0x32, 1, true), (.acsGet c, 0x33, 1, false)] ∧ s.twTakes c.ring = false) ∧
    (∃ s : State, ∃ c : TwCmd, ∃ i : Instr, ∃ op : Nat, ∃ kind : Nat, ∃ write : Bool, (i, op, kind, write) ∈ [(.fibSet c, 0x01, 3, true), (.fibDel c, 0x02, 3, true), (.fibGet c, 0x03, 3, false), (.fibMatch c, 0x04, 3, false), (.nhSet c, 0x10, 8, true), (.nhGet c, 0x11, 8, false), (.ecmpSet c, 0x18, 8, true), (.ecmpGet c, 0x19, 8, false), (.membersSet c, 0x1A, 8, true), (.membersGet c, 0x1B, 8, false), (.exmSet c, 0x20, 2, true), (.exmDel c, 0x21, 2, true), (.exmGet c, 0x22, 2, false), (.rehashStart c, 0x28, 2, true), (.rehashAbort c, 0x29, 2, true), (.acsDel c, 0x32, 1, true), (.acsGet c, 0x33, 1, false)] ∧ Serves s c ∧ c.badWord0 = true) ∧
    (∃ s : State, ∃ c : TwCmd, ∃ i : Instr, ∃ op : Nat, ∃ kind : Nat, ∃ write : Bool, ((i, op, kind, write) ∈ [(.fibSet c, 0x01, 3, true), (.fibDel c, 0x02, 3, true), (.fibGet c, 0x03, 3, false), (.fibMatch c, 0x04, 3, false), (.nhSet c, 0x10, 8, true), (.nhGet c, 0x11, 8, false), (.ecmpSet c, 0x18, 8, true), (.ecmpGet c, 0x19, 8, false), (.membersSet c, 0x1A, 8, true), (.membersGet c, 0x1B, 8, false), (.exmSet c, 0x20, 2, true), (.exmDel c, 0x21, 2, true), (.exmGet c, 0x22, 2, false), (.rehashStart c, 0x28, 2, true), (.rehashAbort c, 0x29, 2, true), (.acsDel c, 0x32, 1, true), (.acsGet c, 0x33, 1, false)] ∧ Serves s c ∧ c.badWord0 = false) ∧ (∀ t, s.shape? c.table (s.twRead c) = some t → t.tkind ≠ kind)) ∧
    (∃ s : State, ∃ c : TwCmd, ∃ i : Instr, ∃ op : Nat, ∃ kind : Nat, ∃ write : Bool, ((i, op, kind, write) ∈ [(.fibSet c, 0x01, 3, true), (.fibDel c, 0x02, 3, true), (.fibGet c, 0x03, 3, false), (.fibMatch c, 0x04, 3, false), (.nhSet c, 0x10, 8, true), (.nhGet c, 0x11, 8, false), (.ecmpSet c, 0x18, 8, true), (.ecmpGet c, 0x19, 8, false), (.membersSet c, 0x1A, 8, true), (.membersGet c, 0x1B, 8, false), (.exmSet c, 0x20, 2, true), (.exmDel c, 0x21, 2, true), (.exmGet c, 0x22, 2, false), (.rehashStart c, 0x28, 2, true), (.rehashAbort c, 0x29, 2, true), (.acsDel c, 0x32, 1, true), (.acsGet c, 0x33, 1, false)] ∧ Serves s c ∧ c.badWord0 = false) ∧ ∃ t, s.shape? c.table (s.twRead c) = some t ∧ t.tkind = kind ∧ ∃ st, s.twRegion c write = some st) :=
  ⟨⟨(S (D0 : Dev)), (cmd 1 []), (.fibSet (cmd 1 [])), (0x01), (3), true, by decide +kernel⟩,
   ⟨(S (twD : Dev)), (cmd 0x80 []), (.fibSet (cmd 0x80 [])), (0x01), (3), true, by decide +kernel⟩,
   ⟨(S (twD : Dev)), (cmd 1 []), (.nhSet (cmd 1 [])), (0x10), (8), true, by decide +kernel, held (by decide +kernel)⟩,
   ⟨(S (twD : Dev)), (cmd 1 [] 1), (.fibSet (cmd 1 [] 1)), (0x01), (3), true, by decide +kernel, got (by decide +kernel) ⟨by decide +kernel, got0 (by decide +kernel)⟩⟩⟩

/-- Meets the hypotheses of `TableWorkOnFib` (its part FibCommands). -/
theorem witness_FibCommands :
    (∃ s : State, ∃ c : TwCmd, Serves s c ∧ ∃ op : BitVec 8, op ≠ 0x3F) ∧
    (∃ s : State, ∃ c : TwCmd, ∃ t : TShape, (Serves s c ∧ Names s.toDev c 3 true t) ∧ ∃ ks len pfx addr wide alloc, fibOperands c t true 9 = .ok (ks, len, pfx, addr, wide, alloc) ∧ ∃ k, k = routeKey ks pfx len addr ∧ ((s.rep (s.twRead c)).routes.any (fun e => e.1 == k) = true ∨ (s.rep (s.twRead c)).fibUnits ks wide + routeCost wide len ≤ alloc)) ∧
    (∃ s : State, ∃ c : TwCmd, ∃ t : TShape, (Serves s c ∧ Names s.toDev c 3 true t) ∧ ∃ ks len pfx addr wide alloc, fibOperands c t true 9 = .ok (ks, len, pfx, addr, wide, alloc) ∧ ∃ k, k = routeKey ks pfx len addr ∧ (s.rep (s.twRead c)).routes.any (fun e => e.1 == k) = false ∧ alloc < (s.rep (s.twRead c)).fibUnits ks wide + routeCost wide len) ∧
    (∃ s : State, ∃ c : TwCmd, ∃ t : TShape, (Serves s c ∧ Names s.toDev c 3 true t) ∧ ∃ ks len pfx addr wide alloc, fibOperands c t true 8 = .ok (ks, len, pfx, addr, wide, alloc) ∧ ∃ k, k = routeKey ks pfx len addr ∧ (s.rep (s.twRead c)).routes.any (fun e => e.1 == k) = true) ∧
    (∃ s : State, ∃ c : TwCmd, ∃ t : TShape, (Serves s c ∧ Names s.toDev c 3 true t) ∧ ∃ ks len pfx addr wide alloc, fibOperands c t true 8 = .ok (ks, len, pfx, addr, wide, alloc) ∧ ∃ k, k = routeKey ks pfx len addr ∧ (s.rep (s.twRead c)).routes.any (fun e => e.1 == k) = false) ∧
    (∃ s : State, ∃ c : TwCmd, ∃ t : TShape, (Serves s c ∧ Names s.toDev c 3 false t) ∧ ∃ ks len pfx addr wide alloc, fibOperands c t true 8 = .ok (ks, len, pfx, addr, wide, alloc) ∧ (s.rep (s.twRead c)).routes.find? (fun e => e.1 == routeKey ks pfx len addr) = none) ∧
    (∃ s : State, ∃ c : TwCmd, ∃ t : TShape, (Serves s c ∧ Names s.toDev c 3 false t) ∧ ∃ ks len pfx addr wide alloc, fibOperands c t true 8 = .ok (ks, len, pfx, addr, wide, alloc) ∧ ∃ e, (s.rep (s.twRead c)).routes.find? (fun e => e.1 == routeKey ks pfx len addr) = some e ∧ (s.rep (s.twRead c)).isBad 0 e.1 = false) ∧
    (∃ s : State, ∃ c : TwCmd, ∃ t : TShape, (Serves s c ∧ Names s.toDev c 3 false t) ∧ ∃ ks len pfx addr wide alloc, fibOperands c t true 8 = .ok (ks, len, pfx, addr, wide, alloc) ∧ ∃ e, (s.rep (s.twRead c)).routes.find? (fun e => e.1 == routeKey ks pfx len addr) = some e ∧ (s.rep (s.twRead c)).isBad 0 e.1 = true) ∧
    (∃ s : State, ∃ c : TwCmd, ∃ t : TShape, (Serves s c ∧ Names s.toDev c 3 false t) ∧ ∃ st, fibOperands c t true 8 = .error st) ∧
    (∃ s : State, ∃ c : TwCmd, ∃ t : TShape, (Serves s c ∧ Names s.toDev c 3 false t) ∧ ∃ st, fibOperands c t false 8 = .error st) ∧
    (∃ s : State, ∃ c : TwCmd, ∃ t : TShape, (Serves s c ∧ Names s.toDev c 3 false t) ∧ ∃ ks len pfx addr wide alloc, fibOperands c t false 8 = .ok (ks, len, pfx, addr, wide, alloc) ∧ (s.rep (s.twRead c)).fibBest ks pfx addr = none) ∧
    (∃ s : State, ∃ c : TwCmd, ∃ t : TShape, (Serves s c ∧ Names s.toDev c 3 false t) ∧ ∃ ks len pfx addr wide alloc, fibOperands c t false 8 = .ok (ks, len, pfx, addr, wide, alloc) ∧ ∃ e, (s.rep (s.twRead c)).fibBest ks pfx addr = some e ∧ (s.rep (s.twRead c)).isBad 0 e.1 = false) ∧
    (∃ s : State, ∃ c : TwCmd, ∃ t : TShape, (Serves s c ∧ Names s.toDev c 3 true t) ∧ ∃ st, fibOperands c t true 9 = .error st) ∧
    (∃ s : State, ∃ c : TwCmd, ∃ t : TShape, (Serves s c ∧ Names s.toDev c 3 true t) ∧ ∃ st, fibOperands c t true 8 = .error st) :=
  ⟨⟨(S (twD : Dev)), (fc 1 8 0 9), by decide +kernel, ⟨0, by decide +kernel⟩⟩,
   ⟨(S (twD : Dev)), (fc 1 8 0 9), tblF, by decide +kernel, gotOkSix (by decide +kernel) (the (by decide +kernel))⟩,
   ⟨(S (repD full : Dev)), (fc 1 8 0 9), tblF, by decide +kernel, gotOkSix (by decide +kernel) (the (by decide +kernel))⟩,
   ⟨(S (repD rep1 : Dev)), (fc 1 8 0 9), tblF, by decide +kernel, gotOkSix (by decide +kernel) (the (by decide +kernel))⟩,
   ⟨(S (twD : Dev)), (fc 1 8 0 9), tblF, by decide +kernel, gotOkSix (by decide +kernel) (the (by decide +kernel))⟩,
   ⟨(S (twD : Dev)), (fc 1 8 0 9), tblF, by decide +kernel, gotOkSix (by decide +kernel) (by decide +kernel)⟩,
   ⟨(S (repD rep1 : Dev)), (fc 1 8 0 9), tblF, by decide +kernel, gotOkSix (by decide +kernel) (got (by decide +kernel) (by decide +kernel))⟩,
   ⟨(S (repD { rep1 with bad := [badKey 0 (routeKey 1 0 8 (9 * 2^120))] })), (fc 1 8 0 9), tblF, by decide +kernel, gotOkSix (by decide +kernel) (got (by decide +kernel) (by decide +kernel))⟩,
   ⟨(S (twD : Dev)), (fm 1 0 9), tblF, by decide +kernel, gotErr0 (by decide +kernel)⟩,
   ⟨(S (twD : Dev)), (fc 1 8 0 9), tblF, by decide +kernel, gotErr0 (by decide +kernel)⟩,
   ⟨(S (twD : Dev)), (fm 1 0 9), tblF, by decide +kernel, gotOkSix (by decide +kernel) (by decide +kernel)⟩,
   ⟨(S (repD rep1 : Dev)), (fm 1 0 9), tblF, by decide +kernel, gotOkSix (by decide +kernel) (got (by decide +kernel) (by decide +kernel))⟩,
   ⟨(S (twD : Dev)), (fm 1 0 9), tblF, by decide +kernel, gotErr0 (by decide +kernel)⟩,
   ⟨(S (twD : Dev)), (fm 1 0 9), tblF, by decide +kernel, gotErr0 (by decide +kernel)⟩⟩

/-- Meets the hypotheses of `NextHopsAndWatches` (its part NextHopCommands). -/
theorem witness_NextHopCommands :
    (∃ s : State, ∃ c : TwCmd, ∃ t : TShape, Serves s c ∧ Names s.toDev c 8 true t ∧ c.only 2 0xFFFFF#32 = true ∧ c.zeroFrom 7 = true ∧ t.alloc ≤ c.fld 2 0 20) ∧
    (∃ s : State, ∃ c : TwCmd, ∃ t : TShape, (Serves s c ∧ Names s.toDev c 8 true t ∧ c.only 2 0xFFFFF#32 = true ∧ c.zeroFrom 7 = true) ∧ ∃ ws, ws = [c.word 3, c.word 4, c.word 5, c.word 6] ∧ c.fld 2 0 20 < t.alloc ∧ nhBad ws = true) ∧
    (∃ s : State, ∃ c : TwCmd, ∃ t : TShape, (Serves s c ∧ Names s.toDev c 8 true t ∧ c.only 2 0xFFFFF#32 = true ∧ c.zeroFrom 7 = true) ∧ ∃ ws, ws = [c.word 3, c.word 4, c.word 5, c.word 6] ∧ c.fld 2 0 20 < t.alloc ∧ nhBad ws = false) ∧
    (∃ s : State, ∃ c : TwCmd, ∃ t : TShape, Serves s c ∧ Names s.toDev c 8 true t ∧ c.only 2 0xFFFF#32 = true ∧ c.zeroFrom 5 = true ∧ t.alloc2 ≤ c.fld 2 0 16) ∧
    (∃ s : State, ∃ c : TwCmd, ∃ t : TShape, Serves s c ∧ Names s.toDev c 8 true t ∧ c.only 2 0xFFFF#32 = true ∧ c.zeroFrom 5 = true ∧ c.fld 2 0 16 < t.alloc2 ∧ bit (c.word 3) 31 = true ∧ c.fld 4 0 10 = 0) ∧
    (∃ s : State, ∃ c : TwCmd, ∃ t : TShape, Serves s c ∧ Names s.toDev c 8 true t ∧ c.only 2 0xFFFF#32 = true ∧ c.zeroFrom 5 = true ∧ c.fld 2 0 16 < t.alloc2 ∧ c.only 3 0x801FFFFF#32 = true ∧ c.only 4 0x3FF#32 = true ∧ (bit (c.word 3) 31 = false ∨ (1 ≤ c.fld 4 0 10 ∧ c.fld 4 0 10 ≤ 512 ∧ c.fld 3 0 21 + c.fld 4 0 10 ≤ (t.w 0 0).toNat))) ∧
    (∃ s : State, ∃ c : TwCmd, ∃ t : TShape, (Serves s c ∧ Names s.toDev c 8 true t ∧ memberBad c t (fun n => 3 + n) = none) ∧ ∃ ws, (ws = (List.range (c.fld 2 24 4)).map (fun i => c.word (3 + i))) ∧ (∃ w ∈ ws, t.alloc ≤ fld w 0 20)) ∧
    (∃ s : State, ∃ c : TwCmd, ∃ t : TShape, (Serves s c ∧ Names s.toDev c 8 true t ∧ memberBad c t (fun n => 3 + n) = none) ∧ ∃ ws, (ws = (List.range (c.fld 2 24 4)).map (fun i => c.word (3 + i))) ∧ (∀ w ∈ ws, fld w 0 20 < t.alloc ∧ fld w 20 12 = 0)) ∧
    (∃ s : State, ∃ c : TwCmd, ∃ t : TShape, Serves s c ∧ Names s.toDev c 8 false t ∧ c.only 2 0xFFFFF#32 = true ∧ c.zeroFrom 3 = true ∧ t.alloc ≤ c.fld 2 0 20) ∧
    (∃ s : State, ∃ c : TwCmd, ∃ t : TShape, Serves s c ∧ Names s.toDev c 8 false t ∧ c.only 2 0xFFFF#32 = true ∧ c.zeroFrom 3 = true ∧ t.alloc2 ≤ c.fld 2 0 16) ∧
    (∃ s : State, ∃ c : TwCmd, ∃ t : TShape, Serves s c ∧ Names s.toDev c 8 false t ∧ c.only 2 0xFFFFF#32 = true ∧ c.zeroFrom 3 = true ∧ c.fld 2 0 20 < t.alloc ∧ (s.rep (s.twRead c)).isBad 1 (c.fld 2 0 20) = false) ∧
    (∃ s : State, ∃ c : TwCmd, ∃ t : TShape, Serves s c ∧ Names s.toDev c 8 false t ∧ c.only 2 0xFFFF#32 = true ∧ c.zeroFrom 3 = true ∧ c.fld 2 0 16 < t.alloc2 ∧ (s.rep (s.twRead c)).isBad 2 (c.fld 2 0 16) = false) ∧
    (∃ s : State, ∃ c : TwCmd, ∃ t : TShape, (Serves s c ∧ Names s.toDev c 8 false t ∧ memberBad c t (fun _ => 3) = none) ∧ (∀ i < c.fld 2 24 4, (s.rep (s.twRead c)).isBad 3 (c.fld 2 0 21 + i) = false)) :=
  ⟨⟨(S (twD : Dev)), (nc [100, 0, 0, 0, 0]), tblN, by decide +kernel⟩,
   ⟨(S (twD : Dev)), (nc [5, at_ 28 3 5, 9, 0, 0]), tblN, by decide +kernel, the (by decide +kernel)⟩,
   ⟨(S (twD : Dev)), (nc [5, at_ 28 3 1, 9, 0, 0]), tblN, by decide +kernel, the (by decide +kernel)⟩,
   ⟨(S (twD : Dev)), (nc [100, 0, 0, 0, 0]), tblN, by decide +kernel⟩,
   ⟨(S (twD : Dev)), (nc [5, at_ 31 1 1]), tblN, by decide +kernel⟩,
   ⟨(S (twD : Dev)), (nc [5]), tblN, by decide +kernel⟩,
   ⟨(S twD), (nc [at_ 24 4 3 ||| 8, 1, 100, 2]), tblN, by decide +kernel, the ⟨100, by decide +kernel⟩⟩,
   ⟨(S twD), (nc [at_ 24 4 3 ||| 8, 1, 99, 2]), tblN, by decide +kernel, the (allOf (by decide +kernel))⟩,
   ⟨(S (twD : Dev)), (nc [100, 0, 0, 0, 0]), tblN, by decide +kernel⟩,
   ⟨(S (twD : Dev)), (nc [100, 0, 0, 0, 0]), tblN, by decide +kernel⟩,
   ⟨(S (twD : Dev)), (nc [5]), tblN, by decide +kernel⟩,
   ⟨(S (twD : Dev)), (nc [5]), tblN, by decide +kernel⟩,
   ⟨(S (twD : Dev)), (nc [at_ 24 4 3 ||| 8]), tblN, by decide +kernel, fun _ _ => rfl⟩⟩

/-- Meets the hypotheses of `NextHopsAndWatches` (its part WatchesFollow). -/
theorem witness_WatchesFollow :
    (∃ s : State, ∃ q : Req, ∃ w : BitVec 15, ∃ k : Nat, w.toNat = 16640 + k ∧ k < 256 ∧ Reached s.toDev q Reg.FIB_WATCH_CMD 0 0 ∧ k ∈ s.tbl.hostDead) ∧
    (∃ s : State, ∃ q : Req, ∃ w : BitVec 15, ∃ k : Nat, w.toNat = 16640 + k ∧ k < 256 ∧ Reached s.toDev q Reg.FIB_WATCH_CMD 0 0 ∧ k ∉ s.tbl.hostDead) ∧
    (∃ s : State, ∃ q : Req, ∃ w : BitVec 15, ∃ k : Nat, w.toNat = 16640 + k ∧ ∃ w' : BitVec 15, (w'.toNat < 16640 ∨ 16896 ≤ w'.toNat) ∧ Reached s.toDev q Reg.FIB_WATCH_CMD 0 0) ∧
    (∃ s : State, ∃ q : Req, ∃ w : BitVec 15, ∃ p : Fin 256, ∃ k : Nat, w.toNat = 16640 + k ∧ Reached s.toDev q Reg.FIB_WATCH_CMD 0 0 ∧ (p.val ∉ s.tbl.latched ∨ s.portUp p = false)) ∧
    (∃ s : State, ∃ q : Req, ∃ w : BitVec 15, ∃ p : Fin 256, ∃ k : Nat, (w.toNat = 16640 + k ∧ Reached s.toDev q Reg.FIB_WATCH_CMD 0 0) ∧ ∃ due, due = mget 0 s.tbl.upAt p + s.rf Reg.FIB_WATCH_CFG 0 p 8 8 * 1000000 ∧ p.val ∈ s.tbl.latched ∧ s.portUp p = true ∧ s.cue.localNs < due) ∧
    (∃ s : State, ∃ q : Req, ∃ w : BitVec 15, ∃ p : Fin 256, ∃ k : Nat, (w.toNat = 16640 + k ∧ Reached s.toDev q Reg.FIB_WATCH_CMD 0 0) ∧ ∃ due, due = mget 0 s.tbl.upAt p + s.rf Reg.FIB_WATCH_CFG 0 p 8 8 * 1000000 ∧ p.val ∈ s.tbl.latched ∧ s.portUp p = true ∧ due ≤ s.cue.localNs ∧ p.val ∉ s.tbl.live) ∧
    (∃ s : State, ∃ w : BitVec 15, ∃ p : Fin 256, ∃ k : Nat, w.toNat = 16640 + k ∧ s.tbl.revertAt.find? (fun e => e.1 == p.val) = none) ∧
    (∃ s : State, ∃ w : BitVec 15, ∃ p : Fin 256, ∃ k : Nat, w.toNat = 16640 + k ∧ ∃ e, (s.tbl.revertAt.find? (fun e => e.1 == p.val) = some e) ∧ s.cue.localNs < e.2) ∧
    (∃ s : State, ∃ w : BitVec 15, ∃ p : Fin 256, ∃ k : Nat, w.toNat = 16640 + k ∧ ∃ e, (s.tbl.revertAt.find? (fun e => e.1 == p.val) = some e) ∧ e.2 ≤ s.cue.localNs ∧ p.val ∉ s.tbl.latched ∧ s.portUp p = true ∧ p.val ∉ s.tbl.live) :=
  ⟨⟨(S ({ D0 with tbl := { D0.tbl with hostDead := [3] } } : Dev)), (.host), (BitVec.ofNat 15 (16640 + 3)), 3, by decide +kernel⟩,
   ⟨(S D0), (.host), 16640, 0, by decide +kernel⟩,
   ⟨(S ({ D0 with tbl := { D0.tbl with hostDead := [3] } } : Dev)), (.host), (BitVec.ofNat 15 (16640 + 3)), 3, by decide +kernel, ⟨0, by decide +kernel⟩⟩,
   ⟨(S ({ D0 with tbl := { D0.tbl with hostDead := [3] } } : Dev)), (.host), (BitVec.ofNat 15 (16640 + 3)), 0, 3, by decide +kernel⟩,
   ⟨(S (aat 5 lat)), (.host), 16640, 5, 0, by decide +kernel, the (by decide +kernel)⟩,
   ⟨(S (aat 30000000 lat)), (.host), 16640, 5, 0, by decide +kernel, the (by decide +kernel)⟩,
   ⟨(S ({ D0 with tbl := { D0.tbl with hostDead := [3] } } : Dev)), (BitVec.ofNat 15 (16640 + 3)), 0, 3, by decide +kernel⟩,
   ⟨(S (rv : Dev)), (BitVec.ofNat 15 (16640 + 3)), 5, 3, by decide +kernel, got (by decide +kernel) (by decide +kernel)⟩,
   ⟨(S (aat 1000 rv : Dev)), (BitVec.ofNat 15 (16640 + 3)), 5, 3, by decide +kernel, got (by decide +kernel) (by decide +kernel)⟩⟩

end W11

namespace W12

def tblE : TShape := { id := 3, tkind := 2, alloc := 16, seed := 9, alloc2 := 0, reshape := false, recs := [[at_ 8 6 2, 0,0,0]] }
def ec (mode key data st : Nat) : TwCmd := cmd 3 [w32 (mode + 256 * st), w32 (65536 * data + 5), 7, w32 (key * 2^16), 0, 0, 0]
def eg (key : Nat) : TwCmd := cmd 3 [0, 0, 0, w32 (key * 2^16), 0, 0, 0]
def rs (seed : Nat) : TwCmd := cmd 3 [w32 seed]
def ra : TwCmd := cmd 3 []
def lc (cs : List LearnCand) (f : List LearnEnt) (now : Nat := 5000000) (on : Bool := true) (rn := 0) : Dev :=
  ({ D0 with ing := { D0.ing with cands := cs }, tbl := { D0.tbl with filter := f, rateMs := now / 1000000, rateN := rn }, cue := { D0.cue with localNs := now } } : Dev).wg Reg.EXM_LRN_CFG 0 0 (atB 31 on ||| at_ 0 8 10 ||| at_ 16 6 2)
def cd (k src : Nat) : LearnCand := { table := 3, key := k, klen := 2, src := src, move := false, prev := 0 }
def le (k src t : Nat) (m : Bool) : LearnEnt := { table := 3, key := k, src := src, time := t, moved := m }
def run2 (d : Dev) : Dev := d.ringWg Reg.DMA_DEV_IDX 1026 (at_ 16 3 1)
def tblX : TShape := { tblE with alloc := 4 }
def rh : Rehash := { target := 10, ring := 5, tag := 77 }
def ent (k : Nat) (hit static : Bool) : ExmEnt := { key := k * 2 ^ 112, data := 5, prog := 5, static := static, hit := hit, gen := false }
def four : List (Nat × ExmEnt) := [(exmPos 3 0 0, ent 2 true false), (exmPos 3 1 0, ent 3 true false), (exmPos 3 2 0, ent 4 true false), (exmPos 3 3 0, ent 5 true false)]
def exX (es : List (Nat × ExmEnt)) (dual : Bool := false) : Dev :=
  let d : Dev := { twD with pbk := { twD.pbk with inForce := some { book0 with tables := [tblF, tblN, tblX] } }, rep0 := { exm := es }, rep1 := { exm := es } }
  ({ d with tbl := { d.tbl with rehash := if dual then [(3, rh)] else [] } } : Dev).wg Reg.EXM_TBL_AGE 0 3 5
def rhd (r : Rehash) (d : Dev) : Dev := { d with tbl := { d.tbl with rehash := [(3, r)] } }
def one : List (Nat × ExmEnt) := [(exmPos 3 0 0, ent 1 true false)]
def many : LearnEnt := { table := 3, key := 77, src := 2, time := 4999000, moved := false }

/-- Meets the hypotheses of `ExactMatchAndRehash` (its part ExmCommands). -/
theorem witness_ExmCommands :
    (∃ s : State, ∃ c : TwCmd, ∃ t : TShape, ∃ key : Nat, Serves s c ∧ exmKey c t = .ok key ∧ c.zeroFrom 9 = true ∧ ∃ r : Rep, r = s.rep (s.twRead c) ∧ (Names s.toDev c 2 true t ∧ c.fld 2 0 2 ≠ 3 ∧ c.only 2 0x103#32 = true) ∧ ∃ p x, s.exmWhere r t key = some (p, x) ∧ c.fld 2 0 2 = 0) ∧
    (∃ s : State, ∃ c : TwCmd, ∃ t : TShape, ∃ key : Nat, Serves s c ∧ exmKey c t = .ok key ∧ c.zeroFrom 9 = true ∧ ∃ r : Rep, r = s.rep (s.twRead c) ∧ (Names s.toDev c 2 true t ∧ c.fld 2 0 2 ≠ 3 ∧ c.only 2 0x103#32 = true) ∧ ∃ p x, s.exmWhere r t key = some (p, x) ∧ c.fld 2 0 2 ≠ 0) ∧
    (∃ s : State, ∃ c : TwCmd, ∃ t : TShape, ∃ key : Nat, Serves s c ∧ exmKey c t = .ok key ∧ c.zeroFrom 9 = true ∧ ∃ r : Rep, r = s.rep (s.twRead c) ∧ Names s.toDev c 2 true t ∧ c.fld 2 0 2 ≠ 3 ∧ c.only 2 0x103#32 = true ∧ s.exmWhere r t key = none ∧ c.fld 2 0 2 = 1) ∧
    (∃ s : State, ∃ c : TwCmd, ∃ t : TShape, ∃ key : Nat, Serves s c ∧ exmKey c t = .ok key ∧ c.zeroFrom 9 = true ∧ ∃ r : Rep, r = s.rep (s.twRead c) ∧ (Names s.toDev c 2 true t ∧ c.fld 2 0 2 ≠ 3 ∧ c.only 2 0x103#32 = true ∧ s.exmWhere r t key = none ∧ c.fld 2 0 2 ≠ 1) ∧ ∃ l, (l = s.freePaths t r 33 (s.exmInto t key) ((s.exmInto t key).map fun p => [p])) ∧ l = []) ∧
    (∃ s : State, ∃ c : TwCmd, ∃ t : TShape, ∃ key : Nat, Serves s c ∧ exmKey c t = .ok key ∧ c.zeroFrom 9 = true ∧ ∃ r : Rep, r = s.rep (s.twRead c) ∧ (Names s.toDev c 2 true t ∧ c.fld 2 0 2 ≠ 3 ∧ c.only 2 0x103#32 = true ∧ s.exmWhere r t key = none ∧ c.fld 2 0 2 ≠ 1) ∧ ∃ l, (l = s.freePaths t r 33 (s.exmInto t key) ((s.exmInto t key).map fun p => [p])) ∧ l ≠ []) ∧
    (∃ s : State, ∃ c : TwCmd, ∃ t : TShape, ∃ key : Nat, Serves s c ∧ exmKey c t = .ok key ∧ c.zeroFrom 9 = true ∧ ∃ r : Rep, r = s.rep (s.twRead c) ∧ c.word 2 = 0 ∧ c.word 3 = 0 ∧ c.word 4 = 0 ∧ Names s.toDev c 2 true t ∧ s.exmWhere r t key = none) ∧
    (∃ s : State, ∃ c : TwCmd, ∃ t : TShape, ∃ key : Nat, Serves s c ∧ exmKey c t = .ok key ∧ c.zeroFrom 9 = true ∧ ∃ r : Rep, r = s.rep (s.twRead c) ∧ (c.word 2 = 0 ∧ c.word 3 = 0 ∧ c.word 4 = 0 ∧ Names s.toDev c 2 true t) ∧ ∃ p x, s.exmWhere r t key = some (p, x)) ∧
    (∃ s : State, ∃ c : TwCmd, ∃ t : TShape, ∃ key : Nat, Serves s c ∧ exmKey c t = .ok key ∧ c.zeroFrom 9 = true ∧ ∃ r : Rep, r = s.rep (s.twRead c) ∧ c.word 2 = 0 ∧ c.word 3 = 0 ∧ c.word 4 = 0 ∧ Names s.toDev c 2 false t ∧ s.exmWhere r t key = none) ∧
    (∃ s : State, ∃ c : TwCmd, ∃ t : TShape, ∃ key : Nat, Serves s c ∧ exmKey c t = .ok key ∧ c.zeroFrom 9 = true ∧ ∃ r : Rep, r = s.rep (s.twRead c) ∧ (c.word 2 = 0 ∧ c.word 3 = 0 ∧ c.word 4 = 0 ∧ Names s.toDev c 2 false t) ∧ ∃ p x, s.exmWhere r t key = some (p, x) ∧ r.isBad 4 p = false) :=
  ⟨⟨(S (exX [(exmPos 3 0 0, ent 1 true false)])), (ec 0 1 5 0), tblX, ((ec 0 1 5 0).n128 5), by decide +kernel, okIs (by decide +kernel), by decide +kernel, the ⟨by decide +kernel, gotPair (by decide +kernel) (by decide +kernel)⟩⟩,
   ⟨(S (exX [(exmPos 3 0 0, ent 1 true false)])), (ec 1 1 5 0), tblX, ((ec 1 1 5 0).n128 5), by decide +kernel, okIs (by decide +kernel), by decide +kernel, the ⟨by decide +kernel, gotPair (by decide +kernel) (by decide +kernel)⟩⟩,
   ⟨(S (exX [])), (ec 1 1 5 0), tblX, ((ec 1 1 5 0).n128 5), by decide +kernel, okIs (by decide +kernel), by decide +kernel, the (by decide +kernel)⟩,
   ⟨(S (exX four)), (ec 0 1 5 0), tblX, ((ec 0 1 5 0).n128 5), by decide +kernel, okIs (by decide +kernel), by decide +kernel, the ⟨by decide +kernel, the (by decide +kernel)⟩⟩,
   ⟨(S (exX [])), (ec 0 1 5 0), tblX, ((ec 0 1 5 0).n128 5), by decide +kernel, okIs (by decide +kernel), by decide +kernel, the ⟨by decide +kernel, the (by decide +kernel)⟩⟩,
   ⟨(S (exX [])), (eg 1), tblX, ((eg 1).n128 5), by decide +kernel, okIs (by decide +kernel), by decide +kernel, the (by decide +kernel)⟩,
   ⟨(S (exX [(exmPos 3 0 0, ent 1 true false)])), (eg 1), tblX, ((eg 1).n128 5), by decide +kernel, okIs (by decide +kernel), by decide +kernel, the ⟨by decide +kernel, gotPair0 (by decide +kernel)⟩⟩,
   ⟨(S (exX [])), (eg 1), tblX, ((eg 1).n128 5), by decide +kernel, okIs (by decide +kernel), by decide +kernel, the (by decide +kernel)⟩,
   ⟨(S (exX [(exmPos 3 0 0, ent 1 true false)])), (eg 1), tblX, ((eg 1).n128 5), by decide +kernel, okIs (by decide +kernel), by decide +kernel, the ⟨by decide +kernel, gotPair (by decide +kernel) (by decide +kernel)⟩⟩⟩

/-- Meets the hypotheses of `ExactMatchAndRehash` (its part RehashRuns). -/
theorem witness_RehashRuns :
    (∃ s : State, ∃ c : TwCmd, ∃ sh : TShape, Serves s c ∧ Names s.toDev c 2 true sh ∧ c.zeroFrom 3 = true ∧ s.rehash? sh.id = none ∧ c.word 2 ≠ s.seedOf sh) ∧
    (∃ s : State, ∃ c : TwCmd, ∃ sh : TShape, Serves s c ∧ Names s.toDev c 2 true sh ∧ c.zeroFrom 3 = true ∧ (s.rehash? sh.id ≠ none ∨ c.word 2 = s.seedOf sh)) ∧
    (∃ s : State, ∃ c : TwCmd, ∃ sh : TShape, Serves s c ∧ Names s.toDev c 2 true sh ∧ c.zeroFrom 2 = true ∧ s.rehash? sh.id = none) ∧
    (∃ s : State, ∃ c : TwCmd, ∃ sh : TShape, ∃ r : Rehash, Serves s c ∧ Names s.toDev c 2 true sh ∧ c.zeroFrom 2 = true ∧ s.rehash? sh.id = some r) ∧
    (∃ s : State, ∃ t : Fin 128, s.rehash? t = none) ∧
    (∃ s : State, ∃ t : Fin 128, ∃ sh : TShape, ∃ r : Rehash, s.rehash? t = some r ∧ s.shape? t s.primary = some sh ∧ (s.leadRuns = false ∨ s.splitNames t = true)) ∧
    (∃ s : State, ∃ t : Fin 128, ∃ sh : TShape, ∃ r : Rehash, s.rehash? t = some r ∧ s.shape? t s.primary = some sh ∧ s.leadRuns = true ∧ s.splitNames t = false ∧ s.oldEntries t ≠ [] ∧ (∀ e ∈ s.oldEntries t, e.1 ∈ r.tried) ∧ r.moved = true) ∧
    (∃ s : State, ∃ t : Fin 128, ∃ sh : TShape, ∃ r : Rehash, s.rehash? t = some r ∧ s.shape? t s.primary = some sh ∧ s.leadRuns = true ∧ s.splitNames t = false ∧ s.oldEntries t ≠ [] ∧ (∀ e ∈ s.oldEntries t, e.1 ∈ r.tried) ∧ r.moved = false) ∧
    (∃ s : State, ∃ t : Fin 128, ∃ sh : TShape, ∃ r : Rehash, (s.rehash? t = some r ∧ s.shape? t s.primary = some sh ∧ s.leadRuns = true ∧ s.splitNames t = false) ∧ ∃ p e, (s.oldEntries t).find? (fun e => !r.tried.contains e.1) = some (p, e) ∧ ∃ l, (l = s.freePaths sh (s.rep s.primary) 33 (s.exmInto sh e.key) ((s.exmInto sh e.key).map fun p => [p])) ∧ l = []) ∧
    (∃ s : State, ∃ t : Fin 128, ∃ sh : TShape, ∃ r : Rehash, (s.rehash? t = some r ∧ s.shape? t s.primary = some sh ∧ s.leadRuns = true ∧ s.splitNames t = false) ∧ ∃ p e, (s.oldEntries t).find? (fun e => !r.tried.contains e.1) = some (p, e) ∧ ∃ l, (l = s.freePaths sh (s.rep s.primary) 33 (s.exmInto sh e.key) ((s.exmInto sh e.key).map fun p => [p])) ∧ l ≠ []) ∧
    (∃ s : State, ∃ t : Fin 128, ∃ sh : TShape, ∃ r : Rehash, s.rehash? t = some r ∧ s.shape? t s.primary = some sh ∧ s.oldEntries t ≠ []) ∧
    (∃ s : State, ∃ t : Fin 128, ∃ sh : TShape, ∃ r : Rehash, s.rehash? t = some r ∧ s.shape? t s.primary = some sh ∧ s.oldEntries t = []) :=
  ⟨⟨(S (exX [])), (rs 10), tblX, by decide +kernel⟩,
   ⟨(S (exX [])), (rs 9), tblX, by decide +kernel⟩,
   ⟨(S (exX [])), ra, tblX, by decide +kernel⟩,
   ⟨(S (exX [] true)), ra, tblX, rh, by decide +kernel⟩,
   ⟨(S (exX [])), 0, by decide +kernel⟩,
   ⟨(S { (exX one true) with ccx := { (exX one true).ccx with runA := false, runB := false } }), 3, tblX, rh, by decide +kernel⟩,
   ⟨(S (rhd { rh with tried := [2 ^ 112, exmPos 3 0 0], moved := true } (exX one true))), 3, tblX, ({ rh with tried := [2 ^ 112, exmPos 3 0 0], moved := true }), by decide +kernel⟩,
   ⟨(S (rhd { rh with tried := [2 ^ 112, exmPos 3 0 0], moved := false } (exX one true))), 3, tblX, ({ rh with tried := [2 ^ 112, exmPos 3 0 0], moved := false }), by decide +kernel⟩,
   ⟨(S (exX four true)), 3, tblX, rh, by decide +kernel, gotPair (by decide +kernel) (the (by decide +kernel))⟩,
   ⟨(S (exX [(exmPos 3 0 0, ent 1 true false)] true)), 3, tblX, rh, by decide +kernel, gotPair (by decide +kernel) (the (by decide +kernel))⟩,
   ⟨(S (exX four true)), 3, tblX, rh, by decide +kernel⟩,
   ⟨(S (exX [] true)), 3, tblX, rh, by decide +kernel⟩⟩

/-- Meets the hypotheses of `LearningAndAging` (its part LearningFilters). -/
theorem witness_LearningFilters :
    (∃ s : State, s.ing.cands = []) ∧
    (∃ s : State, ∃ c : LearnCand, ∃ rest : List LearnCand, s.ing.cands = c :: rest ∧ bit (s.rg Reg.EXM_LRN_CFG 0 0) 31 = false) ∧
    (∃ s : State, ∃ c : LearnCand, ∃ rest : List LearnCand, (s.ing.cands = c :: rest ∧ bit (s.rg Reg.EXM_LRN_CFG 0 0) 31 = true) ∧ ∃ n : Nat, n = (if s.tbl.rateMs = s.cue.localNs / 1000000 then s.tbl.rateN else 0) ∧ max 1 (s.rf Reg.EXM_LRN_RATE 0 0 0 16) ≤ n) ∧
    (∃ s : State, ∃ c : LearnCand, ∃ rest : List LearnCand, (s.ing.cands = c :: rest ∧ bit (s.rg Reg.EXM_LRN_CFG 0 0) 31 = true) ∧ ∃ n : Nat, n = (if s.tbl.rateMs = s.cue.localNs / 1000000 then s.tbl.rateN else 0) ∧ ∃ live : List LearnEnt, (live = s.tbl.filter.filter (fun e => decide (s.cue.localNs < e.time + s.learnHold))) ∧ n < max 1 (s.rf Reg.EXM_LRN_RATE 0 0 0 16) ∧ live.find? (fun e => e.table == c.table && e.key == c.key) = none ∧ 16384 ≤ live.length) ∧
    (∃ s : State, ∃ c : LearnCand, ∃ rest : List LearnCand, (s.ing.cands = c :: rest ∧ bit (s.rg Reg.EXM_LRN_CFG 0 0) 31 = true) ∧ ∃ n : Nat, n = (if s.tbl.rateMs = s.cue.localNs / 1000000 then s.tbl.rateN else 0) ∧ ∃ live : List LearnEnt, (live = s.tbl.filter.filter (fun e => decide (s.cue.localNs < e.time + s.learnHold))) ∧ n < max 1 (s.rf Reg.EXM_LRN_RATE 0 0 0 16) ∧ live.find? (fun e => e.table == c.table && e.key == c.key) = none ∧ live.length < 16384 ∧ s.ringState (1024 + s.rf Reg.EXM_LRN_CFG 0 0 16 6) = 1 ∧ 0 < s.freeSlots (1024 + s.rf Reg.EXM_LRN_CFG 0 0 16 6) ∧ s.mastering = true) ∧
    (∃ s : State, ∃ c : LearnCand, ∃ rest : List LearnCand, (s.ing.cands = c :: rest ∧ bit (s.rg Reg.EXM_LRN_CFG 0 0) 31 = true) ∧ ∃ n : Nat, n = (if s.tbl.rateMs = s.cue.localNs / 1000000 then s.tbl.rateN else 0) ∧ ∃ live : List LearnEnt, (live = s.tbl.filter.filter (fun e => decide (s.cue.localNs < e.time + s.learnHold))) ∧ n < max 1 (s.rf Reg.EXM_LRN_RATE 0 0 0 16) ∧ live.find? (fun e => e.table == c.table && e.key == c.key) = none ∧ live.length < 16384 ∧ s.ringState (1024 + s.rf Reg.EXM_LRN_CFG 0 0 16 6) ≠ 1) ∧
    (∃ s : State, ∃ c : LearnCand, ∃ rest : List LearnCand, (s.ing.cands = c :: rest ∧ bit (s.rg Reg.EXM_LRN_CFG 0 0) 31 = true) ∧ ∃ n : Nat, n = (if s.tbl.rateMs = s.cue.localNs / 1000000 then s.tbl.rateN else 0) ∧ ∃ live : List LearnEnt, (live = s.tbl.filter.filter (fun e => decide (s.cue.localNs < e.time + s.learnHold))) ∧ n < max 1 (s.rf Reg.EXM_LRN_RATE 0 0 0 16) ∧ ∃ e, (live.find? (fun e => e.table == c.table && e.key == c.key) = some e) ∧ e.src = c.src) ∧
    (∃ s : State, ∃ c : LearnCand, ∃ rest : List LearnCand, (s.ing.cands = c :: rest ∧ bit (s.rg Reg.EXM_LRN_CFG 0 0) 31 = true) ∧ ∃ n : Nat, n = (if s.tbl.rateMs = s.cue.localNs / 1000000 then s.tbl.rateN else 0) ∧ ∃ live : List LearnEnt, (live = s.tbl.filter.filter (fun e => decide (s.cue.localNs < e.time + s.learnHold))) ∧ n < max 1 (s.rf Reg.EXM_LRN_RATE 0 0 0 16) ∧ ∃ e, (live.find? (fun e => e.table == c.table && e.key == c.key) = some e) ∧ e.src ≠ c.src ∧ e.moved = false ∧ s.ringState (1024 + s.rf Reg.EXM_LRN_CFG 0 0 16 6) ≠ 1) ∧
    (∃ s : State, ∃ c : LearnCand, ∃ rest : List LearnCand, (s.ing.cands = c :: rest ∧ bit (s.rg Reg.EXM_LRN_CFG 0 0) 31 = true) ∧ ∃ n : Nat, n = (if s.tbl.rateMs = s.cue.localNs / 1000000 then s.tbl.rateN else 0) ∧ ∃ live : List LearnEnt, (live = s.tbl.filter.filter (fun e => decide (s.cue.localNs < e.time + s.learnHold))) ∧ n < max 1 (s.rf Reg.EXM_LRN_RATE 0 0 0 16) ∧ ∃ e, (live.find? (fun e => e.table == c.table && e.key == c.key) = some e) ∧ e.src ≠ c.src ∧ e.moved = true) :=
  ⟨⟨(S (D0 : Dev)), by decide +kernel⟩,
   ⟨(S (lc [cd 1 2] [] 5000000 false : Dev)), ((lc [cd 1 2] [] 5000000 false : Dev).ing.cands.headD (cd 9 9)), ((lc [cd 1 2] [] 5000000 false : Dev).ing.cands.tail), by decide +kernel⟩,
   ⟨(S ((lc [cd 1 2] [] 5000000 true 3).wg Reg.EXM_LRN_RATE 0 0 3 : Dev)), (((lc [cd 1 2] [] 5000000 true 3).wg Reg.EXM_LRN_RATE 0 0 3 : Dev).ing.cands.headD (cd 9 9)), (((lc [cd 1 2] [] 5000000 true 3).wg Reg.EXM_LRN_RATE 0 0 3 : Dev).ing.cands.tail), by decide +kernel, the (by decide +kernel)⟩,
   ⟨(S (lc [cd 1 2] (List.replicate 16384 many))), (cd 1 2), [], by decide +kernel, the (the (by decide +kernel))⟩,
   ⟨(S (run2 (lc [cd 1 2, cd 2 3] []) : Dev)), ((run2 (lc [cd 1 2, cd 2 3] []) : Dev).ing.cands.headD (cd 9 9)), ((run2 (lc [cd 1 2, cd 2 3] []) : Dev).ing.cands.tail), by decide +kernel, the (the (by decide +kernel))⟩,
   ⟨(S (lc [cd 1 2, cd 2 3] [] : Dev)), ((lc [cd 1 2, cd 2 3] [] : Dev).ing.cands.headD (cd 9 9)), ((lc [cd 1 2, cd 2 3] [] : Dev).ing.cands.tail), by decide +kernel, the (the (by decide +kernel))⟩,
   ⟨(S (lc [cd 1 2] [le 1 2 4500000 false] : Dev)), ((lc [cd 1 2] [le 1 2 4500000 false] : Dev).ing.cands.headD (cd 9 9)), ((lc [cd 1 2] [le 1 2 4500000 false] : Dev).ing.cands.tail), by decide +kernel, the (the ⟨by decide +kernel, got (by decide +kernel) (by decide +kernel)⟩)⟩,
   ⟨(S (lc [cd 1 2] [le 1 3 4500000 false])), (cd 1 2), [], by decide +kernel, the (the ⟨by decide +kernel, got (by decide +kernel) (by decide +kernel)⟩)⟩,
   ⟨(S (lc [cd 1 2] [le 1 3 4500000 true] : Dev)), ((lc [cd 1 2] [le 1 3 4500000 true] : Dev).ing.cands.headD (cd 9 9)), ((lc [cd 1 2] [le 1 3 4500000 true] : Dev).ing.cands.tail), by decide +kernel, the (the ⟨by decide +kernel, got (by decide +kernel) (by decide +kernel)⟩)⟩⟩

/-- Meets the hypotheses of `LearningAndAging` (its part AgingScans). -/
theorem witness_AgingScans :
    (∃ s : State, ∃ t : Fin 128, ∃ sh : TShape, s.shape? t s.primary = some sh ∧ (sh.tkind ≠ 2 ∨ s.rf Reg.EXM_TBL_AGE 0 t 0 16 = 0 ∨ s.leadRuns = false)) ∧
    (∃ s : State, ∃ t : Fin 128, ∃ sh : TShape, (s.shape? t s.primary = some sh ∧ sh.tkind = 2 ∧ s.rf Reg.EXM_TBL_AGE 0 t 0 16 ≠ 0 ∧ s.leadRuns = true ∧ s.fIso 0 = false ∧ sortedKeys s.rep0.exm = true) ∧ ∃ p, ∃ e, s.rep0.exmAt p = some e ∧ p / 2 ^ 22 ≠ t) ∧
    (∃ s : State, ∃ t : Fin 128, ∃ sh : TShape, (s.shape? t s.primary = some sh ∧ sh.tkind = 2 ∧ s.rf Reg.EXM_TBL_AGE 0 t 0 16 ≠ 0 ∧ s.leadRuns = true ∧ s.fIso 0 = false ∧ sortedKeys s.rep0.exm = true) ∧ ∃ p, ∃ e, s.rep0.exmAt p = some e ∧ p / 2 ^ 22 = t ∧ (t.val ∈ s.ccx.agingFirst ∨ e.static = true ∨ e.hit = true)) ∧
    (∃ s : State, ∃ t : Fin 128, ∃ sh : TShape, (s.shape? t s.primary = some sh ∧ sh.tkind = 2 ∧ s.rf Reg.EXM_TBL_AGE 0 t 0 16 ≠ 0 ∧ s.leadRuns = true ∧ s.fIso 0 = false ∧ sortedKeys s.rep0.exm = true) ∧ ∃ p, ∃ e, s.rep0.exmAt p = some e ∧ p / 2 ^ 22 = t ∧ t.val ∉ s.ccx.agingFirst ∧ e.static = false ∧ e.hit = false) :=
  ⟨⟨(S (exX [])), 1, tblF, by decide +kernel⟩,
   ⟨(S (exX [(exmPos 4 0 0, ent 1 true false)])), 3, tblX, by decide +kernel, ⟨exmPos 4 0 0, got (by decide +kernel) (by decide +kernel)⟩⟩,
   ⟨(S (exX [(exmPos 3 0 0, ent 1 true false)])), 3, tblX, by decide +kernel, ⟨exmPos 3 0 0, got (by decide +kernel) (by decide +kernel)⟩⟩,
   ⟨(S (exX [(exmPos 3 0 0, ent 1 false false)])), 3, tblX, by decide +kernel, ⟨exmPos 3 0 0, got (by decide +kernel) (by decide +kernel)⟩⟩⟩

end W12

namespace W13

def tblA (w : Nat) : TShape := { id := 4, tkind := 1, alloc := 0, seed := 0, alloc2 := 1, reshape := false, recs := [[0xF0, 0, w32 w, 0], [at_ 8 6 2, 0,0,0], [], [0, at_ 8 8 1, 0,0]] }
def mk (k : Nat) : W32 := if k % 3 = 0 then 0 else if k % 3 = 1 then 0xFFFF0000 else 0x00FF0000
def un (u k : Nat) : TwCmd := { cmd 0 [w32 u, mk k &&& mk (k/3), 0, 0, 0, 0, mk k, 0, 0, 0, 0] with hi := 0 }
def se (b i k : Nat) : TwCmd := cmd 4 [at_ 16 6 b ||| at_ 0 12 i, 0x80000000 ||| w32 (k % 65536), 7, 8, 9]
def del (b i : Nat) : TwCmd := cmd 4 [at_ 16 6 b ||| at_ 0 12 i]
def ge (b i part : Nat) : TwCmd := cmd 4 [at_ 16 6 b ||| at_ 0 12 i ||| at_ 24 3 part]
def th (st cool low : Nat) : Dev := (({ D0 with tbl := { D0.tbl with cools := List.replicate cool 40 } } : Dev).wg Reg.ACS_THROTTLE 0 0 (at_ 0 8 50 ||| at_ 8 8 60 ||| at_ 16 8 70 ||| at_ 24 4 3 ||| at_ 28 2 low)).wf Reg.ACS_STATUS 0 0 0 2 st
def pool : List Nat := [0,0,0,0,1,3,5,20,0x80000000,0xC0000000, 0xC0100000, 0x0FFFFFFF, 0x02000000, 0x0A00000F, 0x01000004, 1048575, 0x010FFFFF, 0x020FFFFF, 0x80000007, 0x08000000, 0x3FFFF, 0xFFFFFFFF]
def rc (k : Nat) : TwCmd := let r := rnd k 10; { cmd 0 ((r.take (1 + r.getD 9 0 % 7)).map fun x => w32 (pool.getD (x % 22) 0)) with hi := if r.getD 8 0 % 10 = 0 then 1 else 0 }
def acX (es : List (Nat × AcsEnt)) : Dev :=
  { twD with pbk := { twD.pbk with inForce := some { book0 with tables := [tblF, tblN, tblA 1] } }, rep0 := { acs := es }, rep1 := { acs := es } }
def ae : AcsEnt := { value := [0], care := [0], valid := true, mask := 65535, prog := 7, data := 9 }
def asmd (d : Dev) : Dev := { d with tbl := { d.tbl with asm := [(20, (0, 0))] } }
def stepped (d : Dev) : Dev := { d with tbl := { d.tbl with stepKey := List.replicate 96 0, stepTable := 4, stepRegion := 0, stepEpoch := 3, stepLast := some (0, 4, 0), stepOn := true } }

/-- Meets the hypotheses of `AssociativeSearch` (its part AcsCommands). -/
theorem witness_AcsCommands :
    (∃ s : State, ∃ c : TwCmd, Serves s c ∧ bit c.hi 7 = false ∧ fld c.hi 10 14 = 0 ∧ c.only 2 3#32 = true ∧ c.zeroFrom 13 = true) ∧
    (∃ s : State, ∃ c : TwCmd, ∃ t : TShape, Serves s c ∧ Names s.toDev c 1 true t ∧ (∃ u < t.acsWidth, s.asmUnit c.ring u = none)) ∧
    (∃ s : State, ∃ c : TwCmd, ∃ t : TShape, (Serves s c ∧ Names s.toDev c 1 true t ∧ c.only 2 0x3F0FFF#32 = true ∧ c.only 3 0x8000FFFF#32 = true ∧ c.zeroFrom 7 = true ∧ t.acsIn (c.fld 2 16 6) (c.fld 2 0 12) = true) ∧ (∀ u < t.acsWidth, ∃ v m, s.asmUnit c.ring u = some (v, m) ∧ v &&& m = v ∧ m % 2 ^ (8 * (20 - min 20 (selWidth t.acsSel - 20 * u))) = 0)) ∧
    (∃ s : State, ∃ c : TwCmd, ∃ t : TShape, Serves s c ∧ Names s.toDev c 1 true t ∧ c.only 2 0x3F0FFF#32 = true ∧ c.zeroFrom 3 = true ∧ t.acsIn (c.fld 2 16 6) (c.fld 2 0 12) = true) ∧
    (∃ s : State, ∃ c : TwCmd, ∃ t : TShape, Serves s c ∧ Names s.toDev c 1 false t ∧ c.only 2 0x073F0FFF#32 = true ∧ c.zeroFrom 3 = true ∧ t.acsIn (c.fld 2 16 6) (c.fld 2 0 12) = true ∧ (s.rep (s.twRead c)).isBad 5 (acsPos c) = false ∧ c.fld 2 24 3 = 4) ∧
    (∃ s : State, ∃ c : TwCmd, ∃ t : TShape, Serves s c ∧ Names s.toDev c 1 false t ∧ c.only 2 0x073F0FFF#32 = true ∧ c.zeroFrom 3 = true ∧ t.acsIn (c.fld 2 16 6) (c.fld 2 0 12) = true ∧ (s.rep (s.twRead c)).isBad 5 (acsPos c) = false ∧ c.fld 2 24 3 < 4 ∧ c.fld 2 24 3 < t.acsWidth) :=
  ⟨⟨(S (acX [])), (un 0 1), by decide +kernel⟩,
   ⟨(S (acX [])), (se 4 0 5), (tblA 1), by decide +kernel⟩,
   ⟨(S (asmd (acX []))), (se 4 0 5), (tblA 1), by decide +kernel, (fun u hu => by obtain rfl : u = 0 := Nat.lt_one_iff.mp hu; exact ⟨_, _, rfl, by decide +kernel, by decide +kernel⟩)⟩,
   ⟨(S (acX [])), (del 4 0), (tblA 1), by decide +kernel⟩,
   ⟨(S (acX [(16384, ae)])), (ge 4 0 4), (tblA 1), by decide +kernel⟩,
   ⟨(S (acX [])), (del 4 0), (tblA 1), by decide +kernel⟩⟩

/-- Meets the hypotheses of `AssociativeSearch` (its part StepSearchRuns). -/
theorem witness_StepSearchRuns :
    (∃ s : State, ∃ q : Req, ∃ table : Fin 128, ∃ region : Fin 4, ∃ epoch : Fin 16, Reached s.toDev q Reg.ACS_STEP_CTRL 0 0 ∧ ∃ r, s.stepRegion region table = some r ∧ ∃ t, s.shape? table r = some t ∧ t.tkind = 1 ∧ ∃ key, key = wordsBytes (s.obj bACS 1 0 ++ s.obj bACS 1 1 ++ s.obj bACS 1 2) ∧ ∃ m, m = (s.rep r).acsMatches t (key.take (selWidth t.acsSel)) epoch ∧ minPos m = none) ∧
    (∃ s : State, ∃ q : Req, ∃ table : Fin 128, ∃ region : Fin 4, ∃ epoch : Fin 16, Reached s.toDev q Reg.ACS_STEP_CTRL 0 0 ∧ ∃ r, s.stepRegion region table = some r ∧ ∃ t, s.shape? table r = some t ∧ t.tkind = 1 ∧ ∃ key, key = wordsBytes (s.obj bACS 1 0 ++ s.obj bACS 1 1 ++ s.obj bACS 1 2) ∧ ∃ m, m = (s.rep r).acsMatches t (key.take (selWidth t.acsSel)) epoch ∧ ∃ p, minPos m = some p) ∧
    (∃ s : State, ∃ q : Req, ∃ table : Fin 128, ∃ region : Fin 4, Reached s.toDev q Reg.ACS_STEP_CTRL 0 0 ∧ s.stepRegion region table = none) ∧
    (∃ s : State, ∃ q : Req, Reached s.toDev q Reg.ACS_STEP_CTRL 0 0 ∧ s.tbl.stepOn = false) ∧
    (∃ s : State, ∃ q : Req, (Reached s.toDev q Reg.ACS_STEP_CTRL 0 0 ∧ s.tbl.stepOn = true) ∧ ∃ a, s.tbl.stepLast = some a ∧ ∃ r, s.stepRegion s.tbl.stepRegion s.tbl.stepTable = some r ∧ ∃ t, s.shape? s.tbl.stepTable r = some t ∧ t.tkind = 1 ∧ ∃ p, (minPos (((s.rep r).acsMatches t (s.tbl.stepKey.take (selWidth t.acsSel)) s.tbl.stepEpoch).filter fun p => posLt a p) = some p)) :=
  ⟨⟨(S (acX [])), (.host), 4, 0, 3, by decide +kernel, got (by decide +kernel) (got (by decide +kernel) ⟨by decide +kernel, the (the (by decide +kernel))⟩)⟩,
   ⟨(S (acX [(16384, ae)])), (.host), 4, 0, 3, by decide +kernel, got (by decide +kernel) (got (by decide +kernel) ⟨by decide +kernel, the (the (got0 (by decide +kernel)))⟩)⟩,
   ⟨(S ((acX []).wg Reg.INT_ISO 0 0 (at_ 17 1 1))), (.host), 4, 2, by decide +kernel⟩,
   ⟨(S (acX [])), (.host), by decide +kernel⟩,
   ⟨(S (stepped (acX [(16384, ae), (16385, ae)]))), (.host), by decide +kernel, got (by decide +kernel) (got (by decide +kernel) (got (by decide +kernel) ⟨by decide +kernel, got0 (by decide +kernel)⟩))⟩⟩

/-- Meets the hypotheses of `ThrottleAndReplicationTables` (its part ThrottleSteps). -/
theorem witness_ThrottleSteps :
    (∃ s : State, ∃ b : Byte, ∃ w : W32, w = s.rg Reg.ACS_THROTTLE 0 0 ∧ ∃ n : Nat, n = s.throttleStep ∧ n < stepOf w b.toNat) ∧
    (∃ s : State, ∃ b : Byte, ∃ w : W32, w = s.rg Reg.ACS_THROTTLE 0 0 ∧ ∃ n : Nat, n = s.throttleStep ∧ ∃ fall : Nat, fall = max 1 (fld w 24 4) ∧ ∃ temps : List Nat, temps = (b.toNat :: s.tbl.cools).take 10 ∧ stepOf w b.toNat ≤ n ∧ fld w 28 2 < n ∧ temps.length = 10 ∧ (∀ x ∈ temps, x + fall < stepThresh w n)) ∧
    (∃ s : State, ∃ b : Byte, ∃ w : W32, w = s.rg Reg.ACS_THROTTLE 0 0 ∧ ∃ n : Nat, n = s.throttleStep ∧ ∃ fall : Nat, fall = max 1 (fld w 24 4) ∧ ∃ temps : List Nat, temps = (b.toNat :: s.tbl.cools).take 10 ∧ stepOf w b.toNat ≤ n ∧ (n ≤ fld w 28 2 ∨ temps.length < 10 ∨ ∃ x ∈ temps, stepThresh w n ≤ x + fall)) ∧
    (∃ s : State, ∃ q : Req, ∃ v : W32, Reached s.toDev q Reg.ACS_THROTTLE 0 0 ∧ (fld v 8 8 ≤ fld v 0 8 ∨ fld v 16 8 ≤ fld v 8 8)) ∧
    (∃ s : State, ∃ q : Req, ∃ v : W32, ∃ n : Nat, n = s.throttleStep ∧ Reached s.toDev q Reg.ACS_THROTTLE 0 0 ∧ fld v 0 8 < fld v 8 8 ∧ fld v 8 8 < fld v 16 8 ∧ fld v 28 2 ≤ n) ∧
    (∃ s : State, ∃ q : Req, ∃ v : W32, ∃ n : Nat, n = s.throttleStep ∧ Reached s.toDev q Reg.ACS_THROTTLE 0 0 ∧ fld v 0 8 < fld v 8 8 ∧ fld v 8 8 < fld v 16 8 ∧ n < fld v 28 2) :=
  ⟨⟨(S (th 0 0 0)), 52, the (the (by decide +kernel))⟩,
   ⟨(S (th 1 9 0)), 40#8, the (the (the (the (by decide +kernel))))⟩,
   ⟨(S (th 0 0 0)), 40#8, the (the (the (the (by decide +kernel))))⟩,
   ⟨(S (th 0 0 0)), (.host), 0, by decide +kernel⟩,
   ⟨(S (th 0 0 0)), (.host), (at_ 0 8 40 ||| at_ 8 8 50 ||| at_ 16 8 60), the (by decide +kernel)⟩,
   ⟨(S (th 0 0 0)), (.host), (at_ 0 8 40 ||| at_ 8 8 50 ||| at_ 16 8 60 ||| at_ 28 2 2), the (by decide +kernel)⟩⟩

/-- Meets the hypotheses of `ThrottleAndReplicationTables` (its part ReplicationTables). -/
theorem witness_ReplicationTables :
    (∃ s : State, ∃ c : TwCmd, Serves s c ∧ c.plain = true ∧ c.only 2 0x1FFFF#32 = true ∧ c.zeroFrom 5 = true ∧ groupBad (c.word 3) (c.word 4) = true) ∧
    (∃ s : State, ∃ c : TwCmd, Serves s c ∧ c.plain = true ∧ c.only 2 0x1FFFF#32 = true ∧ c.zeroFrom 5 = true ∧ groupBad (c.word 3) (c.word 4) = false) ∧
    (∃ s : State, ∃ c : TwCmd, Serves s c ∧ c.plain = true ∧ c.only 2 0x1FFFF#32 = true ∧ c.zeroFrom 3 = true) ∧
    (∃ s : State, ∃ c : TwCmd, Serves s c ∧ c.plain = false) ∧
    (∃ s : State, ∃ c : TwCmd, Serves s c ∧ c.plain = true ∧ c.only 2 0x0F0FFFFF#32 = true ∧ 1 ≤ c.fld 2 24 4 ∧ c.fld 2 24 4 ≤ 6 ∧ c.zeroFrom (3 + 2 * c.fld 2 24 4) = true ∧ 1048576 < c.fld 2 0 20 + c.fld 2 24 4) ∧
    (∃ s : State, ∃ c : TwCmd, Serves s c ∧ c.plain = true ∧ c.only 2 0x0F0FFFFF#32 = true ∧ 1 ≤ c.fld 2 24 4 ∧ c.fld 2 24 4 ≤ 6 ∧ c.zeroFrom (3 + 2 * c.fld 2 24 4) = true ∧ c.fld 2 0 20 + c.fld 2 24 4 ≤ 1048576 ∧ (∃ i < c.fld 2 24 4, replBad (c.word (3 + 2 * i)) (c.word (4 + 2 * i)) = true)) ∧
    (∃ s : State, ∃ c : TwCmd, Serves s c ∧ c.plain = true ∧ c.only 2 0x0F0FFFFF#32 = true ∧ 1 ≤ c.fld 2 24 4 ∧ c.fld 2 24 4 ≤ 6 ∧ c.zeroFrom (3 + 2 * c.fld 2 24 4) = true ∧ c.fld 2 0 20 + c.fld 2 24 4 ≤ 1048576 ∧ (∀ i < c.fld 2 24 4, replBad (c.word (3 + 2 * i)) (c.word (4 + 2 * i)) = false)) ∧
    (∃ s : State, ∃ c : TwCmd, Serves s c ∧ c.plain = true ∧ c.only 2 0x0F0FFFFF#32 = true ∧ 1 ≤ c.fld 2 24 4 ∧ c.fld 2 24 4 ≤ 6 ∧ c.zeroFrom 3 = true ∧ c.fld 2 0 20 + c.fld 2 24 4 ≤ 1048576) ∧
    (∃ s : State, ∃ c : TwCmd, Serves s c ∧ c.plain = true ∧ c.only 2 0xF#32 = true ∧ c.zeroFrom 5 = true ∧ c.fld 2 0 4 = 0) ∧
    (∃ s : State, ∃ c : TwCmd, Serves s c ∧ c.plain = true ∧ c.only 2 0xF#32 = true ∧ c.zeroFrom 5 = true ∧ c.fld 2 0 4 ≠ 0 ∧ mirrorBad (c.word 3) (c.word 4) = true) ∧
    (∃ s : State, ∃ c : TwCmd, Serves s c ∧ c.plain = true ∧ c.only 2 0xF#32 = true ∧ c.zeroFrom 5 = true ∧ c.fld 2 0 4 ≠ 0 ∧ mirrorBad (c.word 3) (c.word 4) = false) ∧
    (∃ s : State, ∃ c : TwCmd, Serves s c ∧ c.plain = true ∧ c.only 2 0xF#32 = true ∧ c.zeroFrom 3 = true ∧ c.fld 2 0 4 ≠ 0) :=
  ⟨⟨(S (twD : Dev)), (rc 15), by decide +kernel⟩,
   ⟨(S twD), (cmd 0 [5, 0, at_ 20 11 7]), by decide +kernel⟩,
   ⟨(S (twD : Dev)), (rc 52), by decide +kernel⟩,
   ⟨(S (twD : Dev)), (rc 0), by decide +kernel⟩,
   ⟨(S (twD : Dev)), (rc 5), by decide +kernel⟩,
   ⟨(S (twD : Dev)), (rc 73), by decide +kernel⟩,
   ⟨(S (twD : Dev)), (rc 84), by decide +kernel⟩,
   ⟨(S (twD : Dev)), (rc 117), by decide +kernel⟩,
   ⟨(S (twD : Dev)), (rc 15), by decide +kernel⟩,
   ⟨(S (twD : Dev)), (rc 80), by decide +kernel⟩,
   ⟨(S (twD : Dev)), (rc 52), by decide +kernel⟩,
   ⟨(S (twD : Dev)), (rc 52), by decide +kernel⟩⟩

end W13

namespace W14

def bk (d : Dev := D0) : Dev := ({ d with pbk := { d.pbk with inForce := some book0 }, cue := { d.cue with house := [(0, 3)] } } : Dev).wf Reg.PBK_STATE 0 0 0 4 4 |>.wf Reg.BPM_ONDIE_FREE 0 0 0 20 700000
def tk : Ticket := { voq := 9, tc := 3 }
def cr (good : Bool) (n : Nat) (k : Ticket := tk) : Crossing := { ticket := k, frame := bs n, since := 0, good := good }
def gq (l : List Crossing) (d : Dev := bk) : Dev := { d with tm := { d.tm with general := [(2, l)] } }
def lim (d : Dev) : Dev := d.setObj bQAD 0x11 0 [5, 5, 5, 100, 100, 100, 0, 0] |>.setObj bQAD 0x10 0 [2, 0, 0x888, 0]
def lim2 (d : Dev) : Dev := d.setObj bQAD 0x11 0 [5, 5, 5, 100, 100, 100, 0, 0] |>.setObj bQAD 0x10 0 [0, 0, 0, 0]
def pmx (d : Dev) : Dev := d.wg Reg.QAD_POOL_MAX 0 0 1000
def setq (x : Queue) (d : Dev) : Dev := d.setQueue 9 x
def arr (good nob linked : Bool) (h : Nat := ptrOnDie 5): Arriving := { pkt := { head := h, owner := 0, ticket := tk, frame := bs 100 }, queue := 9, good := good, marked := false, noBuffer := nob, linked := linked }
def aq (l : List Arriving) (d : Dev := bk) : Dev := { d with tm := { d.tm with arriving := l, chains := [(ptrOnDie 5, { bufs := [ptrOnDie 5], owners := [0] })] } }
def stk (d : Dev) : Dev := (d.wf Reg.HBM_STACK_STATUS 0 0 0 3 4).wf Reg.HBM_STACK_STATUS 0 2 0 3 4 |>.wg Reg.BPM_HBM_REGION 0 0 (at_ 0 7 3 ||| at_ 8 7 61) |>.wg Reg.BPM_HBM_REGION 0 2 (at_ 0 7 3 ||| at_ 8 7 20)
def pk (h tc n : Nat) : Pkt := { head := h, owner := 0, ticket := { tk with tc := BitVec.ofNat 3 tc }, frame := bs n }
def hb (l : List Pkt) (d : Dev := (stk bk).wg Reg.BPM_PREPULL_CFG 0 0 (1 ||| at_ 16 8 3)) : Dev := setq { pkts := l } { d with tm := { d.tm with spilled := true, chains := [(ptrHbm 0 4000000, { bufs := [ptrHbm 0 4000000], owners := [0] }), (ptrHbm 1 4000000, { bufs := [ptrHbm 1 4000000], owners := [0] })] } }
def ch (ow : List Nat) (d : Dev := bk) : Dev := { d with tm := { d.tm with chains := [(ptrOnDie 5, { bufs := [ptrOnDie 5, ptrOnDie 6], owners := ow })] } }
def au (on : Bool) (d : Dev := bk) : Dev := let d := setq { pkts := [pk 7 3 100], link := linkTerm 7 } d; { d with tm := { d.tm with auditing := on, chains := [(5, { bufs := [5], owners := [0], old := true, mark := false }), (6, { bufs := [6], owners := [0], old := true, mark := true }), (7, { bufs := [7], owners := [0], old := true, mark := false }), (8, { bufs := [8], owners := [0], old := false, mark := false }), (9, { bufs := [9], owners := [0], old := true, mark := false })] } }
def adm (a qmin depth : Nat) : Dev := ((tmD.setObj bQAD 0x10 0 [w32 qmin, 0, w32 a, 0]).setQueue 1040 { depth := depth })
def pq (l : List (Crossing × Nat)) (d : Dev := bk) (n : Nat := 2000) : Dev := { d with tm := { d.tm with packed := l }, dvtFT := { d.dvtFT with delivered := n } }
def c1 : Crossing := cr false 100
def cp : Crossing := { cr true 1000 with ticket := { tk with prot := 1 } }
def arrP (p : Nat) : Arriving := { arr false false false with pkt := { head := ptrOnDie 5, owner := 0, ticket := { tk with prot := BitVec.ofNat 2 p }, frame := bs 100 } }
def cutD : Dev := let d := aq [arr false false true]; { d with tm := { d.tm with toEgress := [{ port := 5, queue := 40, ticket := tk, frame := bs 90, since := 0, replica := false, mirrored := false, cut := true, pend := some (arr false false true).tailKey }] } }
def hp : Pkt := pk (ptrHbm 0 4000000) 3 100
def rd (d : Dev := hb [hp]) : Dev := (d.wg Reg.BPM_PREPULL_CFG 0 0 (1 ||| at_ 8 8 10 ||| at_ 16 8 3)).wg Reg.BPM_CTRL 0 0 1
def crowd : Dev := let d := rd; { d with tm := { d.tm with staged := [{ queue := 40, head := 7, bytes := 2 ^ 22, poisoned := false, due := 3 }] }, cue := { d.cue with localNs := 50 } }
def due : Dev := let d := (au false).wg Reg.BPM_AUDIT_CTRL 0 0 (1 ||| at_ 8 8 10); { d with tm := { d.tm with spilled := true }, cue := { d.cue with localNs := 20000000000 } }
def pass2 : Dev := let d := ch [2]; { d with tm := { d.tm with auditing := true } }

/-- Meets the hypotheses of `AdmissionThresholds`. -/
theorem witness_AdmissionThresholds :
    (∃ s : Dev, ∃ q : Nat, ∃ c : Nat, ∃ t : Nat, c < 3 ∧ ∃ prof : Nat, prof = fld (s.qmap q t) 8 6 ∧ ∃ d : Nat, d = (s.queue q).depth ∧ thresh (word (s.cfgObj t bQAD 0x11 prof) (3 + c)) ≤ d) ∧
    (∃ s : Dev, ∃ q : Nat, ∃ c : Nat, ∃ t : Nat, c < 3 ∧ ∃ prof : Nat, prof = fld (s.qmap q t) 8 6 ∧ ∃ d : Nat, d = (s.queue q).depth ∧ ∃ m : Nat, m = thresh (word (s.cfgObj t bQAD 0x10 prof) 0) ∧ d < thresh (word (s.cfgObj t bQAD 0x11 prof) (3 + c)) ∧ d < m) ∧
    (∃ s : Dev, ∃ q : Nat, ∃ c : Nat, ∃ t : Nat, c < 3 ∧ ∃ prof : Nat, prof = fld (s.qmap q t) 8 6 ∧ ∃ a : Nat, a = wfld (s.cfgObj t bQAD 0x10 prof) 2 (4 * c) 4 ∧ ∃ d : Nat, d = (s.queue q).depth ∧ ∃ m : Nat, m = thresh (word (s.cfgObj t bQAD 0x10 prof) 0) ∧ ∃ room : Nat, room = s.poolRoom (fld (s.qmap q t) 0 4) ∧ d < thresh (word (s.cfgObj t bQAD 0x11 prof) (3 + c)) ∧ m ≤ d ∧ (room = 0 ∨ a = 0)) ∧
    (∃ s : Dev, ∃ q : Nat, ∃ c : Nat, ∃ t : Nat, c < 3 ∧ ∃ prof : Nat, prof = fld (s.qmap q t) 8 6 ∧ ∃ a : Nat, a = wfld (s.cfgObj t bQAD 0x10 prof) 2 (4 * c) 4 ∧ ∃ d : Nat, d = (s.queue q).depth ∧ ∃ m : Nat, m = thresh (word (s.cfgObj t bQAD 0x10 prof) 0) ∧ ∃ room : Nat, room = s.poolRoom (fld (s.qmap q t) 0 4) ∧ (d < thresh (word (s.cfgObj t bQAD 0x11 prof) (3 + c)) ∧ m ≤ d ∧ 0 < room) ∧ ∃ k, 1 ≤ k ∧ k < 8 ∧ a = k) ∧
    (∃ s : Dev, ∃ q : Nat, ∃ c : Nat, ∃ t : Nat, c < 3 ∧ ∃ prof : Nat, prof = fld (s.qmap q t) 8 6 ∧ ∃ a : Nat, a = wfld (s.cfgObj t bQAD 0x10 prof) 2 (4 * c) 4 ∧ ∃ d : Nat, d = (s.queue q).depth ∧ ∃ m : Nat, m = thresh (word (s.cfgObj t bQAD 0x10 prof) 0) ∧ ∃ room : Nat, room = s.poolRoom (fld (s.qmap q t) 0 4) ∧ (d < thresh (word (s.cfgObj t bQAD 0x11 prof) (3 + c)) ∧ m ≤ d ∧ 0 < room) ∧ ∃ k, 8 ≤ k ∧ k ≤ 12 ∧ a = k) ∧
    (∃ s : Dev, ∃ q : Nat, ∃ c : Nat, ∃ t : Nat, c < 3 ∧ ∃ prof : Nat, prof = fld (s.qmap q t) 8 6 ∧ ∃ a : Nat, a = wfld (s.cfgObj t bQAD 0x10 prof) 2 (4 * c) 4 ∧ ∃ d : Nat, d = (s.queue q).depth ∧ ∃ m : Nat, m = thresh (word (s.cfgObj t bQAD 0x10 prof) 0) ∧ ∃ room : Nat, room = s.poolRoom (fld (s.qmap q t) 0 4) ∧ d < thresh (word (s.cfgObj t bQAD 0x11 prof) (3 + c)) ∧ m ≤ d ∧ 0 < room ∧ 13 ≤ a) :=
  ⟨⟨(adm 8 0 4000), 1040, 0, 0, by decide +kernel, the (the (by decide +kernel))⟩,
   ⟨(adm 8 20 79), 1040, 0, 0, by decide +kernel, the (the (the (by decide +kernel)))⟩,
   ⟨(adm 0 20 80), 1040, 0, 0, by decide +kernel, the (the (the (the (the (by decide +kernel)))))⟩,
   ⟨(adm 7 0 0), 1040, 0, 0, by decide +kernel, the (the (the (the (the ⟨by decide +kernel, ⟨7, by decide +kernel⟩⟩))))⟩,
   ⟨(adm 12 0 0), 1040, 0, 0, by decide +kernel, the (the (the (the (the ⟨by decide +kernel, ⟨12, by decide +kernel⟩⟩))))⟩,
   ⟨(adm 13 0 5), 1040, 0, 0, by decide +kernel, the (the (the (the (the (by decide +kernel)))))⟩⟩

/-- Meets the hypotheses of `CrossingsAreAdmitted` (its part CrossingsDecided). -/
theorem witness_CrossingsDecided :
    (∃ s : State, s.tm.packed = []) ∧
    (∃ s : State, ∃ x : Crossing, ∃ fin : Nat, ∃ rest : List (Crossing × Nat), s.tm.packed = (x, fin) :: rest ∧ s.dvtFT.delivered < fin - x.frame.length) ∧
    (∃ s : State, ∃ x : Crossing, ∃ fin : Nat, ∃ rest : List (Crossing × Nat), (s.tm.packed = (x, fin) :: rest ∧ fin - x.frame.length ≤ s.dvtFT.delivered) ∧ ∃ q : Nat, q = x.ticket.voq.toNat ∧ s.stopped = false ∧ (∀ b, s.bookOf x.ticket.epoch.toNat = some b → b.ranges = []) ∧ (s.queue q).isolated = true) ∧
    (∃ s : State, ∃ x : Crossing, ∃ fin : Nat, ∃ rest : List (Crossing × Nat), (s.tm.packed = (x, fin) :: rest ∧ fin - x.frame.length ≤ s.dvtFT.delivered) ∧ ∃ q : Nat, q = x.ticket.voq.toNat ∧ s.stopped = false ∧ (∀ b, s.bookOf x.ticket.epoch.toNat = some b → b.ranges = []) ∧ (s.queue q).isolated = false ∧ ∃ r, ∃ j, (r, j) ∈ [(Refuse.limit, 0), (.threshold, 1)] ∧ s.judge q x.ticket.colour.toNat x.since = some r) ∧
    (∃ s : State, ∃ x : Crossing, ∃ fin : Nat, ∃ rest : List (Crossing × Nat), (s.tm.packed = (x, fin) :: rest ∧ fin - x.frame.length ≤ s.dvtFT.delivered) ∧ ∃ u : Dev, u = { s.toDev with tm := { s.tm with packed := rest } } ∧ ∃ q : Nat, q = x.ticket.voq.toNat ∧ s.stopped = false ∧ (∀ b, s.bookOf x.ticket.epoch.toNat = some b → b.ranges = []) ∧ ((s.queue q).isolated = false ∧ s.judge q x.ticket.colour.toNat x.since = none) ∧ ∃ r, ∃ j, (r, j) ∈ [(Refuse.onDieFull, 2), (.hbmRate, 3)] ∧ u.place q x.ticket.tc.toNat false x.since = .error r) ∧
    (∃ s : State, ∃ x : Crossing, ∃ fin : Nat, ∃ rest : List (Crossing × Nat), (s.tm.packed = (x, fin) :: rest ∧ fin - x.frame.length ≤ s.dvtFT.delivered) ∧ ∃ u : Dev, u = { s.toDev with tm := { s.tm with packed := rest } } ∧ ∃ q : Nat, q = x.ticket.voq.toNat ∧ s.stopped = false ∧ (∀ b, s.bookOf x.ticket.epoch.toNat = some b → b.ranges = []) ∧ ((s.queue q).isolated = false ∧ s.judge q x.ticket.colour.toNat x.since = none) ∧ ∃ m o, u.place q x.ticket.tc.toNat false x.since = .ok (m, o) ∧ ((x.good = false ∧ x.ticket.prot ≠ 0) ∨ x.ticket.prot = 1)) :=
  ⟨⟨(S (bk : Dev)), by decide +kernel⟩,
   ⟨(S (pq [(c1, 3000)])), c1, 3000, [], by decide +kernel⟩,
   ⟨(S (pq [(c1, 2000)] (bk.setQueue 9 { isolated := true }))), c1, 2000, [], by decide +kernel, the ⟨by decide +kernel, held (by decide +kernel), by decide +kernel⟩⟩,
   ⟨(S (pq [(c1, 2000)] (pmx (lim2 bk)))), c1, 2000, [], by decide +kernel, the ⟨by decide +kernel, held (by decide +kernel), by decide +kernel, ⟨(.threshold), ⟨1, by decide +kernel⟩⟩⟩⟩,
   ⟨(S (pq [(c1, 2000)] ((lim bk).wf Reg.BPM_ONDIE_FREE 0 0 0 20 0))), c1, 2000, [], by decide +kernel, the (the ⟨by decide +kernel, held (by decide +kernel), by decide +kernel, ⟨Refuse.onDieFull, ⟨2, ⟨by decide +kernel, errIs (by decide +kernel)⟩⟩⟩⟩)⟩,
   ⟨(S (pq [(cp, 2000)] (lim bk))), cp, 2000, [], by decide +kernel, the (the ⟨by decide +kernel, held (by decide +kernel), by decide +kernel, gotOkPair (by decide +kernel) (by decide +kernel)⟩)⟩⟩

/-- Meets the hypotheses of `CrossingsAreAdmitted` (its part AdmissionCommits). -/
theorem witness_AdmissionCommits :
    (∃ s : State, (∀ a ∈ s.tm.arriving, a.key ≠ none ∨ s.dvtFT.delivered < a.fin)) ∧
    (∃ s : State, ∃ a : Arriving, s.tm.arriving.find? (fun a => a.key.isNone && decide (a.fin ≤ s.dvtFT.delivered)) = some a ∧ a.linked = false ∧ a.good = false ∧ a.pkt.ticket.prot ≠ 0) ∧
    (∃ s : State, ∃ a : Arriving, s.tm.arriving.find? (fun a => a.key.isNone && decide (a.fin ≤ s.dvtFT.delivered)) = some a ∧ a.linked = false ∧ a.good = false ∧ a.pkt.ticket.prot = 0) ∧
    (∃ s : State, ∃ a : Arriving, s.tm.arriving.find? (fun a => a.key.isNone && decide (a.fin ≤ s.dvtFT.delivered)) = some a ∧ a.linked = false ∧ a.good = true ∧ a.noBuffer = true) ∧
    (∃ s : State, ∃ a : Arriving, s.tm.arriving.find? (fun a => a.key.isNone && decide (a.fin ≤ s.dvtFT.delivered)) = some a ∧ a.linked = false ∧ a.good = true ∧ a.noBuffer = false ∧ s.ptrBad a.pkt.head true = none) ∧
    (∃ s : State, ∃ a : Arriving, s.tm.arriving.find? (fun a => a.key.isNone && decide (a.fin ≤ s.dvtFT.delivered)) = some a ∧ ∃ e, (s.tm.toEgress.find? (fun e => e.pend == some a.tailKey) = some e) ∧ a.linked = true ∧ a.good = false) :=
  ⟨⟨(S (bk : Dev)), by decide +kernel⟩,
   ⟨(S (aq [arrP 2])), (arrP 2), by decide +kernel⟩,
   ⟨(S (aq [arr false false false] : Dev)), (((aq [arr false false false] : Dev).tm.arriving.find? fun a => a.key.isNone).getD (arr true true true)), by decide +kernel⟩,
   ⟨(S (aq [arr true true false] : Dev)), (((aq [arr true true false] : Dev).tm.arriving.find? fun a => a.key.isNone).getD (arr true true true)), by decide +kernel⟩,
   ⟨(S (aq [arr true false false] : Dev)), (((aq [arr true false false] : Dev).tm.arriving.find? fun a => a.key.isNone).getD (arr true true true)), by decide +kernel⟩,
   ⟨(S cutD), (arr false false true), by decide +kernel, got (by decide +kernel) (by decide +kernel)⟩⟩

/-- Meets the hypotheses of `SpillAndPrePull` (its part SpillConfiguration). -/
theorem witness_SpillConfiguration :
    (∃ s : State, ∃ q : Req, Reached s.toDev q Reg.BPM_CTRL 0 0) ∧
    (∃ s : State, ∃ q : Req, ∃ k : Fin 8, Reached s.toDev q Reg.BPM_HBM_REGION 0 k ∧ s.spillEn = true) ∧
    (∃ s : State, ∃ q : Req, ∃ k : Fin 8, Reached s.toDev q Reg.BPM_HBM_REGION 0 k ∧ s.spillEn = false ∧ s.variant.hasStack k = false) ∧
    (∃ s : State, ∃ q : Req, ∃ k : Fin 8, Reached s.toDev q Reg.BPM_HBM_REGION 0 k ∧ s.spillEn = false ∧ s.variant.hasStack k = true) :=
  ⟨⟨(S (D0 : Dev)), (.host), by decide +kernel⟩,
   ⟨(S ((stk D0).wg Reg.BPM_CTRL 0 0 1 : Dev)), (.host), (0 : Fin 8), by decide +kernel⟩,
   ⟨(S ({ stk D0 with variant := .c } : Dev)), (.host), (6 : Fin 8), by decide +kernel⟩,
   ⟨(S (D0 : Dev)), (.host), 0, by decide +kernel⟩⟩

/-- Meets the hypotheses of `SpillAndPrePull` (its part PrePullStages). -/
theorem witness_PrePullStages :
    (∃ s : State, ∃ q : Fin 262144, s.nextUnstaged q = none) ∧
    (∃ s : State, ∃ q : Fin 262144, ∃ ahead : BitVec 16, ∃ k : Pkt, ∃ c : W32, c = s.rg Reg.BPM_PREPULL_CFG 0 0 ∧ ∃ n : Nat, n = s.stored k.frame ∧ ∃ queued : Nat, (queued = (s.tm.staged.filter fun z => z.queue == q.val).foldl (fun n z => n + z.bytes) 0) ∧ s.nextUnstaged q = some k ∧ (bit c 0 = false ∨ k.ticket.tc = 0 ∨ max 1 (fld c 8 8) * 100 < ahead.toNat ∨ max 1 (fld c 16 8) * 1024 < queued + n ∨ s.readTokens ≤ 0)) ∧
    (∃ s : State, ∃ q : Fin 262144, ∃ ahead : BitVec 16, ∃ k : Pkt, ∃ c : W32, c = s.rg Reg.BPM_PREPULL_CFG 0 0 ∧ ∃ n : Nat, n = s.stored k.frame ∧ ∃ due : Nat, due = s.cue.localNs + ahead.toNat ∧ ∃ queued : Nat, (queued = (s.tm.staged.filter fun z => z.queue == q.val).foldl (fun n z => n + z.bytes) 0) ∧ s.nextUnstaged q = some k ∧ bit c 0 = true ∧ k.ticket.tc ≠ 0 ∧ s.stopped = false ∧ ahead.toNat ≤ max 1 (fld c 8 8) * 100 ∧ queued + n ≤ max 1 (fld c 16 8) * 1024 ∧ n ≤ 2 ^ 22 ∧ 0 < s.readTokens ∧ s.ptrBad k.head true = none ∧ s.tm.auditing = false ∧ 2 ^ 22 < s.stagedBytes + n ∧ (∀ z ∈ s.tm.staged, z.due ≤ due)) ∧
    (∃ s : State, ∃ q : Fin 262144, ∃ ahead : BitVec 16, ∃ k : Pkt, ∃ c : W32, c = s.rg Reg.BPM_PREPULL_CFG 0 0 ∧ ∃ n : Nat, n = s.stored k.frame ∧ ∃ queued : Nat, (queued = (s.tm.staged.filter fun z => z.queue == q.val).foldl (fun n z => n + z.bytes) 0) ∧ s.nextUnstaged q = some k ∧ bit c 0 = true ∧ k.ticket.tc ≠ 0 ∧ s.stopped = false ∧ ahead.toNat ≤ max 1 (fld c 8 8) * 100 ∧ queued + n ≤ max 1 (fld c 16 8) * 1024 ∧ n ≤ 2 ^ 22 ∧ 0 < s.readTokens ∧ s.ptrBad k.head true = none ∧ s.tm.auditing = false ∧ s.stagedBytes + n ≤ 2 ^ 22) ∧
    (∃ s : State, ∃ q : Fin 262144, ∃ k : Pkt, ∃ k, s.nextUnstaged q = some k) :=
  ⟨⟨(S (bk : Dev)), 9, by decide +kernel⟩,
   ⟨(S (hb [pk (ptrHbm 0 4000000) 0 100] : Dev)), 9, 0, ((((hb [pk (ptrHbm 0 4000000) 0 100] : Dev).queue 9).pkts.find? (fun k => !isOnDie k.head && !((hb [pk (ptrHbm 0 4000000) 0 100] : Dev).tm.staged.any fun z => z.queue == 9 && z.head == k.head))).getD (pk 0 0 0)), the (the (the (by decide +kernel)))⟩,
   ⟨(S crowd), 9, 0, hp, the (the (the (the (by decide +kernel))))⟩,
   ⟨(S (rd)), 9, 0, hp, the (the (the (by decide +kernel)))⟩,
   ⟨(S (hb [pk (ptrHbm 0 4000000) 0 100] : Dev)), 9, ((((hb [pk (ptrHbm 0 4000000) 0 100] : Dev).queue 9).pkts.find? (fun k => !isOnDie k.head && !((hb [pk (ptrHbm 0 4000000) 0 100] : Dev).tm.staged.any fun z => z.queue == 9 && z.head == k.head))).getD (pk 0 0 0)), got0 (by decide +kernel)⟩⟩

/-- Meets the hypotheses of `BuffersAreGuarded` (its part FreesAreChecked). -/
theorem witness_FreesAreChecked :
    (∃ s : State, ∃ p : BitVec 30, s.ptrBad p.toNat true ≠ none ∧ s.reactOf 10 = 0 ∧ s.tm.auditing = false) ∧
    (∃ s : State, ∃ p : BitVec 30, ∃ owner : BitVec 10, ∃ c : Chain, s.ptrBad p.toNat true = none ∧ s.chain? p.toNat = some c ∧ s.tm.auditing = false ∧ owner.toNat ∉ c.owners) ∧
    (∃ s : State, ∃ p : BitVec 30, ∃ owner : BitVec 10, ∃ c : Chain, s.ptrBad p.toNat true = none ∧ s.chain? p.toNat = some c ∧ s.tm.auditing = false ∧ owner.toNat ∈ c.owners ∧ delKey c.owners owner.toNat ≠ []) ∧
    (∃ s : State, ∃ p : BitVec 30, ∃ owner : BitVec 10, ∃ c : Chain, s.ptrBad p.toNat true = none ∧ s.chain? p.toNat = some c ∧ s.tm.auditing = false ∧ owner.toNat ∈ c.owners ∧ delKey c.owners owner.toNat = []) ∧
    (∃ s : State, ∃ p : BitVec 30, ∃ owner : BitVec 10, ∃ c : Chain, s.ptrBad p.toNat true = none ∧ s.chain? p.toNat = some c ∧ s.tm.auditing = true ∧ p.toNat ∈ c.bufs ∧ owner.toNat ∉ c.owners) :=
  ⟨⟨(S (bk : Dev)), 0x20000005#30, by decide +kernel⟩,
   ⟨(S (ch [2] : Dev)), 0x20000005#30, 0, ({ bufs := [ptrOnDie 5, ptrOnDie 6], owners := ((ch [2] : Dev).tm.chains.head?.map fun c => c.2.owners).getD [] }), by decide +kernel⟩,
   ⟨(S (ch [0, 3] : Dev)), 0x20000005#30, 0, ({ bufs := [ptrOnDie 5, ptrOnDie 6], owners := ((ch [0, 3] : Dev).tm.chains.head?.map fun c => c.2.owners).getD [] }), by decide +kernel⟩,
   ⟨(S (ch [0] : Dev)), 0x20000005#30, 0, ({ bufs := [ptrOnDie 5, ptrOnDie 6], owners := ((ch [0] : Dev).tm.chains.head?.map fun c => c.2.owners).getD [] }), by decide +kernel⟩,
   ⟨(S pass2), 0x20000005#30, 0, ({ bufs := [ptrOnDie 5, ptrOnDie 6], owners := [2] }), by decide +kernel⟩⟩

/-- Meets the hypotheses of `BuffersAreGuarded` (its part AuditReclaims). -/
theorem witness_AuditReclaims :
    (∃ s : State, (s.tm.auditing = true ∨ s.auditDue = false)) ∧
    (∃ s : State, s.tm.auditing = false ∧ s.auditDue = true) ∧
    (∃ s : State, ∃ skip : List (BitVec 30), (s.tm.auditing = true ∧ (∀ e ∈ s.tm.queues, e.2.relink = e.2.link) ∧ sortedKeys s.tm.chains = true) ∧ ∃ h, ∃ c, s.chain? h = some c ∧ c.old = true ∧ c.mark = false ∧ s.reached h = false ∧ h ∉ skip.map BitVec.toNat) ∧
    (∃ s : State, ∃ skip : List (BitVec 30), (s.tm.auditing = true ∧ (∀ e ∈ s.tm.queues, e.2.relink = e.2.link) ∧ sortedKeys s.tm.chains = true) ∧ ∃ h, ∃ c, s.chain? h = some c ∧ (c.old = false ∨ c.mark = true ∨ s.reached h = true ∨ h ∈ skip.map BitVec.toNat)) :=
  ⟨⟨(S (bk : Dev)), by decide +kernel⟩,
   ⟨(S due), by decide +kernel⟩,
   ⟨(S (au true)), [], by decide +kernel, ⟨9, got (by decide +kernel) (by decide +kernel)⟩⟩,
   ⟨(S (au true)), [9], by decide +kernel, ⟨9, got (by decide +kernel) (by decide +kernel)⟩⟩⟩

end W14

namespace W15

def quar (d : Dev) : Dev := d.wg Reg.CUE_EPOCH 0 0 (at_ 16 1 1 ||| 1)
def eq (l : List Pkt) (d : Dev := tmD) := qd (nQ + 81) l d
def ep (e : Nat) (k : Pkt) : Pkt := { k with ticket := { k.ticket with epoch := BitVec.ofNat 4 e } }
def gn (g : GenSt) (d : Dev := tmD) : Dev := d.setGen 5 g
def g1 : GenSt := { running := true }
def jb (d : Dev := tmD) (valid := true) (port : Nat := 5) : Dev := let d := chn [1] d; { d with tm := { d.tm with repl := [{ pkt := { pkd 1 0 with ticket := { tkt 0 with dkind := 1 } }, base := 6, count := 1 }] }, tbl := { d.tbl with pool := [(6, [atB 31 valid ||| at_ 17 8 port, at_ 24 2 2 ||| 0x1234])] } }
def paced (d : Dev) : Dev := d.pWg Reg.LNP_PORT_CFG 5 (at_ 0 4 3 ||| at_ 8 14 1518)
def drains : Dev := ((gn g1 (qd 1040 [{ pkd 1 1040 with ticket := { tkt 1040 with tc := 0 } }])).setObj bSCH 5 5 [100, ones, 0x11111111, at_ 3 14 10]).pWf Reg.LNP_PORT_STATUS 5 0 3 4
def far : Pkt := { pkd 1 3045 with ticket := { tkt 3045 with dst := at_ 18 14 77 ||| at_ 10 8 5 } }
def fabD : Dev :=
  let d := (cred 3045 5000 (qd 3045 [far, { far with head := ptrOnDie 2 }])).wf Reg.FAB_CFG 0 0 0 2 1
  (d.wg Reg.FAB_LANE_INSVC 0 0 (at_ 7 1 1)).setPin 0 { lane := 7, alt := 9, inflight := 2 }

/-- Meets the hypotheses of `QueuesAreServed` (its part VoqsServed). -/
theorem witness_VoqsServed :
    (∃ s : State, (s.nextVoq = none ∨ s.stopped = true)) ∧
    (∃ s : State, ∃ v : Nat, ∃ c0 : Bool, ∃ k : Pkt, ∃ rest : List Pkt, s.stopped = false ∧ s.nextVoq = some (v, c0) ∧ v < nQ ∧ HeadFine s.toDev v k rest ∧ k.ticket.voq.toNat = v ∧ s.quarantined k.ticket.epoch.toNat = true) ∧
    (∃ s : State, ∃ v : Nat, ∃ c0 : Bool, ∃ k : Pkt, ∃ rest : List Pkt, s.stopped = false ∧ s.nextVoq = some (v, c0) ∧ v < nQ ∧ HeadFine s.toDev v k rest ∧ k.ticket.voq.toNat = v ∧ s.quarantined k.ticket.epoch.toNat = false ∧ k.ticket.dkind = 2) ∧
    (∃ s : State, ∃ v : Nat, ∃ c0 : Bool, ∃ k : Pkt, ∃ rest : List Pkt, (s.stopped = false ∧ s.nextVoq = some (v, c0) ∧ v < nQ ∧ HeadFine s.toDev v k rest ∧ k.ticket.voq.toNat = v ∧ s.quarantined k.ticket.epoch.toNat = false ∧ k.ticket.dkind = 0 ∧ s.voqReserved v = false ∧ s.session? k.ticket.mirror.toNat = none ∧ k.ticket.dstDev = s.devId) ∧ ∃ e : Nat, e = s.eqOf k.ticket.eq? k.ticket.dstPort k.ticket.tc.toNat ∧ s.attached e k.ticket.dstPort = true ∧ s.portDiscards k.ticket.dstPort = false ∧ Roomy s.toDev (nQ + e) k.ticket.colour.toNat) ∧
    (∃ s : State, ∃ v : Nat, ∃ c0 : Bool, ∃ k : Pkt, ∃ rest : List Pkt, (s.stopped = false ∧ s.nextVoq = some (v, c0) ∧ v < nQ ∧ HeadFine s.toDev v k rest ∧ k.ticket.voq.toNat = v) ∧ ∃ m, s.meshFor k.ticket.dstDev = some m ∧ s.quarantined k.ticket.epoch.toNat = false ∧ k.ticket.dkind = 0 ∧ s.voqReserved v = false ∧ s.session? k.ticket.mirror.toNat = none ∧ k.ticket.dstDev ≠ s.devId) :=
  ⟨⟨(S (D0 : Dev)), by decide +kernel⟩,
   ⟨(S (quar (cred 1041 5 (qd 1041 [pkd 1 1041, pkd 2 1041])) : Dev)), ((((quar (cred 1041 5 (qd 1041 [pkd 1 1041, pkd 2 1041])) : Dev).nextVoq).getD (0, true)).1), ((((quar (cred 1041 5 (qd 1041 [pkd 1 1041, pkd 2 1041])) : Dev).nextVoq).getD (0, true)).2), ((((quar (cred 1041 5 (qd 1041 [pkd 1 1041, pkd 2 1041])) : Dev).queue ((((quar (cred 1041 5 (qd 1041 [pkd 1 1041, pkd 2 1041])) : Dev).nextVoq).getD (0, true)).1)).pkts.head?).getD (pkd 0 0)), (((quar (cred 1041 5 (qd 1041 [pkd 1 1041, pkd 2 1041])) : Dev).queue ((((quar (cred 1041 5 (qd 1041 [pkd 1 1041, pkd 2 1041])) : Dev).nextVoq).getD (0, true)).1)).pkts.tail), by decide +kernel⟩,
   ⟨(S (qd 2080 [{ pkd 1 2080 with ticket := { tkt 2080 with dkind := 2, dst := 3 } }] (tmD.setObj bSCH 4 2080 [ones, 1000]) : Dev)), ((((qd 2080 [{ pkd 1 2080 with ticket := { tkt 2080 with dkind := 2, dst := 3 } }] (tmD.setObj bSCH 4 2080 [ones, 1000]) : Dev).nextVoq).getD (0, true)).1), ((((qd 2080 [{ pkd 1 2080 with ticket := { tkt 2080 with dkind := 2, dst := 3 } }] (tmD.setObj bSCH 4 2080 [ones, 1000]) : Dev).nextVoq).getD (0, true)).2), ((((qd 2080 [{ pkd 1 2080 with ticket := { tkt 2080 with dkind := 2, dst := 3 } }] (tmD.setObj bSCH 4 2080 [ones, 1000]) : Dev).queue ((((qd 2080 [{ pkd 1 2080 with ticket := { tkt 2080 with dkind := 2, dst := 3 } }] (tmD.setObj bSCH 4 2080 [ones, 1000]) : Dev).nextVoq).getD (0, true)).1)).pkts.head?).getD (pkd 0 0)), (((qd 2080 [{ pkd 1 2080 with ticket := { tkt 2080 with dkind := 2, dst := 3 } }] (tmD.setObj bSCH 4 2080 [ones, 1000]) : Dev).queue ((((qd 2080 [{ pkd 1 2080 with ticket := { tkt 2080 with dkind := 2, dst := 3 } }] (tmD.setObj bSCH 4 2080 [ones, 1000]) : Dev).nextVoq).getD (0, true)).1)).pkts.tail), by decide +kernel⟩,
   ⟨(S (cred 1041 5 (qd 1041 [pkd 1 1041, pkd 2 1041]) : Dev)), ((((cred 1041 5 (qd 1041 [pkd 1 1041, pkd 2 1041]) : Dev).nextVoq).getD (0, true)).1), ((((cred 1041 5 (qd 1041 [pkd 1 1041, pkd 2 1041]) : Dev).nextVoq).getD (0, true)).2), ((((cred 1041 5 (qd 1041 [pkd 1 1041, pkd 2 1041]) : Dev).queue ((((cred 1041 5 (qd 1041 [pkd 1 1041, pkd 2 1041]) : Dev).nextVoq).getD (0, true)).1)).pkts.head?).getD (pkd 0 0)), (((cred 1041 5 (qd 1041 [pkd 1 1041, pkd 2 1041]) : Dev).queue ((((cred 1041 5 (qd 1041 [pkd 1 1041, pkd 2 1041]) : Dev).nextVoq).getD (0, true)).1)).pkts.tail), by decide +kernel, the (by decide +kernel)⟩,
   ⟨(S fabD), 3045, (((S fabD).nextVoq.getD (0, true)).2), far, [{ far with head := ptrOnDie 2 }], by decide +kernel, got (by decide +kernel) (by decide +kernel)⟩⟩

/-- Meets the hypotheses of `QueuesAreServed` (its part EgressQueuesServed). -/
theorem witness_EgressQueuesServed :
    (∃ s : State, ∃ p : Fin 256, s.choose p = none) ∧
    (∃ s : State, ∃ p : Fin 256, s.portChoosable p = false) ∧
    (∃ s : State, ∃ p : Fin 256, ∃ y : Yield, ∃ k : Pkt, ∃ rest : List Pkt, s.choose p = some y ∧ ∃ q : Nat, q = nQ + y.queue ∧ HeadFine s.toDev q k rest ∧ k.eport = p ∧ s.quarantined k.ticket.epoch.toNat = false) ∧
    (∃ s : State, ∃ p : Fin 256, ∃ y : Yield, ∃ k : Pkt, ∃ rest : List Pkt, s.choose p = some y ∧ ∃ q : Nat, q = nQ + y.queue ∧ HeadFine s.toDev q k rest ∧ k.eport = p ∧ s.quarantined k.ticket.epoch.toNat = true) :=
  ⟨⟨(S (tmD : Dev)), 5, by decide +kernel⟩,
   ⟨(S ((eq [pkd 1 0]).pWf Reg.LNP_PORT_STATUS 5 0 3 1 : Dev)), 5, by decide +kernel⟩,
   ⟨(S (eq [pkd 1 0] : Dev)), 5, (((eq [pkd 1 0] : Dev).choose 5).getD { dev := (eq [pkd 1 0] : Dev), queue := 0, len := 0, path := [] }), ((((eq [pkd 1 0] : Dev).queue (nQ + (((eq [pkd 1 0] : Dev).choose 5).getD { dev := (eq [pkd 1 0] : Dev), queue := 0, len := 0, path := [] }).queue)).pkts.head?).getD (pkd 0 0)), (((eq [pkd 1 0] : Dev).queue (nQ + (((eq [pkd 1 0] : Dev).choose 5).getD { dev := (eq [pkd 1 0] : Dev), queue := 0, len := 0, path := [] }).queue)).pkts.tail), by decide +kernel, the (by decide +kernel)⟩,
   ⟨(S (quar (eq [pkd 1 0, pkd 2 0]) : Dev)), 5, (((quar (eq [pkd 1 0, pkd 2 0]) : Dev).choose 5).getD { dev := (quar (eq [pkd 1 0, pkd 2 0]) : Dev), queue := 0, len := 0, path := [] }), ((((quar (eq [pkd 1 0, pkd 2 0]) : Dev).queue (nQ + (((quar (eq [pkd 1 0, pkd 2 0]) : Dev).choose 5).getD { dev := (quar (eq [pkd 1 0, pkd 2 0]) : Dev), queue := 0, len := 0, path := [] }).queue)).pkts.head?).getD (pkd 0 0)), (((quar (eq [pkd 1 0, pkd 2 0]) : Dev).queue (nQ + (((quar (eq [pkd 1 0, pkd 2 0]) : Dev).choose 5).getD { dev := (quar (eq [pkd 1 0, pkd 2 0]) : Dev), queue := 0, len := 0, path := [] }).queue)).pkts.tail), by decide +kernel, the (by decide +kernel)⟩⟩

/-- Meets the hypotheses of `QueuesAreServed` (its part SweepTakesStragglers). -/
theorem witness_SweepTakesStragglers :
    (∃ s : State, (∀ e ∈ s.tm.queues, ∀ k ∈ e.2.pkts, s.quarantined k.ticket.epoch.toNat = false)) ∧
    (∃ s : State, ∃ q : Nat, ∃ k : Pkt, ∃ l : List Pkt, ∃ r : List Pkt, s.busyQueues = [q] ∧ (s.queue q).pkts = l ++ k :: r ∧ s.quarantined k.ticket.epoch.toNat = true ∧ (∀ k ∈ l ++ r, s.quarantined k.ticket.epoch.toNat = false) ∧ (l ++ r ≠ [] ∨ (s.queue q).link = linkTerm k.head)) :=
  ⟨⟨(S tmD), by decide +kernel⟩,
   ⟨(S (quar (qd 1041 [pkd 1 0, ep 1 (pkd 2 0)]))), 1041, (pkd 1 0), [], [ep 1 (pkd 2 0)], by decide +kernel⟩⟩

/-- Meets the hypotheses of `CreditsAndReplicas` (its part CreditMoves). -/
theorem witness_CreditMoves :
    (∃ s : State, ∃ p : Fin 256, ((s.gen p).running = false ∨ s.stopped = true)) ∧
    (∃ s : State, ∃ p : Fin 256, s.draining p = false ∧ s.portUp p = true ∧ s.grantDue p false = false) ∧
    (∃ s : State, ∃ p : Fin 256, ∃ e : Nat × Nat, s.draining p = true ∧ s.stopped = false ∧ s.grantDue p true = true ∧ s.requesters p 0 = [e]) ∧
    (∃ s : State, ∃ p : Fin 256, ∃ e : Nat × Nat, (s.gen p).running = true ∧ s.stopped = false ∧ s.portUp p = true ∧ s.grantDue p false = true ∧ s.requesters p 0 = [e] ∧ s.classBufs p 0 < wfld (s.obj bSCH 5 p) 0 0 20 ∧ (e.1 = s.devId → (s.queue e.2).pkts ≠ [] ∧ s.voqDest e.2 ≠ none)) ∧
    (∃ s : State, ∃ voq : BitVec 17, ∃ v : Nat, v = voq.toNat ∧ ((s.queue v).pkts = [] ∨ s.voqDest v = none)) ∧
    (∃ s : State, ∃ voq : BitVec 17, ∃ v : Nat, v = voq.toNat ∧ (s.queue v).pkts ≠ [] ∧ s.voqDest v ≠ none) ∧
    (∃ s : State, ∃ voq : BitVec 17, ∃ v : Nat, v = voq.toNat ∧ (s.queue v).pkts = []) ∧
    (∃ s : State, ∃ p : Fin 256, ∃ voq : BitVec 17, ∃ x : Nat, ∃ c : Nat, ∃ v : Nat, v = voq.toNat ∧ (s.queue v).pkts ≠ [] ∧ s.voqDest v = some (x, p.val, c) ∧ x ≠ s.devId) :=
  ⟨⟨(S (tmD : Dev)), 5, by decide +kernel⟩,
   ⟨(S (tmD : Dev)), 5, by decide +kernel⟩,
   ⟨(S drains), 5, (0, 1040), by decide +kernel⟩,
   ⟨(S (paced (gn g1 (qd 1040 [{ pkd 1 1040 with ticket := { tkt 1040 with tc := 0 } }])))), 5, (0, 1040), by decide +kernel⟩,
   ⟨(S (tmD : Dev)), 0, the (by decide +kernel)⟩,
   ⟨(S (gn g1 (qd 1040 [{ pkd 1 1040 with ticket := { tkt 1040 with tc := 0 } }]) : Dev)), (BitVec.ofNat 17 1040), the (by decide +kernel)⟩,
   ⟨(S (tmD : Dev)), 0, the (by decide +kernel)⟩,
   ⟨(S (gn g1 (qd 3045 [pkd 1 1040]) : Dev)), 5, (BitVec.ofNat 17 3045), (((gn g1 (qd 3045 [pkd 1 1040]) : Dev).voqDest 3045).map (fun x => x.1) |>.getD 0), (((gn g1 (qd 3045 [pkd 1 1040]) : Dev).voqDest 3045).map (fun x => x.2.2) |>.getD 0), the (by decide +kernel)⟩⟩

/-- Meets the hypotheses of `CreditsAndReplicas` (its part ReplicasMade). -/
theorem witness_ReplicasMade :
    (∃ s : State, s.tm.repl = []) ∧
    (∃ s : State, ∃ j : ReplJob, ∃ c : Chain, (s.tm.repl = [j] ∧ s.ptrBad j.pkt.head true = none ∧ s.chain? j.pkt.head = some c ∧ c.owners = [0] ∧ j.count = 1) ∧ ∃ e : List W32, e = mget [0, 0] s.tbl.pool j.base ∧ bit (word e 0) 31 = false) ∧
    (∃ s : State, ∃ j : ReplJob, ∃ c : Chain, (s.tm.repl = [j] ∧ s.ptrBad j.pkt.head true = none ∧ s.chain? j.pkt.head = some c ∧ c.owners = [0] ∧ j.count = 1) ∧ ∃ e : List W32, e = mget [0, 0] s.tbl.pool j.base ∧ ∃ port : Nat, port = wfld e 0 17 8 ∧ ∃ tc : Nat, tc = j.pkt.ticket.tc.toNat ∧ ∃ q : Nat, q = s.eqOf (if bit (word e 0) 30 then some (wfld e 0 0 17) else none) port tc ∧ bit (word e 0) 31 = true ∧ s.attached q port = false) ∧
    (∃ s : State, ∃ j : ReplJob, ∃ c : Chain, (s.tm.repl = [j] ∧ s.ptrBad j.pkt.head true = none ∧ s.chain? j.pkt.head = some c ∧ c.owners = [0] ∧ j.count = 1) ∧ ∃ e : List W32, e = mget [0, 0] s.tbl.pool j.base ∧ ∃ port : Nat, port = wfld e 0 17 8 ∧ ∃ tc : Nat, tc = j.pkt.ticket.tc.toNat ∧ ∃ q : Nat, q = s.eqOf (if bit (word e 0) 30 then some (wfld e 0 0 17) else none) port tc ∧ bit (word e 0) 31 = true ∧ s.attached q port = true ∧ s.portDiscards port = false ∧ Roomy s.toDev (nQ + q) j.pkt.ticket.colour.toNat) :=
  ⟨⟨(S (tmD : Dev)), by decide +kernel⟩,
   ⟨(S (jb tmD false : Dev)), ((jb tmD false : Dev).tm.repl.headD { pkt := pkd 1 0, base := 0, count := 0 }), ({ bufs := [ptrOnDie 1], owners := [0] }), by decide +kernel, the (by decide +kernel)⟩,
   ⟨(S (jb tmD true 6 : Dev)), ((jb tmD true 6 : Dev).tm.repl.headD { pkt := pkd 1 0, base := 0, count := 0 }), ({ bufs := [ptrOnDie 1], owners := [0] }), by decide +kernel, the (the (the (the (by decide +kernel))))⟩,
   ⟨(S (jb : Dev)), ((jb : Dev).tm.repl.headD { pkt := pkd 1 0, base := 0, count := 0 }), ({ bufs := [ptrOnDie 1], owners := [0] }), by decide +kernel, the (the (the (the (by decide +kernel))))⟩⟩

end W15

namespace W16

def fb (d : Dev := tmD) : Dev := { d with variant := .a }.wf Reg.FAB_CFG 0 0 0 2 1
def hdr (ver kind tc : Nat) (start : Bool) (frm : Nat) (src lane len seq xs : Nat) (lastlen : Bool := false): List W32 := [at_ 30 2 ver ||| at_ 28 2 kind ||| at_ 25 3 tc ||| atB 24 start ||| at_ 16 8 frm, at_ 18 14 src ||| at_ 9 9 lane ||| at_ 0 9 len, at_ 24 8 seq ||| at_ 21 3 xs ||| atB 16 lastlen]
def crcOf (ws : List W32) (pl : List Byte) : W32 := crc32c ((ws.flatMap fun w => beBytes 4 w.toNat) ++ pl)
def kx : Nat := (77 * 512 + 9) * 4 + streamOf 0 3
def cx (x : Reasm) (d : Dev := fb) : Dev := d.setR kx x
def notab (d : Dev) : Dev := { d with variant := .s }
def up (l : Nat) (d : Dev := fb) : Dev := d.wf Reg.FAB_LANE_INSVC 0 (l / 32) (l % 32) 1 1
def hl (d : Dev) : Dev := { d with tm := { d.tm with holds := [{ entry := 7, lane := 7, epoch := 0 }, { entry := 7, lane := 9, epoch := 0 }], badSlots := [(7, 2)], maps := [(7 * 256 + 3, 5), (9 * 256, 6), (7*256, 8)], reachable := [1, 2, 3] }, cue := { d.cue with houseFab := [(0, 2)] } }
def pn (e : PinEnt) (d : Dev := hl (up 7 (up 9))) : Dev := d.setPin 7 e
def c01 (x : Reasm) : Dev := fb.setR 4 x
def rx3 : Reasm := { seq := 4, active := true, counted := some 2, bytes := [1, 2, 3] }
def h1 (ver kind tc : Nat) (start : Bool) (frm len seq : Nat) : List W32 := hdr ver kind tc start frm 77 9 len seq 0
def whole : List Byte := (({ tkt 3045 with epoch := 6, frameLen := 204, dst := at_ 18 14 0 ||| at_ 10 8 5 } : Ticket).form 0) ++ bs 60
def hs : List W32 := h1 1 0 3 true 0 92 5
def msgsOf (m : List W32) : List W32 := m ++ List.replicate (64 - m.length) 0
def slot3 (m : List W32) : W32 := crc32c (([at_ 28 4 12, 1, 0] ++ msgsOf m).flatMap fun w => beBytes 4 w.toNat)

/-- Meets the hypotheses of `FabricCells` (its part CellsReassembled). -/
theorem witness_CellsReassembled :
    (∃ s : State, (s.variant.hasFab = false ∨ s.stopped = true)) ∧
    (∃ s : State, ∃ w0 : W32, s.variant.hasFab = true ∧ s.stopped = false ∧ fld w0 30 2 = 0) ∧
    (∃ s : State, ∃ w0 : W32, ∃ w1 : W32, ∃ w2 : W32, ∃ crc : W32, ∃ pl : List Byte, ∃ key : Nat, key = cellKey w0 w1 ∧ ∃ data : List Byte, data = slice pl 0 (fld w1 0 9) ∧ ∃ sum : W32, (sum = crc32c (([w0, w1, w2].flatMap fun w => beBytes 4 w.toNat) ++ data)) ∧ s.variant.hasFab = true ∧ s.stopped = false ∧ fld w0 30 2 = 1 ∧ fld w0 28 2 < 2 ∧ sum ≠ crc ∧ s.ctxR key = none) ∧
    (∃ s : State, ∃ w0 : W32, ∃ w1 : W32, ∃ w2 : W32, ∃ crc : W32, ∃ pl : List Byte, ∃ x : Reasm, ∃ key : Nat, key = cellKey w0 w1 ∧ ∃ data : List Byte, data = slice pl 0 (fld w1 0 9) ∧ ∃ sum : W32, (sum = crc32c (([w0, w1, w2].flatMap fun w => beBytes 4 w.toNat) ++ data)) ∧ s.variant.hasFab = true ∧ s.stopped = false ∧ fld w0 30 2 = 1 ∧ fld w0 28 2 < 2 ∧ sum ≠ crc ∧ s.ctxR key = some x ∧ x.active = true ∧ (∀ a ∈ s.tm.arriving, a.key ≠ some key)) ∧
    (∃ s : State, ∃ w0 : W32, ∃ w1 : W32, ∃ w2 : W32, ∃ crc : W32, ∃ pl : List Byte, ∃ x : Reasm, ∃ key : Nat, key = cellKey w0 w1 ∧ ∃ seq : Nat, seq = fld w2 24 8 ∧ ∃ data : List Byte, data = slice pl 0 (fld w1 0 9) ∧ ∃ sum : W32, (sum = crc32c (([w0, w1, w2].flatMap fun w => beBytes 4 w.toNat) ++ data)) ∧ (s.variant.hasFab = true ∧ s.stopped = false ∧ fld w0 30 2 = 1 ∧ fld w0 28 2 < 2 ∧ sum = crc ∧ bit w2 16 = false) ∧ ∃ b bs, data.drop (fld w0 16 8) = b :: bs ∧ (s.ctxR key = none ∨ (s.ctxR key = some x ∧ (x.skip = true ∨ x.active = false) ∧ (x.seq + 1) % 256 = seq)) ∧ bit w0 24 = true ∧ fld w2 21 3 = (s.xsize - 32) / 8 ∧ (s.tm.reasm.filter fun e => e.2.active).length < 65536 ∧ bs.length + 1 < s.xsize) ∧
    (∃ s : State, ∃ w0 : W32, ∃ w1 : W32, ∃ w2 : W32, ∃ crc : W32, ∃ pl : List Byte, ∃ x : Reasm, ∃ key : Nat, key = cellKey w0 w1 ∧ ∃ seq : Nat, seq = fld w2 24 8 ∧ ∃ data : List Byte, data = slice pl 0 (fld w1 0 9) ∧ ∃ sum : W32, (sum = crc32c (([w0, w1, w2].flatMap fun w => beBytes 4 w.toNat) ++ data)) ∧ (s.variant.hasFab = true ∧ s.stopped = false ∧ fld w0 30 2 = 1 ∧ fld w0 28 2 < 2 ∧ sum = crc ∧ bit w2 16 = false) ∧ ∃ b bs, data.drop (fld w0 16 8) = b :: bs ∧ ((s.ctxR key = none ∨ (s.ctxR key = some x ∧ (x.skip = true ∨ x.active = false) ∧ (x.seq + 1) % 256 = seq)) ∧ bit w0 24 = true ∧ fld w2 21 3 = (s.xsize - 32) / 8 ∧ (s.tm.reasm.filter fun e => e.2.active).length < 65536) ∧ ∃ k, k = ticketOf s.carried (b :: bs) ∧ ∃ f, s.fabStale k.epoch.toNat = some f ∧ s.xsize ≤ bs.length + 1 ∧ k.frameLen ≠ 0 ∧ bs.length + 1 < s.xsize + k.frameLen.toNat - 4) ∧
    (∃ s : State, ∃ w0 : W32, ∃ w1 : W32, ∃ w2 : W32, ∃ crc : W32, ∃ pl : List Byte, ∃ x : Reasm, ∃ key : Nat, key = cellKey w0 w1 ∧ ∃ seq : Nat, seq = fld w2 24 8 ∧ ∃ data : List Byte, data = slice pl 0 (fld w1 0 9) ∧ ∃ sum : W32, (sum = crc32c (([w0, w1, w2].flatMap fun w => beBytes 4 w.toNat) ++ data)) ∧ s.variant.hasFab = true ∧ s.stopped = false ∧ fld w0 30 2 = 1 ∧ fld w0 28 2 < 2 ∧ sum = crc ∧ bit w2 16 = false ∧ s.ctxR key = some x ∧ x.active = true ∧ x.skip = false ∧ x.counted ≠ none ∧ x.bytes ≠ [] ∧ x.xs = (s.xsize - 32) / 8 ∧ (x.seq + 1) % 256 = seq ∧ (x.bytes ++ data).length < s.xsize) ∧
    (∃ s : State, ∃ w0 : W32, ∃ w1 : W32, ∃ w2 : W32, ∃ crc : W32, ∃ pl : List Byte, ∃ x : Reasm, ∃ key : Nat, key = cellKey w0 w1 ∧ ∃ seq : Nat, seq = fld w2 24 8 ∧ ∃ data : List Byte, data = slice pl 0 (fld w1 0 9) ∧ ∃ sum : W32, (sum = crc32c (([w0, w1, w2].flatMap fun w => beBytes 4 w.toNat) ++ data)) ∧ s.variant.hasFab = true ∧ s.stopped = false ∧ fld w0 30 2 = 1 ∧ fld w0 28 2 < 2 ∧ sum = crc ∧ bit w2 16 = false ∧ s.ctxR key = some x ∧ x.active = true ∧ (x.seq + 1) % 256 ≠ seq ∧ bit w0 24 = false ∧ (∀ a ∈ s.tm.arriving, a.key ≠ some key)) ∧
    (∃ s : State, ∃ w0 : W32, ∃ w1 : W32, ∃ x : Reasm, ∃ key : Nat, key = cellKey w0 w1 ∧ ∃ src : BitVec 14, ∃ lane : BitVec 9, ∃ st : Fin 4, key = (src.toNat * 512 + lane.toNat) * 4 + st ∧ s.ctxR key = some x ∧ x.active = true ∧ (∀ a ∈ s.tm.arriving, a.key ≠ some key)) ∧
    (∃ s : State, ∃ w0 : W32, ∃ w1 : W32, ∃ key : Nat, key = cellKey w0 w1 ∧ ∃ src : BitVec 14, ∃ lane : BitVec 9, ∃ st : Fin 4, key = (src.toNat * 512 + lane.toNat) * 4 + st ∧ (∀ x, s.ctxR key = some x → x.active = false)) :=
  ⟨⟨(S (notab fb : Dev)), by decide +kernel⟩,
   ⟨(S (fb : Dev)), (word (hdr 0 0 3 false 0 77 9 20 5 0) 0), by decide +kernel⟩,
   ⟨(S fb), (at_ 30 2 1 ||| at_ 25 3 3), (at_ 18 14 77 ||| at_ 9 9 9), 0, 0, [], the (the (the (by decide +kernel)))⟩,
   ⟨(S (cx rx3)), (word (h1 1 0 3 false 0 20 5) 0), (word (h1 1 0 3 false 0 20 5) 1), (word (h1 1 0 3 false 0 20 5) 2), 3, (bs 60), rx3, the (the (the (by decide +kernel)))⟩,
   ⟨(S (fb : Dev)), (word (hdr 1 0 3 true 4 77 9 20 5 0) 0), (word (hdr 1 0 3 true 4 77 9 20 5 0) 1), (word (hdr 1 0 3 true 4 77 9 20 5 0) 2), (if true then crcOf (hdr 1 0 3 true 4 77 9 20 5 0) (slice (bs 60) 0 (fld (word (hdr 1 0 3 true 4 77 9 20 5 0) 1) 0 9)) else 3), (bs 60), { seq := 0 }, the (the (the (the ⟨by decide +kernel, gotCons (by decide +kernel) (by decide +kernel)⟩)))⟩,
   ⟨(S fb), (word hs 0), (word hs 1), (word hs 2), (crcOf hs whole), whole, rx3, the (the (the (the ⟨by decide +kernel, gotCons (by decide +kernel) ⟨by decide +kernel, the (got (by decide +kernel) (by decide +kernel))⟩⟩)))⟩,
   ⟨(S (cx rx3)), (word (h1 1 0 3 false 0 20 5) 0), (word (h1 1 0 3 false 0 20 5) 1), (word (h1 1 0 3 false 0 20 5) 2), (crcOf (h1 1 0 3 false 0 20 5) (bs 20)), (bs 60), rx3, the (the (the (the (by decide +kernel))))⟩,
   ⟨(S (cx { seq := 4, active := true, bytes := [1,2,3] } : Dev)), (word (hdr 1 0 3 false 4 77 9 8 6 0) 0), (word (hdr 1 0 3 false 4 77 9 8 6 0) 1), (word (hdr 1 0 3 false 4 77 9 8 6 0) 2), (if true then crcOf (hdr 1 0 3 false 4 77 9 8 6 0) (slice (bs 60) 0 (fld (word (hdr 1 0 3 false 4 77 9 8 6 0) 1) 0 9)) else 3), (bs 60), (((cx { seq := 4, active := true, bytes := [1,2,3] } : Dev).ctxR kx).getD { seq := 0 }), the (the (the (the (by decide +kernel))))⟩,
   ⟨(S (cx { seq := 4, active := true, bytes := [1,2,3] } : Dev)), (word (hdr 1 0 3 false 0 77 9 20 5 0) 0), (word (hdr 1 0 3 false 0 77 9 20 5 0) 1), (((cx { seq := 4, active := true, bytes := [1,2,3] } : Dev).ctxR kx).getD { seq := 0 }), the ⟨77, ⟨9, ⟨(Fin.ofNat 4 (streamOf 0 3)), by decide +kernel⟩⟩⟩⟩,
   ⟨(S (notab fb : Dev)), (word (hdr 1 0 3 false 0 77 9 20 5 0) 0), (word (hdr 1 0 3 false 0 77 9 20 5 0) 1), the ⟨77, ⟨9, ⟨(Fin.ofNat 4 (streamOf 0 3)), ⟨by decide +kernel, held (by decide +kernel)⟩⟩⟩⟩⟩⟩

/-- Meets the hypotheses of `FabricCells` (its part LanesServe). -/
theorem witness_LanesServe :
    (∃ s : State, ∃ w0 : W32, ∃ w1 : W32, ∃ w2 : W32, ∃ w3 : W32, ∃ msgs : List W32, s.variant.hasFab = true ∧ slotOk w0 w1 w2 w3 msgs = true ∧ bit w1 0 = true ∧ msgs = List.replicate 64 0) ∧
    (∃ s : State, ∃ w0 : W32, ∃ w1 : W32, ∃ w2 : W32, ∃ w3 : W32, ∃ msgs : List W32, ∃ m : List W32, s.variant.hasFab = true ∧ slotOk w0 w1 w2 w3 msgs = true ∧ bit w1 0 = true ∧ msgs = m ++ List.replicate 60 0 ∧ m.length = 4 ∧ 5 ≤ wfld m 0 28 4) ∧
    (∃ s : State, ∃ w0 : W32, ∃ w1 : W32, ∃ w2 : W32, ∃ w3 : W32, ∃ msgs : List W32, ∃ m : List W32, s.variant.hasFab = true ∧ slotOk w0 w1 w2 w3 msgs = true ∧ bit w1 0 = true ∧ msgs = m ++ List.replicate 60 0 ∧ m.length = 4 ∧ wfld m 0 28 4 = 2 ∧ wfld m 0 0 14 = s.devId) ∧
    (∃ s : State, ∃ w0 : W32, ∃ w1 : W32, ∃ w2 : W32, ∃ w3 : W32, ∃ msgs : List W32, ∃ m : List W32, s.variant.hasFab = true ∧ slotOk w0 w1 w2 w3 msgs = true ∧ bit w1 0 = true ∧ msgs = m ++ List.replicate 60 0 ∧ m.length = 4 ∧ 1 ≤ wfld m 0 28 4 ∧ wfld m 0 28 4 ≤ 3 ∧ wfld m 0 0 14 ≠ s.devId) ∧
    (∃ s : State, ∃ l : Fin 320, ∃ w0 : W32, ∃ w1 : W32, ∃ w2 : W32, ∃ w3 : W32, ∃ msgs : List W32, s.variant.hasFab = true ∧ slotOk w0 w1 w2 w3 msgs = false ∧ mget 0 s.tm.badSlots l < 2) ∧
    (∃ s : State, ∃ l : Fin 320, ∃ w0 : W32, ∃ w1 : W32, ∃ w2 : W32, ∃ w3 : W32, ∃ msgs : List W32, (s.variant.hasFab = true ∧ s.laneUp l = true) ∧ ∃ i : Instr, (i = .fabricLaneFailure l .lock ∨ i = .fabricLaneFailure l .highSer ∨ (i = .fabricLaneFailure l .missedSlot ∧ 2 ≤ mget 0 s.tm.badSlots l) ∨ (i = .controlSlotReceive l ⟨w0, w1, w2⟩ w3 msgs ∧ slotOk w0 w1 w2 w3 msgs = true ∧ bit w1 0 = false ∧ msgs = List.replicate 64 0) ∨ (i = .controlSlotReceive l ⟨w0, w1, w2⟩ w3 msgs ∧ slotOk w0 w1 w2 w3 msgs = false ∧ 2 ≤ mget 0 s.tm.badSlots l))) ∧
    (∃ s : State, ∃ l : Fin 320, s.variant.hasFab = true ∧ mget 0 s.tm.badSlots l < 2) ∧
    (∃ s : State, ∃ l : Fin 320, s.variant.hasFab = true ∧ (s.laneUp l = true ∨ s.mayServe l = false)) ∧
    (∃ s : State, ∃ l : Fin 320, s.variant.hasFab = true ∧ s.laneUp l = false ∧ s.mayServe l = true) :=
  ⟨⟨(S fb), (at_ 28 4 12), 1, 0, (slot3 []), (List.replicate 64 0), by decide +kernel⟩,
   ⟨(S fb), (at_ 28 4 12), 1, 0, (slot3 [at_ 28 4 9, 0, 0, 0]), (msgsOf [at_ 28 4 9, 0, 0, 0]), [at_ 28 4 9, 0, 0, 0], by decide +kernel⟩,
   ⟨(S fb), (at_ 28 4 12), 1, 0, (slot3 [at_ 28 4 2, 0, 5, 0]), (msgsOf [at_ 28 4 2, 0, 5, 0]), [at_ 28 4 2, 0, 5, 0], by decide +kernel⟩,
   ⟨(S fb), (at_ 28 4 12), 1, 0, (slot3 [at_ 28 4 1 ||| 3, 0, 0, 0]), (msgsOf [at_ 28 4 1 ||| 3, 0, 0, 0]), [at_ 28 4 1 ||| 3, 0, 0, 0], by decide +kernel⟩,
   ⟨(S (fb : Dev)), 7, 0, 0, 0, 0, [], by decide +kernel⟩,
   ⟨(S ((up 7) : Dev)), 7, 0, 0, 0, 0, [], by decide +kernel, ⟨(.fabricLaneFailure 7 .lock), by decide +kernel⟩⟩,
   ⟨(S (fb : Dev)), 7, by decide +kernel⟩,
   ⟨(S ((up 7) : Dev)), 7, by decide +kernel⟩,
   ⟨(S (fb : Dev)), 7, by decide +kernel⟩⟩

/-- Meets the hypotheses of `FabricCells` (its part ReachabilityFollowsMaps). -/
theorem witness_ReachabilityFollowsMaps : ∃ s : State, ∃ l : Fin 320, ∃ c : Byte, ∃ map : W64, ∃ i : Instr, ∃ m : List (Nat × W64), s.variant.hasFab = true ∧ ((i = .reachability l c map ∧ m = mset 0#64 s.tm.maps (l.val * 256 + c.toNat) map) ∨ (i = .reachabilityMapExpiry l c ∧ m = merase s.tm.maps (l.val * 256 + c.toNat))) :=
  ⟨(S ((hl (up 7 (up 9))) : Dev)), (Fin.ofNat 320 9), (BitVec.ofNat 8 0), 1, (Instr.reachability (Fin.ofNat 320 9) (BitVec.ofNat 8 0) 1), (mset 0#64 ((hl (up 7 (up 9))) : Dev).tm.maps (9 * 256 + 0) 1), by decide +kernel⟩

/-- Meets the hypotheses of `PinsAndFabricConfiguration` (its part PinsMove). -/
theorem witness_PinsMove :
    (∃ s : State, ∃ h : Fin 4096, (∀ x ∈ s.tm.holds, x.entry ≠ h.val)) ∧
    (∃ s : State, ∃ h : Fin 4096, ∃ x : FabHold, s.tm.holds.find? (fun x => x.entry == h.val) = some x) ∧
    (∃ s : State, ∃ h : Fin 4096, ((s.pin h).held = false ∨ (s.pin h).inflight ≠ 0)) ∧
    (∃ s : State, ∃ h : Fin 4096, ∃ l : Nat, (s.pin h).held = true ∧ (s.pin h).inflight = 0 ∧ (s.pin h).target = some l) ∧
    (∃ s : State, ∃ h : Fin 4096, ∃ l : Nat, (s.pin h).held = true ∧ (s.pin h).inflight = 0 ∧ (s.pin h).target = none ∧ s.altLane (s.pin h) = some l) ∧
    (∃ s : State, ∃ h : Fin 4096, (s.pin h).held = true ∧ (s.pin h).target ≠ none ∧ (s.pin h).inflight ≠ 0) ∧
    (∃ s : State, ∃ h : Fin 4096, ((s.pin h).held = false ∨ (s.pin h).target = none ∨ (s.pin h).inflight = 0)) ∧
    (∃ s : State, ∃ q : Req, Reached s.toDev q Reg.FAB_PIN_MOVE 0 0) ∧
    (∃ s : State, ∃ q : Req, ∃ n : BitVec 9, Reached s.toDev q Reg.FAB_PIN_FORCE 0 0 ∧ s.arming.get q = true ∧ n.toNat < 320) :=
  ⟨⟨(S (fb : Dev)), 7, by decide +kernel⟩,
   ⟨(S (hl fb : Dev)), 7, ((hl fb : Dev).tm.holds.headD { entry := 7, lane := 7, epoch := 0 }), by decide +kernel⟩,
   ⟨(S (fb : Dev)), 7, by decide +kernel⟩,
   ⟨(S (pn { lane := 7, alt := 9, inflight := 0, held := true, target := some 9 } : Dev)), 7, (((pn { lane := 7, alt := 9, inflight := 0, held := true, target := some 9 } : Dev).altLane ((pn { lane := 7, alt := 9, inflight := 0, held := true, target := some 9 } : Dev).pin 7)).getD 0), by decide +kernel⟩,
   ⟨(S (pn { lane := 7, alt := 9, inflight := 0, held := true } : Dev)), 7, (((pn { lane := 7, alt := 9, inflight := 0, held := true } : Dev).altLane ((pn { lane := 7, alt := 9, inflight := 0, held := true } : Dev).pin 7)).getD 0), by decide +kernel⟩,
   ⟨(S (pn { lane := 7, alt := 9, inflight := 2, held := true, target := some 9 } : Dev)), 7, by decide +kernel⟩,
   ⟨(S (fb : Dev)), 7, by decide +kernel⟩,
   ⟨(S (fb : Dev)), (.host), by decide +kernel⟩,
   ⟨(S (fb : Dev)), (.host), 0, by decide +kernel⟩⟩

/-- Meets the hypotheses of `PinsAndFabricConfiguration` (its part FabricConfiguration). -/
theorem witness_FabricConfiguration :
    (∃ s : State, ∃ q : Req, Reached s.toDev q Reg.TOP_DEVICE_ID 0 0 ∧ s.arming.get q = true ∧ s.rf Reg.FAB_CFG 0 0 0 2 = 0) ∧
    (∃ s : State, ∃ q : Req, Reached s.toDev q Reg.TOP_DEVICE_ID 0 0 ∧ s.arming.get q = true ∧ (s.rf Reg.FAB_CFG 0 0 0 2 = 1 ∨ s.rf Reg.FAB_CFG 0 0 0 2 = 2)) ∧
    (∃ s : State, ∃ q : Req, Reached s.toDev q Reg.FAB_CFG 0 0 ∧ s.anyLane = false) ∧
    (∃ s : State, ∃ q : Req, Reached s.toDev q Reg.FAB_CFG 0 0 ∧ s.anyLane = true) :=
  ⟨⟨(S (D0 : Dev)), (.host), by decide +kernel⟩,
   ⟨(S (fb : Dev)), (.host), by decide +kernel⟩,
   ⟨(S (D0 : Dev)), (.host), by decide +kernel⟩,
   ⟨(S (up 7 : Dev)), (.host), by decide +kernel⟩⟩

end W16

namespace W17

def stt (k st : Nat) (d : Dev := D0) : Dev := d.wf Reg.HBM_STACK_STATUS 0 k 0 3 st
def mems (d : Dev) : Dev := { d with hbm := { d.hbm with mem := [(5, 1), (2 * 2 ^ 34 + 7, 3), (3 * 2 ^ 34, 4)] } }
def good : List HLane := List.replicate 256 { rd := 3, wr := 4, rr := 60, wrr := 60 }
def bad : List HLane := good.set 200 { rd := 3, wr := 4, rr := 6, wrr := 60 }
def pg (d : Dev) : Dev := { d with hbm := { d.hbm with rows := [(bankKey 2 3 4, 9)] } }
def seen (d : Dev) : Dev := { d with hbm := { d.hbm with seen := List.range 8 } }.wg Reg.HBM_THERM 0 0 (at_ 0 8 40 ||| at_ 8 8 50 ||| at_ 16 8 60 ||| at_ 24 4 3) |>.wg Reg.PWR_THERM 0 0 0
def gl (d : Dev) : Dev := { d with pwr := { d.pwr with goal := [(22, true)] } }.wf Reg.PWR_PD_CTRL 0 0 22 1 1
def win (en : Nat) (k : Nat) (a : Nat) (d : Dev := stt 2 4) : Dev := ((((mems d).wg Reg.BPM_HBM_REGION 0 2 (at_ 0 7 20 ||| at_ 8 7 60)).wg Reg.PCI_WIN_CTRL 0 1 (w32 (en + 4 * k))).wg Reg.PCI_WIN_BASE_LO 0 1 (w32 (a % 2 ^ 32))).wg Reg.PCI_WIN_BASE_HI 0 1 (w32 (a / 2 ^ 32))
def own (d : Dev) : Dev := d.setSettings [{ type := 3, fmt := 0, key := 2, seq := 1, data := slice (Config.unitBytes 10) 0 8 ++ List.replicate 520 0 }]
theorem own_record : (S (mems (own (stt 2 3)))).trainRecord 2 = some (List.replicate 512 0) := by
  have h : (S (mems (own (stt 2 3)))).setting? 3 0 2 = some { type := 3, fmt := 0, key := 2, seq := 1, data := slice (Config.unitBytes 10) 0 8 ++ List.replicate 520 0 } := rfl
  have hl : (slice (Config.unitBytes 10) 0 8).length = 8 := by simp only [slice, List.length_append, List.length_replicate, List.length_take]; omega
  have ht : (slice (Config.unitBytes 10) 0 8 ++ List.replicate 520 (0 : Byte)).take 8 = slice (Config.unitBytes 10) 0 8 := by rw [List.take_append_of_le_length (by omega), List.take_of_length_le (by omega)]
  have hd : (slice (Config.unitBytes 10) 0 8 ++ List.replicate 520 (0 : Byte)).drop 16 = List.replicate 512 0 := by rw [List.drop_append, hl, List.drop_eq_nil_of_le (by omega)]; rfl
  have hn : (slice (Config.unitBytes 10) 0 8 ++ List.replicate 520 (0 : Byte)).length = 528 := by rw [List.length_append, hl, List.length_replicate]
  unfold Dev.trainRecord
  rw [h]
  dsimp only
  rw [ht, hn, hd]
  rw [if_pos (by rw [beq_self_eq_true]; rfl)]

/-- Meets the hypotheses of `HbmTrainingAndUpkeep` (its part HbmTraining). -/
theorem witness_HbmTraining :
    (∃ s : State, ∃ q : Req, ∃ k : Fin 8, ∃ save : Bool, (Reached s.toDev q Reg.HBM_STACK_CTRL 0 k ∧ s.stackState k ≠ 1 ∧ s.stackState k ≠ 5) ∧ ∃ i : Instr, (i = .hbmTrain q k save ∨ i = .fullSweep q k save)) ∧
    (∃ s : State, ∃ q : Req, ∃ k : Fin 8, Reached s.toDev q Reg.HBM_STACK_CTRL 0 k ∧ (s.stackState k = 1 ∨ s.stackState k = 5)) ∧
    (∃ s : State, ∃ q : Req, ∃ k : Fin 8, Reached s.toDev q Reg.HBM_STACK_CTRL 0 k ∧ (s.stackState k = 4 ∨ s.stackState k = 5) ∧ s.spillEn = false) ∧
    (∃ s : State, ∃ q : Req, ∃ k : Fin 8, Reached s.toDev q Reg.HBM_STACK_CTRL 0 k ∧ ((s.stackState k ≠ 4 ∧ s.stackState k ≠ 5) ∨ s.spillEn = true)) ∧
    (∃ s : State, ∃ k : Fin 8, s.stackState k ≠ 2) ∧
    (∃ s : State, ∃ k : Fin 8, ∃ ls : List HLane, s.stackState k = 2 ∧ ls.length = 256 ∧ (∀ x ∈ ls, x.narrow = false)) ∧
    (∃ s : State, ∃ k : Fin 8, ∃ ls : List HLane, s.stackState k = 2 ∧ ls.length = 256 ∧ (∃ x ∈ ls, x.narrow = true)) ∧
    (∃ s : State, ∃ k : Fin 8, s.stackState k ≠ 3) ∧
    (∃ s : State, ∃ k : Fin 8, ∃ failing : BitVec 64, s.stackState k = 3 ∧ ∃ rec, s.trainRecord k = some rec ∧ failing ≠ 0) :=
  ⟨⟨(S ((mems (stt 2 0)) : Dev)), (.host), 2, true, by decide +kernel, ⟨(.hbmTrain ((.host)) 2 true), by decide +kernel⟩⟩,
   ⟨(S ((mems (stt 2 1)) : Dev)), (.host), 2, by decide +kernel⟩,
   ⟨(S ((mems (stt 2 4)) : Dev)), (.host), 2, by decide +kernel⟩,
   ⟨(S ((mems (stt 2 0)) : Dev)), (.host), 2, by decide +kernel⟩,
   ⟨(S ((mems (stt 2 0)) : Dev)), 2, by decide +kernel⟩,
   ⟨(S ((mems (stt 2 2)) : Dev)), 2, good, by decide +kernel⟩,
   ⟨(S ((mems (stt 2 2)) : Dev)), 2, bad, by decide +kernel⟩,
   ⟨(S ((mems (stt 2 0)) : Dev)), 2, by decide +kernel⟩,
   ⟨(S (mems (own (stt 2 3)))), 2, 5, by decide +kernel, _, own_record, by decide +kernel⟩⟩

/-- Meets the hypotheses of `HbmTrainingAndUpkeep` (its part HbmUpkeep). -/
theorem witness_HbmUpkeep :
    (∃ s : State, ∃ k : Fin 8, s.stackState k ≠ 4) ∧
    (∃ s : State, ∃ k : Fin 8, s.stackState k = 4) ∧
    (∃ s : State, ∃ k : Fin 8, s.stackState k = 0) ∧
    (∃ s : State, ∃ k : Fin 8, s.stackState k ≠ 0) ∧
    (∃ s : State, ∃ q : Req, ∃ v : W32, Reached s.toDev q Reg.HBM_THERM 0 0 ∧ fld v 0 8 < fld v 8 8 ∧ fld v 8 8 < fld v 16 8) ∧
    (∃ s : State, ∃ q : Req, ∃ v : W32, Reached s.toDev q Reg.HBM_THERM 0 0 ∧ (fld v 8 8 ≤ fld v 0 8 ∨ fld v 16 8 ≤ fld v 8 8)) ∧
    (∃ s : State, ∃ k : Fin 8, (bit (s.rg Reg.HBM_SCRUB 0 0) 0 = false ∨ s.stackServes k = false)) ∧
    (∃ s : State, ∃ k : Fin 8, ∃ o : BitVec 30, bit (s.rg Reg.HBM_SCRUB 0 0) 0 = true ∧ s.stackServes k = true ∧ o.toNat < 0x30000000) :=
  ⟨⟨(S ((pg (stt 2 0)) : Dev)), 2, by decide +kernel⟩,
   ⟨(S ((pg (stt 2 4)) : Dev)), 2, by decide +kernel⟩,
   ⟨(S ((pg (stt 2 0)) : Dev)), 2, by decide +kernel⟩,
   ⟨(S ((pg (stt 2 4)) : Dev)), 2, by decide +kernel⟩,
   ⟨(S ((pg (stt 2 0)) : Dev)), (.host), (at_ 0 8 40 ||| at_ 8 8 50 ||| at_ 16 8 60), by decide +kernel⟩,
   ⟨(S ((pg (stt 2 0)) : Dev)), (.host), 0, by decide +kernel⟩,
   ⟨(S ((pg (stt 2 0)) : Dev)), 2, by decide +kernel⟩,
   ⟨(S ((pg (stt 2 4)) : Dev)), 2, 0, by decide +kernel⟩⟩

/-- Meets the hypotheses of `StackPowerAndPeers` (its part StackPower). -/
theorem witness_StackPower :
    (∃ s : State, ∃ b : Byte, ((∀ k < 8, s.variant.hasStack k = true → k ∈ s.hbm.seen) ∧ s.thermEn = false) ∧ ∃ want : Nat, want = (if s.hbmT 3 ≤ b.toNat then 3 else if s.hbmT 2 ≤ b.toNat then 2 else if s.hbmT 1 ≤ b.toNat then 1 else 0) ∧ s.derate < want) ∧
    (∃ s : State, ∃ b : Byte, ((∀ k < 8, s.variant.hasStack k = true → k ∈ s.hbm.seen) ∧ s.thermEn = false) ∧ ∃ want : Nat, want = (if s.hbmT 3 ≤ b.toNat then 3 else if s.hbmT 2 ≤ b.toNat then 2 else if s.hbmT 1 ≤ b.toNat then 1 else 0) ∧ want = 0 ∧ s.derate = 0) ∧
    (∃ s : State, ∃ k : Fin 8, ((20 + k.val, true) ∉ s.pwr.goal ∨ k.val ∈ s.pwr.pg)) ∧
    (∃ s : State, ∃ k : Fin 8, (20 + k.val, true) ∈ s.pwr.goal ∧ k.val ∉ s.pwr.pg) :=
  ⟨⟨(S (seen D0 : Dev)), 45, by decide +kernel, the (by decide +kernel)⟩,
   ⟨(S (seen D0 : Dev)), 30#8, by decide +kernel, the (by decide +kernel)⟩,
   ⟨(S (seen D0 : Dev)), 2, by decide +kernel⟩,
   ⟨(S (gl (stt 2 0) : Dev)), 2, by decide +kernel⟩⟩

/-- Meets the hypotheses of `StackPowerAndPeers` (its part PeerAccesses). -/
theorem witness_PeerAccesses :
    (∃ s : State, ∃ n : Fin 4097, ∃ write : Bool, ∃ data : List Byte, ∃ len : Nat, len = (if write then data.length else n.val) ∧ len ≠ 0 ∧ (s.hostShut .host = true ∨ s.bases = false)) ∧
    (∃ s : State, ∃ o : BitVec 36, ∃ n : Fin 4097, ∃ write : Bool, ∃ data : List Byte, ∃ w : Nat, w = o.toNat / 2 ^ 32 ∧ ∃ x : Nat, x = o.toNat % 2 ^ 32 ∧ ∃ k : Nat, k = s.rf Reg.PCI_WIN_CTRL 0 w 2 6 ∧ ∃ len : Nat, len = (if write then data.length else n.val) ∧ len ≠ 0 ∧ s.hostShut .host = false ∧ s.bases = true ∧ (bit (s.rg Reg.PCI_WIN_CTRL 0 w) 0 = false ∨ k < 12 ∨ 32 < k ∨ 2 ^ k < x + len ∨ (write = true ∧ bit (s.rg Reg.PCI_WIN_CTRL 0 w) 1 = false))) ∧
    (∃ s : State, ∃ o : BitVec 36, ∃ n : Fin 4097, ∃ write : Bool, ∃ data : List Byte, ∃ w : Nat, w = o.toNat / 2 ^ 32 ∧ ∃ x : Nat, x = o.toNat % 2 ^ 32 ∧ ∃ k : Nat, k = s.rf Reg.PCI_WIN_CTRL 0 w 2 6 ∧ ∃ a : Nat, a = fld (s.rg Reg.PCI_WIN_BASE_LO 0 w) 12 20 * 4096 + fld (s.rg Reg.PCI_WIN_BASE_HI 0 w) 0 5 * 2 ^ 32 + x ∧ ∃ len : Nat, len = (if write then data.length else n.val) ∧ len ≠ 0 ∧ s.hostShut .host = false ∧ s.bases = true ∧ bit (s.rg Reg.PCI_WIN_CTRL 0 w) 0 = true ∧ 12 ≤ k ∧ k ≤ 32 ∧ x + len ≤ 2 ^ k ∧ (write = true → bit (s.rg Reg.PCI_WIN_CTRL 0 w) 1 = true) ∧ s.inHostArea a len = false) ∧
    (∃ s : State, ∃ o : BitVec 36, ∃ n : Fin 4097, ∃ write : Bool, ∃ err : Bool, ∃ data : List Byte, ∃ w : Nat, w = o.toNat / 2 ^ 32 ∧ ∃ x : Nat, x = o.toNat % 2 ^ 32 ∧ ∃ k : Nat, k = s.rf Reg.PCI_WIN_CTRL 0 w 2 6 ∧ ∃ a : Nat, a = fld (s.rg Reg.PCI_WIN_BASE_LO 0 w) 12 20 * 4096 + fld (s.rg Reg.PCI_WIN_BASE_HI 0 w) 0 5 * 2 ^ 32 + x ∧ ∃ len : Nat, len = (if write then data.length else n.val) ∧ len ≠ 0 ∧ s.hostShut .host = false ∧ s.bases = true ∧ bit (s.rg Reg.PCI_WIN_CTRL 0 w) 0 = true ∧ 12 ≤ k ∧ k ≤ 32 ∧ x + len ≤ 2 ^ k ∧ (write = true → bit (s.rg Reg.PCI_WIN_CTRL 0 w) 1 = true) ∧ s.inHostArea a len = true ∧ s.stackServes (a / 2 ^ 34) = true ∧ err = false ∧ write = true ∧ MemoryInv s) ∧
    (∃ s : State, ∃ o : BitVec 36, ∃ n : Fin 4097, ∃ write : Bool, ∃ err : Bool, ∃ data : List Byte, ∃ w : Nat, w = o.toNat / 2 ^ 32 ∧ ∃ x : Nat, x = o.toNat % 2 ^ 32 ∧ ∃ k : Nat, k = s.rf Reg.PCI_WIN_CTRL 0 w 2 6 ∧ ∃ a : Nat, a = fld (s.rg Reg.PCI_WIN_BASE_LO 0 w) 12 20 * 4096 + fld (s.rg Reg.PCI_WIN_BASE_HI 0 w) 0 5 * 2 ^ 32 + x ∧ ∃ len : Nat, len = (if write then data.length else n.val) ∧ len ≠ 0 ∧ s.hostShut .host = false ∧ s.bases = true ∧ bit (s.rg Reg.PCI_WIN_CTRL 0 w) 0 = true ∧ 12 ≤ k ∧ k ≤ 32 ∧ x + len ≤ 2 ^ k ∧ (write = true → bit (s.rg Reg.PCI_WIN_CTRL 0 w) 1 = true) ∧ s.inHostArea a len = true ∧ s.stackServes (a / 2 ^ 34) = true ∧ err = false ∧ write = false) :=
  ⟨⟨(S ({ win 3 16 (2 * 2 ^ 34) with bases := false } : Dev)), 16, false, (bs 0), the (by decide +kernel)⟩,
   ⟨(S (win 0 16 (2 * 2 ^ 34) : Dev)), (BitVec.ofNat 36 (2 ^ 32 + 0)), 16, false, (bs 0), the (the (the (the (by decide +kernel))))⟩,
   ⟨(S (win 3 16 (2 * 2 ^ 34 + 0x3C0000000) : Dev)), (BitVec.ofNat 36 (2 ^ 32 + 0)), 16, false, (bs 0), the (the (the (the (the (by decide +kernel)))))⟩,
   ⟨(S (win 3 16 (2 * 2 ^ 34) : Dev)), (BitVec.ofNat 36 (2 ^ 32 + 0)), 0, true, false, (bs 16), the (the (the (the (the (by decide +kernel)))))⟩,
   ⟨(S (win 1 16 (2 * 2 ^ 34) : Dev)), (BitVec.ofNat 36 (2 ^ 32 + 0)), 16, false, false, (bs 0), the (the (the (the (the (by decide +kernel)))))⟩⟩

end W17

namespace W18

def pc (f : PciSt → PciSt) (d : Dev := D0) : Dev := { d with pci := f d.pci }
def rg (r st dev host : Nat) (x : RingSt := {}) (d : Dev := D0) : Dev := ((d.ringWg Reg.DMA_DEV_IDX r (at_ 0 16 dev ||| at_ 16 3 st)).ringWg Reg.DMA_HOST_IDX r (at_ 0 16 host)).setRing r x
def txd (len : Nat) (first last : Bool) (w3 : W32 := at_ 2 3 1) (dst : W32 := at_ 10 8 5) : List W32 := [0, 0, at_ 0 16 len ||| atB 16 first ||| atB 17 last, if first then w3 else 0, if first then dst else 0, 0, 0, 0]
def tr (d : Dev := tmD) : Dev := rg 520 1 4 9 {} d
def x3 : RingSt := { reading := 3, fresh := 2, desc := [(1, 2)], log2 := 7 }
def lt (st : Nat) : Dev := rg 3 st 4 9 { x3 with late := 2 }

/-- Meets the hypotheses of `HostAndRings` (its part HostComesAndGoes). -/
theorem witness_HostComesAndGoes :
    (∃ s : State, s.pci.d3hot = false) ∧
    (∃ s : State, s.pci.flr = false) ∧
    (∃ s : State, s.pci.flr = true) ∧
    (∃ s : State, s.pci.released = true) ∧
    (∃ s : State, s.pci.released = false) ∧
    (∃ s : State, (s.pci.link = 1 ∨ s.pci.link = 2)) ∧
    (∃ s : State, (s.pci.link = 0 ∨ s.pci.link = 3)) ∧
    (∃ s : State, s.pci.perst = false ∧ s.pci.released = true ∧ s.pci.link = 0) ∧
    (∃ s : State, (s.pci.perst = true ∨ s.pci.released = false ∨ s.pci.link ≠ 0)) :=
  ⟨⟨(S D0), by decide +kernel⟩,
   ⟨(S D0), by decide +kernel⟩,
   ⟨(S ((pc (fun p => { p with flr := true })) : Dev)), by decide +kernel⟩,
   ⟨(S D0), by decide +kernel⟩,
   ⟨(S ((pc (fun p => { p with released := false, perst := true })) : Dev)), by decide +kernel⟩,
   ⟨(S D0), by decide +kernel⟩,
   ⟨(S ((pc (fun p => { p with link := 0 })) : Dev)), by decide +kernel⟩,
   ⟨(S ((pc (fun p => { p with link := 0 })) : Dev)), by decide +kernel⟩,
   ⟨(S D0), by decide +kernel⟩⟩

/-- Meets the hypotheses of `HostAndRings` (its part RingsAreControlled). -/
theorem witness_RingsAreControlled :
    (∃ s : State, ∃ q : Req, ∃ r : Fin 1120, ∃ k : Nat, k = Reg.ringKind r ∧ ∃ n : Nat, n = Reg.ringNum r ∧ Reached s.toDev q (Reg.DMA_CFG k) 0 n ∧ s.ringState r = 1) ∧
    (∃ s : State, ∃ q : Req, ∃ r : Fin 1120, ∃ k : Nat, k = Reg.ringKind r ∧ ∃ n : Nat, n = Reg.ringNum r ∧ Reached s.toDev q (Reg.DMA_CFG k) 0 n ∧ s.ringState r ≠ 1) ∧
    (∃ s : State, ∃ q : Req, ∃ r : Fin 1120, ∃ k : Nat, k = Reg.ringKind r ∧ ∃ n : Nat, n = Reg.ringNum r ∧ Reached s.toDev q (Reg.DMA_HOST_IDX k) 0 n ∧ s.ringState r ≠ 1) ∧
    (∃ s : State, ∃ q : Req, ∃ r : Fin 1120, ∃ v : W32, ∃ k : Nat, k = Reg.ringKind r ∧ ∃ n : Nat, n = Reg.ringNum r ∧ Reached s.toDev q (Reg.DMA_HOST_IDX k) 0 n ∧ s.ringState r = 1 ∧ k ≠ 2 ∧ 2 ^ (s.ring r).log2 < (fld v 0 16 + 65536 - s.devIdx r) % 65536) ∧
    (∃ s : State, ∃ q : Req, ∃ r : Fin 1120, ∃ v : W32, ∃ k : Nat, k = Reg.ringKind r ∧ ∃ n : Nat, n = Reg.ringNum r ∧ Reached s.toDev q (Reg.DMA_HOST_IDX k) 0 n ∧ s.ringState r = 1 ∧ k ≠ 2 ∧ (fld v 0 16 + 65536 - s.devIdx r) % 65536 ≤ 2 ^ (s.ring r).log2) ∧
    (∃ s : State, ∃ r : Fin 1120, (s.ringState r ≠ 1 ∨ (s.ring r).fresh = 0)) ∧
    (∃ s : State, ∃ r : Fin 1120, s.ringState r = 1 ∧ (s.ring r).fresh ≠ 0) ∧
    (∃ s : State, ∃ r : Fin 1120, ∃ st : Fin 4, (s.ring r).late ≠ 0 ∧ st ≠ 0) ∧
    (∃ s : State, ∃ r : Fin 1120, (s.ring r).late = 0 ∧ s.ringReads r = false) ∧
    (∃ s : State, ∃ r : Fin 1120, ∃ st : Fin 4, (s.ring r).late = 0 ∧ s.ringReads r = true ∧ st ≠ 0) ∧
    (∃ s : State, ∃ r : Fin 1120, ∃ k : Nat, k = Reg.ringKind r ∧ (s.ring r).late = 0 ∧ s.ringReads r = true ∧ k ≠ 0) ∧
    (∃ s : State, ∃ r : Fin 1120, ∃ d : List W32, ∃ k : Nat, k = Reg.ringKind r ∧ (s.ring r).late = 0 ∧ s.ringReads r = true ∧ k = 0 ∧ rxDescBad d = true) ∧
    (∃ s : State, ∃ r : Fin 1120, ∃ d : List W32, ∃ k : Nat, k = Reg.ringKind r ∧ (s.ring r).late = 0 ∧ s.ringReads r = true ∧ k = 0 ∧ rxDescBad d = false) :=
  ⟨⟨(S ((rg (3 : Nat) 1 4 9) : Dev)), (.host), (Fin.ofNat 1120 (3 : Nat)), the (the (by decide +kernel))⟩,
   ⟨(S (D0 : Dev)), (.host), (Fin.ofNat 1120 (3 : Nat)), the (the (by decide +kernel))⟩,
   ⟨(S (D0 : Dev)), (.host), (Fin.ofNat 1120 (3 : Nat)), the (the (by decide +kernel))⟩,
   ⟨(S ((rg (3 : Nat) 1 4 9) : Dev)), (.host), (Fin.ofNat 1120 (3 : Nat)), 0, the (the (by decide +kernel))⟩,
   ⟨(S ((rg (3 : Nat) 1 4 9) : Dev)), (.host), (Fin.ofNat 1120 (3 : Nat)), 4, the (the (by decide +kernel))⟩,
   ⟨(S ((rg (3 : Nat) 1 4 9) : Dev)), (Fin.ofNat 1120 (3 : Nat)), by decide +kernel⟩,
   ⟨(S ((rg (3 : Nat) 1 4 9 { reading := 3, fresh := 2, desc := [(1,2)], log2 := 7 }) : Dev)), (Fin.ofNat 1120 (3 : Nat)), by decide +kernel⟩,
   ⟨(S (lt 1)), 3, 2, by decide +kernel⟩,
   ⟨(S ((rg (3 : Nat) 1 4 9) : Dev)), (Fin.ofNat 1120 (3 : Nat)), by decide +kernel⟩,
   ⟨(S ((rg (3 : Nat) 1 4 9 { reading := 3, fresh := 2, desc := [(1,2)], log2 := 7 }) : Dev)), (Fin.ofNat 1120 (3 : Nat)), 2, by decide +kernel⟩,
   ⟨(S ((rg (600 : Nat) 1 4 9) : Dev)), (Fin.ofNat 1120 (600 : Nat)), the (by decide +kernel)⟩,
   ⟨(S ((rg (3 : Nat) 1 4 9 { reading := 3, fresh := 2, desc := [(1,2)], log2 := 7 }) : Dev)), (Fin.ofNat 1120 (3 : Nat)), [], the (by decide +kernel)⟩,
   ⟨(S ((rg (3 : Nat) 1 4 9 { reading := 3, fresh := 2, desc := [(1,2)], log2 := 7 }) : Dev)), (Fin.ofNat 1120 (3 : Nat)), [0, 0, 512, 0, 0, 0, 0, 0], the (by decide +kernel)⟩⟩

/-- Meets the hypotheses of `TransmitPackets`. -/
theorem witness_TransmitPackets :
    (∃ s : State, ∃ n : Fin 512, ∃ r : Nat, r = 512 + n.val ∧ (s.ringState r ≠ 1 ∨ s.mastering = false ∨ s.stopped = true)) ∧
    (∃ s : State, ∃ n : Fin 512, ∃ ds : List (List W32), ∃ r : Nat, r = 512 + n.val ∧ s.ringState r = 1 ∧ s.mastering = true ∧ s.stopped = false ∧ txWalk (ds.take (s.outstanding r)) 0 = none) ∧
    (∃ s : State, ∃ n : Fin 512, ∃ ds : List (List W32), ∃ r : Nat, r = 512 + n.val ∧ s.ringState r = 1 ∧ s.mastering = true ∧ s.stopped = false ∧ txWalk (ds.take (s.outstanding r)) 0 = some none) ∧
    (∃ s : State, ∃ n : Fin 512, ∃ ds : List (List W32), ∃ data : List Byte, ∃ r : Nat, r = 512 + n.val ∧ (s.ringState r = 1 ∧ s.mastering = true ∧ s.stopped = false) ∧ ∃ k, txWalk (ds.take (s.outstanding r)) 0 = some (some k) ∧ ∃ f, (f = slice data 0 ((ds.take k).foldl (fun m d => m + wfld d 2 0 16) 0)) ∧ (f.length < 60 ∨ 9596 < f.length)) ∧
    (∃ s : State, ∃ n : Fin 512, ∃ ds : List (List W32), ∃ data : List Byte, ∃ r : Nat, r = 512 + n.val ∧ (s.ringState r = 1 ∧ s.mastering = true ∧ s.stopped = false) ∧ ∃ k, txWalk (ds.take (s.outstanding r)) 0 = some (some k) ∧ ∃ f, (f = slice data 0 ((ds.take k).foldl (fun m d => m + wfld d 2 0 16) 0)) ∧ 60 ≤ f.length ∧ f.length ≤ 9596 ∧ s.txTicket (ds.headD []) f.length = none) ∧
    (∃ s : State, ∃ n : Fin 512, ∃ ds : List (List W32), ∃ data : List Byte, ∃ r : Nat, r = 512 + n.val ∧ (s.ringState r = 1 ∧ s.mastering = true ∧ s.stopped = false) ∧ ∃ k, txWalk (ds.take (s.outstanding r)) 0 = some (some k) ∧ ∃ f, (f = slice data 0 ((ds.take k).foldl (fun m d => m + wfld d 2 0 16) 0)) ∧ (60 ≤ f.length ∧ f.length ≤ 9596) ∧ ∃ tk, s.txTicket (ds.headD []) f.length = some tk ∧ ∃ v, v = tk.voq.toNat ∧ ((s.queue v).isolated = false ∧ s.judge v 0 s.cue.tickNo = none) ∧ s.place v tk.tc.toNat false s.cue.tickNo = .ok (none, false)) :=
  ⟨⟨(S (rg 520 2 4 9 {} tmD : Dev)), 8, the (by decide +kernel)⟩,
   ⟨(S (tr : Dev)), 8, [txd 100 false true], the (by decide +kernel)⟩,
   ⟨(S (tr : Dev)), 8, [txd 100 true false], the (by decide +kernel)⟩,
   ⟨(S (tr : Dev)), 8, [txd 30 true true], (bs 60), the ⟨by decide +kernel, ⟨1, ⟨by decide +kernel, the (by decide +kernel)⟩⟩⟩⟩,
   ⟨(S (tr (tmD.setObj bSCH 1 0 [0,0,0,0]) : Dev)), 8, [txd 100 true true], (bs 60), the ⟨by decide +kernel, ⟨1, ⟨by decide +kernel, the (by decide +kernel)⟩⟩⟩⟩,
   ⟨(S (tr (tmD.setObj bQAD 0x10 0 [20, 100, 0x888, 0]))), 8, [txd 100 true true (dst := 5)], (bs 100), the ⟨by decide +kernel, ⟨1, ⟨by decide +kernel, the ⟨by decide +kernel, got (by decide +kernel) (the ⟨by decide +kernel, okIs (by decide +kernel)⟩)⟩⟩⟩⟩⟩⟩

end W18

namespace W19

def cg (c : Nat) (present st : Nat) (d : Dev := D0) : Dev := ((d.wf Reg.CAG_CAGE_STATUS 0 c 0 1 present).wf Reg.CAG_CAGE_STATUS 0 c 1 3 st)
def bus (m : Nat) (d : Dev) (cmd : W32 := at_ 19 6 4 ||| at_ 13 6 5): Dev := { d with i2c := mset {} d.i2c m { busy := true, cmd := cmd } }
def mst (d : Dev) : Dev := d.wf Reg.CAG_CAGE_CFG 0 4 12 4 3
def call (h : Nat) (d : Dev := D0) : Dev := d.wf Reg.CCX_CALL 0 0 0 2 h
def ccs (x st sy : Nat) (d : Dev) : Dev := (d.wf Reg.CCX_CC_STATUS 0 x 0 3 st).wf Reg.CCX_CC_STATUS 0 x 3 1 sy
def stg (n : Nat) (d : Dev) : Dev := d.wf Reg.TOP_BOOT 0 0 0 3 n
def ldd (d : Dev) : Dev := { d with int := { d.int with loaded := [0] } }

/-- Meets the hypotheses of `CagesAndModules` (its part CagesChange). -/
theorem witness_CagesChange :
    (∃ s : State, ∃ c : Fin 64, s.cageF c 0 1 = 0) ∧
    (∃ s : State, ∃ c : Fin 64, s.cageF c 0 1 = 1) ∧
    (∃ s : State, ∃ q : Req, ∃ c : Fin 64, Reached s.toDev q Reg.CAG_CAGE_CTRL 0 c) ∧
    (∃ s : State, ∃ c : Fin 64, s.pstate c ≠ 2) ∧
    (∃ s : State, ∃ c : Fin 64, s.pstate c = 2) ∧
    (∃ s : State, ∃ c : Fin 64, s.pstate c ≠ 3) ∧
    (∃ s : State, ∃ c : Fin 64, s.pstate c = 3) :=
  ⟨⟨(S ((cg 4 0 0) : Dev)), 4, by decide +kernel⟩,
   ⟨(S ((cg 4 1 0) : Dev)), 4, by decide +kernel⟩,
   ⟨(S ((cg 4 0 0) : Dev)), (.host), 4, by decide +kernel⟩,
   ⟨(S ((cg 4 0 0) : Dev)), 4, by decide +kernel⟩,
   ⟨(S ((cg 4 0 2) : Dev)), 4, by decide +kernel⟩,
   ⟨(S ((cg 4 0 0) : Dev)), 4, by decide +kernel⟩,
   ⟨(S ((cg 4 0 3) : Dev)), 4, by decide +kernel⟩⟩

/-- Meets the hypotheses of `CagesAndModules` (its part ModuleTransactions). -/
theorem witness_ModuleTransactions :
    (∃ s : State, ∃ q : Req, ∃ m : Fin 16, ∃ x : I2cSt, x = s.i2cOf m ∧ Reached s.toDev q Reg.CAG_I2C_CMD 0 m ∧ x.busy = true) ∧
    (∃ s : State, ∃ q : Req, ∃ m : Fin 16, ∃ v : W32, ∃ cage : Nat, cage = fld v 19 6 ∧ ∃ wl : Nat, wl = fld v 7 6 ∧ ∃ rl : Nat, rl = fld v 13 6 ∧ ∃ x : I2cSt, x = s.i2cOf m ∧ (Reached s.toDev q Reg.CAG_I2C_CMD 0 m ∧ x.busy = false) ∧ ∃ code, (code = (if (wl = 0 ∧ rl = 0) ∨ 32 < wl ∨ 32 < rl then 8 else if s.rf Reg.CAG_CAGE_CFG 0 cage 12 4 ≠ m then 6 else if s.cageF cage 0 1 = 0 ∨ s.pstate cage ≠ 3 then 5 else 0)) ∧ code ≠ 0) ∧
    (∃ s : State, ∃ q : Req, ∃ m : Fin 16, ∃ v : W32, ∃ cage : Nat, cage = fld v 19 6 ∧ ∃ wl : Nat, wl = fld v 7 6 ∧ ∃ rl : Nat, rl = fld v 13 6 ∧ ∃ x : I2cSt, x = s.i2cOf m ∧ (Reached s.toDev q Reg.CAG_I2C_CMD 0 m ∧ x.busy = false) ∧ ∃ code, (code = (if (wl = 0 ∧ rl = 0) ∨ 32 < wl ∨ 32 < rl then 8 else if s.rf Reg.CAG_CAGE_CFG 0 cage 12 4 ≠ m then 6 else if s.cageF cage 0 1 = 0 ∨ s.pstate cage ≠ 3 then 5 else 0)) ∧ code = 0) ∧
    (∃ s : State, ∃ m : Fin 16, ∃ x : I2cSt, x = s.i2cOf m ∧ x.busy = false) ∧
    (∃ s : State, ∃ m : Fin 16, ∃ how : Fin 4, ∃ x : I2cSt, x = s.i2cOf m ∧ x.busy = true ∧ how ≠ 0) :=
  ⟨⟨(S (bus 3 (mst (cg 4 1 3)) : Dev)), (.host), 3, the (by decide +kernel)⟩,
   ⟨(S (cg 4 1 3 : Dev)), (.host), 3, (at_ 19 6 4 ||| at_ 13 6 5), the (the (the (the ⟨by decide +kernel, the (by decide +kernel)⟩)))⟩,
   ⟨(S (mst (cg 4 1 3) : Dev)), (.host), 3, (at_ 19 6 4 ||| at_ 13 6 5), the (the (the (the ⟨by decide +kernel, the (by decide +kernel)⟩)))⟩,
   ⟨(S (cg 4 1 3 : Dev)), 3, the (by decide +kernel)⟩,
   ⟨(S (bus 3 (mst (cg 4 1 3)) : Dev)), 3, 1, the (by decide +kernel)⟩⟩

/-- Meets the hypotheses of `TheCallAndService` (its part TheCallMoves). -/
theorem witness_TheCallMoves :
    (∃ s : State, ∃ q : Req, ∃ both : Bool, (Reached s.toDev q Reg.CCX_CALL_CMD 0 0 ∧ q.complex = none) ∧ ∃ i : Instr, (i = .claim q both ∨ i = .renew q ∨ i = .release q)) ∧
    (∃ s : State, ∃ q : Req, ∃ x : Fin 2, Reached s.toDev q Reg.CCX_CALL_CMD 0 0 ∧ q.complex = some x ∧ s.holder ≠ 0) ∧
    (∃ s : State, ∃ q : Req, ∃ x : Fin 2, Reached s.toDev q Reg.CCX_CALL_CMD 0 0 ∧ q.complex = some x ∧ s.holder = 0) ∧
    (∃ s : State, ∃ q : Req, ∃ x : Fin 2, Reached s.toDev q Reg.CCX_CALL_CMD 0 0 ∧ q.complex = some x ∧ s.holder = x.val + 1 ∧ s.cue.localNs < s.ccx.leaseFrom + 2000000) ∧
    (∃ s : State, ∃ q : Req, ∃ x : Fin 2, Reached s.toDev q Reg.CCX_CALL_CMD 0 0 ∧ q.complex = some x ∧ (s.holder ≠ x.val + 1 ∨ s.ccx.leaseFrom + 2000000 ≤ s.cue.localNs)) ∧
    (∃ s : State, ∃ q : Req, ∃ x : Fin 2, Reached s.toDev q Reg.CCX_CALL_CMD 0 0 ∧ q.complex = some x ∧ s.holder ≠ x.val + 1) ∧
    (∃ s : State, s.holder = 0) ∧
    (∃ s : State, s.holder ≠ 0 ∧ s.reactOf 13 = 0) ∧
    (∃ s : State, ∃ q : Req, Reached s.toDev q Reg.CCX_CALL_FORCE 0 0 ∧ s.arming.get q = true ∧ q ≠ .host) ∧
    (∃ s : State, ∃ q : Req, Reached s.toDev q Reg.CCX_CALL_FORCE 0 0 ∧ s.arming.get q = true ∧ q = .host) ∧
    (∃ s : State, ∃ x : Fin 2, (s.ccRuns x = false ∨ s.ccState x ≠ 2 ∨ s.holder ≠ 0)) ∧
    (∃ s : State, ∃ x : Fin 2, s.ccRuns x = true ∧ s.ccState x = 2 ∧ s.holder = 0) :=
  ⟨⟨(S (call 0 : Dev)), (.host), true, by decide +kernel, ⟨(.claim ((.host)) true), by decide +kernel⟩⟩,
   ⟨(S (call 1 : Dev)), (.ccA), (0 : Fin 2), by decide +kernel⟩,
   ⟨(S (call 0 : Dev)), (.ccA), (0 : Fin 2), by decide +kernel⟩,
   ⟨(S (call 1 : Dev)), (.ccA), (0 : Fin 2), by decide +kernel⟩,
   ⟨(S (call 0 : Dev)), (.ccA), (0 : Fin 2), by decide +kernel⟩,
   ⟨(S (call 0 : Dev)), (.ccA), (0 : Fin 2), by decide +kernel⟩,
   ⟨(S (call 0 : Dev)), by decide +kernel⟩,
   ⟨(S (call 1 : Dev)), by decide +kernel⟩,
   ⟨(S (call 1 : Dev)), (.ccA), by decide +kernel⟩,
   ⟨(S (call 0 : Dev)), (.host), by decide +kernel⟩,
   ⟨(S (call 0 : Dev)), 0, by decide +kernel⟩,
   ⟨(S (ccs 0 2 1 (call 0) : Dev)), (0 : Fin 2), by decide +kernel⟩⟩

/-- Meets the hypotheses of `TheCallAndService` (its part ServiceCycles). -/
theorem witness_ServiceCycles :
    (∃ s : State, s.leadRuns = false) ∧
    (∃ s : State, s.leadRuns = true ∧ s.upd.held = false ∧ s.pci.doeWait = none ∧ s.stage = 5 ∧ s.pwr.fDie = false ∧ (s.pdOn 16 = false ∨ s.int.loaded ≠ []) ∧ (∀ e ∈ s.ports, e.2.waiting = none)) ∧
    (∃ s : State, s.leadRuns = true ∧ s.upd.held = false ∧ s.pci.doeWait = none ∧ s.stage = 1 ∧ bit s.pdCtrl 16 = true ∧ s.pdOn 16 = false ∧ (∀ e ∈ s.stepDomains, s.pdBusy e = false) ∧ s.pwr.fDie = false) ∧
    (∃ s : State, s.leadRuns = true ∧ s.upd.held = false ∧ s.pci.doeWait = none ∧ s.stage = 4 ∧ s.pwr.fDie = false ∧ (s.pdOn 16 = false ∨ s.int.loaded ≠ [])) :=
  ⟨⟨(S (call 0 : Dev)), by decide +kernel⟩,
   ⟨(S (ldd (stg 5 (call 1)) : Dev)), by decide +kernel⟩,
   ⟨(S (stg 1 ((call 1).wg Reg.PWR_PD_STATUS 0 0 0) : Dev)), by decide +kernel⟩,
   ⟨(S (stg 4 (ldd (call 1)) : Dev)), by decide +kernel⟩⟩

end W19

namespace W20

def ud (f : UpdSt → UpdSt) (d : Dev := D0) : Dev := { d with upd := f d.upd }
def stk2 (d : Dev) : Dev := ((d.wf Reg.HBM_STACK_STATUS 0 2 0 3 4).wg Reg.BPM_HBM_REGION 0 2 (at_ 0 7 20 ||| at_ 8 7 60)).wg Reg.UPD_SRC_HI 0 0 8
def busy (op : Nat) (d : Dev) : Dev := (ud (fun u => { u with cmd := w32 op }) d).wg Reg.UPD_STATUS 0 0 2
def nolead (d : Dev) : Dev := d.wg Reg.CCX_CALL 0 0 0
def fl (k st : Nat) (d : Dev) (kind := 1) (sec := 5): Dev := ud (fun u => { u with slots := mset {} u.slots k { image := bs 300, kind := kind, sec := sec, commit := st != 0, verified := st == 2, invalid := st == 3 } }) d
def L := D0
def len (n : Nat) (d : Dev) : Dev := d.wf Reg.UPD_LEN 0 0 0 27 n
def syn (x : Nat) (d : Dev) : Dev := d.wf Reg.CCX_CC_STATUS 0 x 3 1 1
def bt (f : BootRec → BootRec) (d : Dev := L) : Dev := ud (fun u => { u with boot := f u.boot }) d
def recb (n : Nat) (d : Dev) : Dev := { d with hbm := { d.hbm with mem := ((leBytes 4 0x59424B42) ++ leBytes 4 0 ++ leBytes 8 n ++ bs 136).mapIdx fun i b => (2 * 2 ^ 34 + i, b) } }
def keyed (es : List Nat) (d : Dev) : Dev := d.setSettings (es.map fun e => { type := 2, fmt := 0, key := e, seq := e, data := leBytes 8 (77 + e) ++ bs 32 })
def f4 (d : Dev) : Dev := fl 0 2 (fl 1 2 (fl 2 2 (fl 3 2 d)))
def ph (n : Nat) (d : Dev := L) : Dev := ud (fun u => { u with phase := n }) d
def tv (d : Dev) : Dev := d.wg Reg.CUE_CTRL 0 0 1
def loc (n : Nat) (d : Dev) : Dev := { d with cue := { d.cue with localNs := n } }
def off (a b : Bool) (d : Dev := nolead L) : Dev := { d with ccx := { d.ccx with runA := a, runB := b } }
def crash (n : Nat) (d : Dev := L) : Dev := ud (fun u => { u with crashAt := List.replicate n 5, crash := List.replicate n { seq := 1, complex := 0, cause := 1, ns := 0, sec := 0, payload := [] } }) d
def zeros (d : Dev) : Dev := { d with hbm := { d.hbm with mem := (List.range 152).map fun i => (2 * 2 ^ 34 + i, 0) } }
def bigN (n : Nat) (d : Dev) : Dev := d.setSettings (List.replicate 3 { type := 1, fmt := 0, key := 4, seq := 1, data := List.replicate n 1 })
theorem bigN_size (n : Nat) : totalSize (S (bigN n L)).settings = 3 * ((16 + n + 16 + 4 + 15) / 16 * 16) := by
  have h : (S (bigN n L)).settings = List.replicate 3 { type := 1, fmt := 0, key := 4, seq := 1, data := List.replicate n 1 } := rfl
  simp [h, totalSize, Setting.size, List.replicate_succ]
  omega

/-- Meets the hypotheses of `UpdateCommandsRun`. -/
theorem witness_UpdateCommandsRun :
    (∃ s : State, ∃ q : Req, ∃ v : W32, Reached s.toDev q Reg.UPD_CMD 0 0 ∧ ∃ i, ∃ op, (i, op) ∈ [(Instr.download q v, 1), (.verify q v, 2), (.activate q v, 3), (.confirm q v, 4), (.fallBack q v, 5), (.eraseSlot q v, 6), (.installKey q v, 7), (.removeKey q v, 8), (.clearCrash q v, 9)] ∧ bit (s.rg Reg.UPD_STATUS 0 0) 1 = true) ∧
    (∃ s : State, ∃ q : Req, ∃ v : W32, Reached s.toDev q Reg.UPD_CMD 0 0 ∧ ∃ i, ∃ op, (i, op) ∈ [(Instr.download q v, 1), (.verify q v, 2), (.activate q v, 3), (.confirm q v, 4), (.fallBack q v, 5), (.eraseSlot q v, 6), (.installKey q v, 7), (.removeKey q v, 8), (.clearCrash q v, 9)] ∧ bit (s.rg Reg.UPD_STATUS 0 0) 1 = false ∧ s.leadRuns = false) ∧
    (∃ s : State, ∃ q : Req, ∃ v : W32, ∃ k : Nat, k = fld v 4 1 * 2 + fld v 5 1 ∧ ∃ n : Nat, n = s.rf Reg.UPD_LEN 0 0 0 27 ∧ (Reached s.toDev q Reg.UPD_CMD 0 0 ∧ bit (s.rg Reg.UPD_STATUS 0 0) 1 = false ∧ s.leadRuns = true) ∧ ∃ c : Nat, c = (if (s.slotInUse k || s.slotRead k) = true then 3 else if s.srcOk n = false then 4 else if slotMax k < n then 10 else 0) ∧ c ≠ 0) ∧
    (∃ s : State, ∃ q : Req, ∃ v : W32, ∃ k : Nat, k = fld v 4 1 * 2 + fld v 5 1 ∧ ∃ n : Nat, n = s.rf Reg.UPD_LEN 0 0 0 27 ∧ (Reached s.toDev q Reg.UPD_CMD 0 0 ∧ bit (s.rg Reg.UPD_STATUS 0 0) 1 = false ∧ s.leadRuns = true) ∧ ∃ c : Nat, c = (if (s.slotInUse k || s.slotRead k) = true then 3 else if s.srcOk n = false then 4 else if slotMax k < n then 10 else 0) ∧ c = 0) ∧
    (∃ s : State, ∃ q : Req, ∃ v : W32, ∃ k : Nat, k = fld v 4 1 * 2 + fld v 5 1 ∧ Reached s.toDev q Reg.UPD_CMD 0 0 ∧ bit (s.rg Reg.UPD_STATUS 0 0) 1 = false ∧ s.leadRuns = true ∧ (s.flash k).state ≠ 1) ∧
    (∃ s : State, ∃ q : Req, ∃ v : W32, ∃ k : Nat, k = fld v 4 1 * 2 + fld v 5 1 ∧ Reached s.toDev q Reg.UPD_CMD 0 0 ∧ bit (s.rg Reg.UPD_STATUS 0 0) 1 = false ∧ s.leadRuns = true ∧ (s.flash k).state = 1) ∧
    (∃ s : State, ∃ q : Req, ∃ v : W32, ∃ k : Nat, k = fld v 4 1 * 2 + fld v 5 1 ∧ Reached s.toDev q Reg.UPD_CMD 0 0 ∧ bit (s.rg Reg.UPD_STATUS 0 0) 1 = false ∧ s.leadRuns = true ∧ (s.slotInUse k || s.slotRead k) = true) ∧
    (∃ s : State, ∃ q : Req, ∃ v : W32, ∃ k : Nat, k = fld v 4 1 * 2 + fld v 5 1 ∧ Reached s.toDev q Reg.UPD_CMD 0 0 ∧ bit (s.rg Reg.UPD_STATUS 0 0) 1 = false ∧ s.leadRuns = true ∧ (s.slotInUse k || s.slotRead k) = false) ∧
    (∃ s : State, (bit (s.rg Reg.UPD_STATUS 0 0) 1 = false ∨ s.upd.held = true)) ∧
    (∃ s : State, bit (s.rg Reg.UPD_STATUS 0 0) 1 = true ∧ s.upd.held = false ∧ fld s.upd.cmd 0 4 = 1) ∧
    (∃ s : State, bit (s.rg Reg.UPD_STATUS 0 0) 1 = true ∧ s.upd.held = false ∧ fld s.upd.cmd 0 4 = 2 ∧ s.upd.code < 256) ∧
    (∃ s : State, bit (s.rg Reg.UPD_STATUS 0 0) 1 = true ∧ s.upd.held = false ∧ fld s.upd.cmd 0 4 = 9) :=
  ⟨⟨(S (busy 1 L)), (.host), 0, by decide +kernel, ⟨(Instr.download ((.host)) 0), ⟨1, by decide +kernel⟩⟩⟩,
   ⟨(S (nolead L)), (.host), 0, by decide +kernel, ⟨(Instr.download ((.host)) 0), ⟨1, by decide +kernel⟩⟩⟩,
   ⟨(S (L : Dev)), (.host), (0), the (the ⟨by decide +kernel, the (by decide +kernel)⟩)⟩,
   ⟨(S (len 300 (stk2 L) : Dev)), (.host), (32), the (the ⟨by decide +kernel, the (by decide +kernel)⟩)⟩,
   ⟨(S (L : Dev)), (.host), (0), the (by decide +kernel)⟩,
   ⟨(S (fl 0 1 (fl 1 1 (fl 2 2 (fl 3 1 L))) : Dev)), (.host), (0), the (by decide +kernel)⟩,
   ⟨(S (L : Dev)), (.host), (0), the (by decide +kernel)⟩,
   ⟨(S (len 300 (stk2 L) : Dev)), (.host), (32), the (by decide +kernel)⟩,
   ⟨(S (nolead L)), by decide +kernel⟩,
   ⟨(S (busy 1 L)), by decide +kernel⟩,
   ⟨(S (busy 2 (fl 1 1 L) : Dev)), by decide +kernel⟩,
   ⟨(S (busy 9 (ud (fun u => { u with crash := [{ seq := 1, complex := 0, cause := 1, ns := 0, sec := 0, payload := [] }] }) L) : Dev)), by decide +kernel⟩⟩

/-- Meets the hypotheses of `TrialsAndActivation` (its part TrialsAndKeys). -/
theorem witness_TrialsAndKeys :
    (∃ s : State, ∃ q : Req, ∃ v : W32, (Reached s.toDev q Reg.UPD_CMD 0 0 ∧ bit (s.rg Reg.UPD_STATUS 0 0) 1 = false ∧ s.leadRuns = true) ∧ ∃ k : Nat, k = fld v 4 1 * 2 + fld v 5 1 ∧ (s.flash k).state ≠ 2) ∧
    (∃ s : State, ∃ q : Req, ∃ v : W32, (Reached s.toDev q Reg.UPD_CMD 0 0 ∧ bit (s.rg Reg.UPD_STATUS 0 0) 1 = false ∧ s.leadRuns = true) ∧ ∃ k : Nat, k = fld v 4 1 * 2 + fld v 5 1 ∧ ∃ b : BootRec, b = s.upd.boot ∧ (s.flash k).state = 2 ∧ (if k < 2 then b.fwTrial = true ∨ s.upd.phase ≠ 0 else b.bookTrial = true)) ∧
    (∃ s : State, ∃ q : Req, ∃ v : W32, (Reached s.toDev q Reg.UPD_CMD 0 0 ∧ bit (s.rg Reg.UPD_STATUS 0 0) 1 = false ∧ s.leadRuns = true) ∧ ∃ k : Nat, k = fld v 4 1 * 2 + fld v 5 1 ∧ ∃ b : BootRec, b = s.upd.boot ∧ (s.flash k).state = 2 ∧ 2 ≤ k ∧ b.bookTrial = false) ∧
    (∃ s : State, ∃ q : Req, ∃ v : W32, (Reached s.toDev q Reg.UPD_CMD 0 0 ∧ bit (s.rg Reg.UPD_STATUS 0 0) 1 = false ∧ s.leadRuns = true) ∧ ∃ k : Nat, k = fld v 4 1 * 2 + fld v 5 1 ∧ ∃ b : BootRec, b = s.upd.boot ∧ ∃ o : Nat, o = s.understudy ∧ (s.flash k).state = 2 ∧ k < 2 ∧ b.fwTrial = false ∧ s.upd.phase = 0 ∧ (s.flash k).kind ≠ 3 ∧ s.ccSynced o = false) ∧
    (∃ s : State, ∃ q : Req, ∃ v : W32, (Reached s.toDev q Reg.UPD_CMD 0 0 ∧ bit (s.rg Reg.UPD_STATUS 0 0) 1 = false ∧ s.leadRuns = true) ∧ ∃ k : Nat, k = fld v 4 1 * 2 + fld v 5 1 ∧ ∃ b : BootRec, b = s.upd.boot ∧ ∃ o : Nat, o = s.understudy ∧ (s.flash k).state = 2 ∧ k < 2 ∧ b.fwTrial = false ∧ s.upd.phase = 0 ∧ (s.flash k).kind ≠ 3 ∧ s.ccSynced o = true) ∧
    (∃ s : State, ∃ q : Req, ∃ v : W32, (Reached s.toDev q Reg.UPD_CMD 0 0 ∧ bit (s.rg Reg.UPD_STATUS 0 0) 1 = false ∧ s.leadRuns = true) ∧ ∃ b : BootRec, b = s.upd.boot ∧ (bit v 4 = true ∧ b.bookTrial = false) ∧ ∃ i : Instr, (i = .confirm q v ∨ i = .fallBack q v)) ∧
    (∃ s : State, ∃ q : Req, ∃ v : W32, (Reached s.toDev q Reg.UPD_CMD 0 0 ∧ bit (s.rg Reg.UPD_STATUS 0 0) 1 = false ∧ s.leadRuns = true) ∧ ∃ b : BootRec, b = s.upd.boot ∧ bit v 4 = true ∧ b.bookTrial = true) ∧
    (∃ s : State, ∃ q : Req, ∃ v : W32, (Reached s.toDev q Reg.UPD_CMD 0 0 ∧ bit (s.rg Reg.UPD_STATUS 0 0) 1 = false ∧ s.leadRuns = true) ∧ ∃ b : BootRec, b = s.upd.boot ∧ (bit v 4 = false ∧ (b.fwTrial = false ∨ s.upd.phase ≠ 0)) ∧ ∃ i : Instr, (i = .confirm q v ∨ i = .fallBack q v)) ∧
    (∃ s : State, ∃ q : Req, ∃ v : W32, (Reached s.toDev q Reg.UPD_CMD 0 0 ∧ bit (s.rg Reg.UPD_STATUS 0 0) 1 = false ∧ s.leadRuns = true) ∧ ∃ b : BootRec, b = s.upd.boot ∧ ∃ o : Nat, o = s.understudy ∧ bit v 4 = false ∧ b.fwTrial = true ∧ s.upd.phase = 0 ∧ s.ccSynced o = true) ∧
    (∃ s : State, ∃ q : Req, Reached s.toDev q Reg.UPD_CMD 0 0 ∧ bit (s.rg Reg.UPD_STATUS 0 0) 1 = false ∧ s.leadRuns = true ∧ s.srcOk 152 = false) ∧
    (∃ s : State, ∃ q : Req, (Reached s.toDev q Reg.UPD_CMD 0 0 ∧ bit (s.rg Reg.UPD_STATUS 0 0) 1 = false ∧ s.leadRuns = true ∧ s.srcOk 152 = true) ∧ ∃ rec : List Byte, rec = s.hbmBytes s.updSrc 152 ∧ (ofLe (slice rec 0 4) ≠ 0x59424B42 ∨ ofLe (slice rec 4 4) ≠ 0)) ∧
    (∃ s : State, ∃ q : Req, (Reached s.toDev q Reg.UPD_CMD 0 0 ∧ bit (s.rg Reg.UPD_STATUS 0 0) 1 = false ∧ s.leadRuns = true ∧ s.srcOk 152 = true) ∧ ∃ rec : List Byte, rec = s.hbmBytes s.updSrc 152 ∧ ofLe (slice rec 0 4) = 0x59424B42 ∧ ofLe (slice rec 4 4) = 0) ∧
    (∃ s : State, ∃ q : Req, ∃ v : W32, Reached s.toDev q Reg.UPD_CMD 0 0 ∧ bit (s.rg Reg.UPD_STATUS 0 0) 1 = false ∧ s.leadRuns = true ∧ s.setting? 2 0 (fld v 8 3) = none) ∧
    (∃ s : State, ∃ q : Req, ∃ v : W32, Reached s.toDev q Reg.UPD_CMD 0 0 ∧ bit (s.rg Reg.UPD_STATUS 0 0) 1 = false ∧ s.leadRuns = true ∧ s.setting? 2 0 (fld v 8 3) ≠ none ∧ s.upd.waiting = [] ∧ s.appendedHour + 64 ≤ 2 ^ 20) :=
  ⟨⟨(S (L : Dev)), (.host), (0), by decide +kernel, the (by decide +kernel)⟩,
   ⟨(S (bt (fun b => { b with bookTrial := true, bookTrialSlot := 1 }) (f4 L) : Dev)), (.host), (16), by decide +kernel, the (the (by decide +kernel))⟩,
   ⟨(S (f4 L : Dev)), (.host), (16), by decide +kernel, the (the (by decide +kernel))⟩,
   ⟨(S (f4 L : Dev)), (.host), (0), by decide +kernel, the (the (the (by decide +kernel)))⟩,
   ⟨(S (syn 1 (f4 L) : Dev)), (.host), (0), by decide +kernel, the (the (the (by decide +kernel)))⟩,
   ⟨(S (f4 L : Dev)), (.host), (16), by decide +kernel, the ⟨by decide +kernel, ⟨(.confirm ((.host)) ((16))), by decide +kernel⟩⟩⟩,
   ⟨(S (bt (fun b => { b with bookTrial := true, bookTrialSlot := 1 }) (f4 L) : Dev)), (.host), (16), by decide +kernel, the (by decide +kernel)⟩,
   ⟨(S (L : Dev)), (.host), (0), by decide +kernel, the ⟨by decide +kernel, ⟨(.confirm ((.host)) ((0))), by decide +kernel⟩⟩⟩,
   ⟨(S (syn 1 (bt (fun b => { b with fwTrial := true, fwTrialSlot := 1, fmtTrial := 3 }) (f4 L)) : Dev)), (.host), (0), by decide +kernel, the (the (by decide +kernel))⟩,
   ⟨(S (L : Dev)), (.host), by decide +kernel⟩,
   ⟨(S (zeros (stk2 L))), (.host), by decide +kernel, the (by decide +kernel)⟩,
   ⟨(S (recb 88 (stk2 L) : Dev)), (.host), by decide +kernel, the (by decide +kernel)⟩,
   ⟨(S (L : Dev)), (.host), (0), by decide +kernel⟩,
   ⟨(S (keyed [0, 3] (recb 77 (stk2 L)) : Dev)), (.host), (0), by decide +kernel⟩⟩

/-- Meets the hypotheses of `TrialsAndActivation` (its part ActivationGoesOn). -/
theorem witness_ActivationGoesOn :
    (∃ s : State, (s.leadRuns = false ∨ s.ccSynced s.understudy = false ∨ (s.upd.phase ≠ 1 ∧ s.upd.phase ≠ 3))) ∧
    (∃ s : State, ∃ h : List W32, h = s.obj bUPD 2 0 ∧ s.leadRuns = true ∧ s.ccSynced s.understudy = true ∧ s.upd.phase = 1 ∧ s.timeValid = true ∧ wordN h 0 < 1000000000 ∧ (∃ k < 32, (s.slot (224 + k)).state ≠ 1)) ∧
    (∃ s : State, s.leadRuns = true ∧ s.ccSynced s.understudy = true ∧ s.upd.phase = 3) ∧
    (∃ s : State, (s.cue.localNs < s.upd.stepAt + 30000000000 ∨ (s.upd.phase ≠ 1 ∧ s.upd.phase ≠ 3))) ∧
    (∃ s : State, s.upd.stepAt + 30000000000 ≤ s.cue.localNs ∧ s.upd.phase = 1 ∧ s.upd.back = false) ∧
    (∃ s : State, s.upd.stepAt + 30000000000 ≤ s.cue.localNs ∧ s.upd.phase = 3) :=
  ⟨⟨(S (L : Dev)), by decide +kernel⟩,
   ⟨(S (tv (ph 1 (syn 1 L)) : Dev)), the (by decide +kernel)⟩,
   ⟨(S (ph 3 (syn 1 L) : Dev)), by decide +kernel⟩,
   ⟨(S (L : Dev)), by decide +kernel⟩,
   ⟨(S (loc 40000000000 (ph 1) : Dev)), by decide +kernel⟩,
   ⟨(S (loc 40000000000 (ph 3) : Dev)), by decide +kernel⟩⟩

/-- Meets the hypotheses of `BootAndRecords` (its part ComplexesBoot). -/
theorem witness_ComplexesBoot :
    (∃ s : State, ∃ x : Fin 2, ∃ fit : Prop, fit = (s.pdOn (30 + x) = true ∧ s.pdBusy (30 + x) = false ∧ s.ccRuns x = false ∧ (7 + x.val) ∉ s.pwr.low) ∧ (¬ fit)) ∧
    (∃ s : State, ∃ x : Fin 2, ∃ fit : Prop, fit = (s.pdOn (30 + x) = true ∧ s.pdBusy (30 + x) = false ∧ s.ccRuns x = false ∧ (7 + x.val) ∉ s.pwr.low) ∧ fit ∧ s.ccRuns (1 - x.val) = true) ∧
    (∃ s : State, ∃ x : Fin 2, ∃ b : BootRec, b = s.upd.boot ∧ ∃ fit : Prop, fit = (s.pdOn (30 + x) = true ∧ s.pdBusy (30 + x) = false ∧ s.ccRuns x = false ∧ (7 + x.val) ∉ s.pwr.low) ∧ fit ∧ s.ccRuns (1 - x.val) = false ∧ b.fwActive < 2 ∧ b.fwTrialSlot < 2 ∧ b.fwTrial = false ∧ b.bookTrial = false) ∧
    (∃ s : State, ∃ x : Fin 2, ∃ b : BootRec, b = s.upd.boot ∧ ∃ fit : Prop, fit = (s.pdOn (30 + x) = true ∧ s.pdBusy (30 + x) = false ∧ s.ccRuns x = false ∧ (7 + x.val) ∉ s.pwr.low) ∧ fit ∧ s.ccRuns (1 - x.val) = false ∧ b.fwActive < 2 ∧ b.fwTrialSlot < 2 ∧ b.fwTrial = true ∧ b.fwAttempts < 3 ∧ b.bookTrial = false) ∧
    (∃ s : State, ∃ x : Fin 2, ∃ b : BootRec, b = s.upd.boot ∧ ∃ fit : Prop, fit = (s.pdOn (30 + x) = true ∧ s.pdBusy (30 + x) = false ∧ s.ccRuns x = false ∧ (7 + x.val) ∉ s.pwr.low) ∧ fit ∧ s.ccRuns (1 - x.val) = false ∧ b.fwActive < 2 ∧ b.fwTrialSlot < 2 ∧ b.fwTrial = true ∧ 3 ≤ b.fwAttempts) ∧
    (∃ s : State, ∃ x : Fin 2, ∃ b : BootRec, b = s.upd.boot ∧ ∃ fit : Prop, fit = (s.pdOn (30 + x) = true ∧ s.pdBusy (30 + x) = false ∧ s.ccRuns x = false ∧ (7 + x.val) ∉ s.pwr.low) ∧ fit ∧ s.ccRuns (1 - x.val) = false ∧ b.fwActive < 2 ∧ b.fwTrialSlot < 2 ∧ b.fwTrial = false ∧ s.fwBootable b.fwActive = false) ∧
    (∃ s : State, ∃ x : Fin 2, ∃ b : BootRec, b = s.upd.boot ∧ ∃ fit : Prop, fit = (s.pdOn (30 + x) = true ∧ s.pdBusy (30 + x) = false ∧ s.ccRuns x = false ∧ (7 + x.val) ∉ s.pwr.low) ∧ fit ∧ s.ccRuns (1 - x.val) = false ∧ b.fwActive < 2 ∧ b.fwTrialSlot < 2 ∧ s.fwBootable 0 = false ∧ s.fwBootable 1 = false) ∧
    (∃ s : State, ∃ x : Fin 2, ∃ b : BootRec, b = s.upd.boot ∧ b.fwTrial = true ∧ s.ccRuns x = true ∧ s.ccSlot x = b.fwTrialSlot ∧ s.holder = 0 ∧ s.upd.phase = 0) ∧
    (∃ s : State, ∃ x : Fin 2, ∃ b : BootRec, b = s.upd.boot ∧ (b.fwTrial = false ∨ s.ccRuns x = false ∨ s.ccSlot x ≠ b.fwTrialSlot ∨ s.holder ≠ 0 ∨ s.upd.phase ≠ 0)) ∧
    (∃ s : State, s.bases = true ∧ s.stage = 1 ∧ s.holder = 0) ∧
    (∃ s : State, (s.bases = false ∨ s.stage ≠ 1 ∨ s.holder ≠ 0)) :=
  ⟨⟨(S (L : Dev)), (0 : Fin 2), the (by decide +kernel)⟩,
   ⟨(S (off false true : Dev)), (0 : Fin 2), the (by decide +kernel)⟩,
   ⟨(S (off false false)), 0, the (the (by decide +kernel))⟩,
   ⟨(S (bt (fun b => { b with fwTrial := true, fwTrialSlot := 1, fwAttempts := 2 }) (off false false))), 0, the (the (by decide +kernel))⟩,
   ⟨(S (bt (fun b => { b with fwTrial := true, fwTrialSlot := 1, fwAttempts := 3 }) (off false false))), 0, the (the (by decide +kernel))⟩,
   ⟨(S (off false false)), 0, the (the (by decide +kernel))⟩,
   ⟨(S (off false false)), 0, the (the (by decide +kernel))⟩,
   ⟨(S (bt (fun b => { b with fwTrial := true, fwTrialSlot := 0 }) (nolead L) : Dev)), (0 : Fin 2), the (by decide +kernel)⟩,
   ⟨(S (L : Dev)), (0 : Fin 2), the (by decide +kernel)⟩,
   ⟨(S ((off false false).wf Reg.TOP_BOOT 0 0 0 3 1 : Dev)), by decide +kernel⟩,
   ⟨(S (L : Dev)), by decide +kernel⟩⟩

/-- Meets the hypotheses of `BootAndRecords` (its part RecordsAndFuses). -/
theorem witness_RecordsAndFuses :
    (∃ s : State, 16 ≤ (s.upd.crashAt.filter fun t => decide (s.cue.localNs < t + 3600000000000)).length) ∧
    (∃ s : State, (s.upd.crashAt.filter fun t => decide (s.cue.localNs < t + 3600000000000)).length < 16) ∧
    (∃ s : State, (s.leadRuns = false ∨ totalSize s.settings ≤ 3145728)) ∧
    (∃ s : State, s.leadRuns = true ∧ 3145728 < totalSize s.settings) ∧
    (∃ s : State, ∃ q : Req, ∃ n : BitVec 6, ∃ f : Fin 16, Reached s.toDev q Reg.TOP_FUSE_PROG 0 0 ∧ s.arming.get q = true ∧ (f = 0 ∨ 3 < f ∨ (f = 3 ∧ 2 ≤ n.toNat))) ∧
    (∃ s : State, ∃ q : Req, ∃ n : BitVec 6, (Reached s.toDev q Reg.TOP_FUSE_PROG 0 0 ∧ s.arming.get q = true ∧ n.toNat < 2 ∧ s.upd.revoked / 2 ^ n.toNat % 2 = 0) ∧ ∃ r : Nat, r = s.upd.revoked + 2 ^ n.toNat ∧ r = 3) ∧
    (∃ s : State, ∃ q : Req, ∃ n : BitVec 6, (Reached s.toDev q Reg.TOP_FUSE_PROG 0 0 ∧ s.arming.get q = true ∧ n.toNat < 2 ∧ s.upd.revoked / 2 ^ n.toNat % 2 = 0) ∧ ∃ r : Nat, r = s.upd.revoked + 2 ^ n.toNat ∧ r ≠ 3) :=
  ⟨⟨(S (crash 16 : Dev)), by decide +kernel⟩,
   ⟨(S (L : Dev)), by decide +kernel⟩,
   ⟨(S (crash 16 : Dev)), by decide +kernel⟩,
   ⟨(S (bigN 1200000 L)), by decide +kernel, by rw [bigN_size]; decide⟩,
   ⟨(S (crash 16 : Dev)), (.host), 0, 0, by decide +kernel⟩,
   ⟨(S (ud (fun u => { u with revoked := 1 }) L : Dev)), (.host), 1, by decide +kernel, the (by decide +kernel)⟩,
   ⟨(S (L : Dev)), (.host), 0#6, by decide +kernel, the (by decide +kernel)⟩⟩

end W20

namespace W21

def sp (n : Nat) (d : Dev := D0) : Dev := { d with upd := { d.upd with spdm := n, spdmA := [1], spdmB := [2], spdmL := [3] } }
def nolead (d : Dev) : Dev := d.wg Reg.CCX_CALL 0 0 0
def caps (a b : Nat) : List Byte := [0, 0] ++ bs 8 ++ leBytes 4 a ++ leBytes 4 b
def algs : List Byte := [0, 0] ++ leBytes 2 32 ++ [0, 0] ++ leBytes 4 128 ++ leBytes 4 2 ++ List.replicate 16 0
def react0 (d : Dev) : Dev := (List.range 14).foldl (fun d k => d.wf Reg.INT_CLASS_CFG 0 k 0 3 0) d
def ld (l : List Nat) (d : Dev) : Dev := { d with int := { d.int with loaded := l } }
def dif (l : List Nat) (d : Dev) : Dev := { d with int := { d.int with differ := l } }
def tw0 : Dev := react0 (ld [1, 129, 2, 130] twD)
def rt : Rep := { routes := [(routeKey 1 0 8 (9 * 2^120), (5, 1))] }
def tw1 : Dev := { tw0 with rep0 := rt, rep1 := rt }
def only (cs : List Nat) (d : Dev) : Dev := d.wg Reg.PWR_PD_STATUS 0 0 (cs.foldl (fun w c => setBit w c true) 0xFFFF0000#32)
def prb (c p : Nat) (w1 : Nat) (w2 : Nat) (d : Dev) : Dev := d.setObj bINT 3 (c * 8 + p) [at_ 0 8 (16 * c) ||| at_ 8 8 64 ||| at_ 16 16 0xFFFF, w32 w1, w32 w2, 0, 0, 0, at_ 31 1 1, 0]
def en (d : Dev) : Dev := d.wg Reg.INT_PROBE_CTRL 0 0 (1 ||| at_ 4 4 3)
def pb : Dev := react0 (en (only [2] tmD))
def iso (v : W32) (d : Dev := tmD) : Dev := d.wg Reg.INT_ISO 0 0 v
def unit5 (u : UnitId) (d : Dev := tmD) : Dev := { (d.setObj bINT 5 0 [u.code, 0, 0, 0]) with int := { d.int with units := [u.code.toNat, 99] } }
def ca (d : Dev) (p : Nat := 5) : Dev := { d with sta := { d.sta with cache := [(p, { packets := 3, bytes := 300, since := 0 })], copying := true, hbm := [(p, (7, 8))] } }
def s0 (d : Dev) : Dev := d.wf Reg.HBM_STACK_STATUS 0 0 0 3 4
def pm (v : Nat) (last : Option Nat) (d : Dev := D0) : Dev := { (d.wg (Reg.PMC_SEL 3) 0 1 (at_ 17 1 1)) with pmc := [(11, { value := v, lost := 2, last := last })], cue := { d.cue with localNs := 5000 } }

/-- Meets the hypotheses of `SpdmAnswers`. -/
theorem witness_SpdmAnswers :
    (∃ s : State, ∃ ver : Byte, ∃ body : List Byte, ∃ code : Nat, ∃ i : Instr, (i, code) ∈ [(Instr.getVersion ver body, 0x84), (.getCapabilities ver body, 0xE1), (.negotiateAlgorithms ver body, 0xE3), (.getDigests ver body, 0x81), (.getCertificate ver body, 0x82), (.challenge ver body, 0x83), (.getMeasurements ver body, 0xE0)] ∧ s.doeOpen = false) ∧
    (∃ s : State, ∃ ver : Byte, ∃ body : List Byte, ∃ code : Nat, ∃ i : Instr, (i, code) ∈ [(Instr.getVersion ver body, 0x84), (.getCapabilities ver body, 0xE1), (.negotiateAlgorithms ver body, 0xE3), (.getDigests ver body, 0x81), (.getCertificate ver body, 0x82), (.challenge ver body, 0x83), (.getMeasurements ver body, 0xE0)] ∧ s.doeOpen = true ∧ s.leadRuns = false) ∧
    (∃ s : State, ∃ ver : Byte, ∃ body : List Byte, ∃ code : Nat, ∃ i : Instr, (i, code) ∈ [(Instr.getVersion ver body, 0x84), (.getCapabilities ver body, 0xE1), (.negotiateAlgorithms ver body, 0xE3), (.getDigests ver body, 0x81), (.getCertificate ver body, 0x82), (.challenge ver body, 0x83), (.getMeasurements ver body, 0xE0)] ∧ s.doeOpen = true ∧ s.leadRuns = true ∧ code = 0x84 ∧ ver = 0x10 ∧ body.length = 2) ∧
    (∃ s : State, ∃ ver : Byte, ∃ body : List Byte, ∃ code : Nat, ∃ i : Instr, ((i, code) ∈ [(Instr.getVersion ver body, 0x84), (.getCapabilities ver body, 0xE1), (.negotiateAlgorithms ver body, 0xE3), (.getDigests ver body, 0x81), (.getCertificate ver body, 0x82), (.challenge ver body, 0x83), (.getMeasurements ver body, 0xE0)] ∧ s.doeOpen = true ∧ s.leadRuns = true) ∧ ∃ bad, bad = (if code = 0x84 then (if ver ≠ 0x10 then 0x41 else if body.length ≠ 2 then 1 else 0) else if ver ≠ 0x12 then 0x41 else if code = 0xE1 then (if s.upd.spdm ≠ 1 then 4 else if body.length ≠ 18 then 1 else 0) else if code = 0xE3 then (if s.upd.spdm ≠ 2 then 4 else if body.length < 30 then 1 else 0) else if s.upd.spdm ≠ 3 then 4 else if code = 0x81 ∧ body.length ≠ 2 then 1 else 0) ∧ bad ≠ 0) ∧
    (∃ s : State, ∃ ver : Byte, ∃ body : List Byte, ∃ code : Nat, ∃ i : Instr, (i, code) ∈ [(Instr.getVersion ver body, 0x84), (.getCapabilities ver body, 0xE1), (.negotiateAlgorithms ver body, 0xE3), (.getDigests ver body, 0x81), (.getCertificate ver body, 0x82), (.challenge ver body, 0x83), (.getMeasurements ver body, 0xE0)] ∧ ∃ m : List Byte, m = ver :: BitVec.ofNat 8 code :: body ∧ s.doeOpen = true ∧ s.leadRuns = true ∧ ver = 0x12 ∧ code = 0xE1 ∧ s.upd.spdm = 1 ∧ body.length = 18 ∧ 42 ≤ ofLe (slice m 12 4) ∧ ofLe (slice m 12 4) ≤ ofLe (slice m 16 4)) ∧
    (∃ s : State, ∃ ver : Byte, ∃ body : List Byte, ∃ code : Nat, ∃ i : Instr, (i, code) ∈ [(Instr.getVersion ver body, 0x84), (.getCapabilities ver body, 0xE1), (.negotiateAlgorithms ver body, 0xE3), (.getDigests ver body, 0x81), (.getCertificate ver body, 0x82), (.challenge ver body, 0x83), (.getMeasurements ver body, 0xE0)] ∧ ∃ m : List Byte, m = ver :: BitVec.ofNat 8 code :: body ∧ s.doeOpen = true ∧ s.leadRuns = true ∧ ver = 0x12 ∧ code = 0xE3 ∧ s.upd.spdm = 2 ∧ 30 ≤ body.length ∧ ofLe (slice m 4 2) = m.length) ∧
    (∃ s : State, ∃ ver : Byte, ∃ body : List Byte, ∃ code : Nat, ∃ i : Instr, (i, code) ∈ [(Instr.getVersion ver body, 0x84), (.getCapabilities ver body, 0xE1), (.negotiateAlgorithms ver body, 0xE3), (.getDigests ver body, 0x81), (.getCertificate ver body, 0x82), (.challenge ver body, 0x83), (.getMeasurements ver body, 0xE0)] ∧ s.doeOpen = true ∧ s.leadRuns = true ∧ ver = 0x12 ∧ code = 0x81 ∧ s.upd.spdm = 3 ∧ body.length = 2) ∧
    (∃ s : State, ∃ ver : Byte, ∃ body : List Byte, ∃ code : Nat, ∃ i : Instr, (i, code) ∈ [(Instr.getVersion ver body, 0x84), (.getCapabilities ver body, 0xE1), (.negotiateAlgorithms ver body, 0xE3), (.getDigests ver body, 0x81), (.getCertificate ver body, 0x82), (.challenge ver body, 0x83), (.getMeasurements ver body, 0xE0)] ∧ ∃ m : List Byte, m = ver :: BitVec.ofNat 8 code :: body ∧ s.doeOpen = true ∧ s.leadRuns = true ∧ ver = 0x12 ∧ code = 0x82 ∧ s.upd.spdm = 3 ∧ body.length = 6 ∧ msgByte m 2 % 16 = 0) ∧
    (∃ s : State, ∃ ver : Byte, ∃ body : List Byte, ∃ code : Nat, ∃ i : Instr, (i, code) ∈ [(Instr.getVersion ver body, 0x84), (.getCapabilities ver body, 0xE1), (.negotiateAlgorithms ver body, 0xE3), (.getDigests ver body, 0x81), (.getCertificate ver body, 0x82), (.challenge ver body, 0x83), (.getMeasurements ver body, 0xE0)] ∧ ∃ m : List Byte, m = ver :: BitVec.ofNat 8 code :: body ∧ s.doeOpen = true ∧ s.leadRuns = true ∧ ver = 0x12 ∧ code = 0x83 ∧ s.upd.spdm = 3 ∧ body.length = 34 ∧ msgByte m 2 = 0 ∧ msgByte m 3 = 0) ∧
    (∃ s : State, ∃ ver : Byte, ∃ body : List Byte, ∃ code : Nat, ∃ i : Instr, ∃ op : Nat, (i, code) ∈ [(Instr.getVersion ver body, 0x84), (.getCapabilities ver body, 0xE1), (.negotiateAlgorithms ver body, 0xE3), (.getDigests ver body, 0x81), (.getCertificate ver body, 0x82), (.challenge ver body, 0x83), (.getMeasurements ver body, 0xE0)] ∧ ∃ m : List Byte, m = ver :: BitVec.ofNat 8 code :: body ∧ s.doeOpen = true ∧ s.leadRuns = true ∧ ver = 0x12 ∧ code = 0xE0 ∧ s.upd.spdm = 3 ∧ body.length = 2 ∧ msgByte m 2 % 2 = 0 ∧ msgByte m 3 = op ∧ 1 ≤ op ∧ op ≤ 8) :=
  ⟨⟨(S ({ sp 0 with pci := { D0.pci with link := 0 } } : Dev)), 0x10#8, [0, 0], (0x84), (Instr.getVersion 0x10#8 [0, 0]), by decide +kernel⟩,
   ⟨(S (nolead (sp 0) : Dev)), 0x10#8, [0, 0], (0x84), (Instr.getVersion 0x10#8 [0, 0]), by decide +kernel⟩,
   ⟨(S (sp 0 : Dev)), 0x10#8, [0, 0], (0x84), (Instr.getVersion 0x10#8 [0, 0]), by decide +kernel⟩,
   ⟨(S (sp 0 : Dev)), 0x10#8, [0, 0], (0xE1), (.getCapabilities 0x10#8 [0, 0]), by decide +kernel, the (by decide +kernel)⟩,
   ⟨(S (sp 1 : Dev)), 0x12, (caps 42 42), (0xE1), (.getCapabilities 0x12 (caps 42 42)), by decide +kernel, the (by decide +kernel)⟩,
   ⟨(S (sp 2 : Dev)), 0x12, algs, (0xE3), (.negotiateAlgorithms 0x12 algs), by decide +kernel, the (by decide +kernel)⟩,
   ⟨(S (sp 3 : Dev)), 0x12, [0, 0], (0x81), (.getDigests 0x12 [0, 0]), by decide +kernel⟩,
   ⟨(S (sp 3)), 0x12, [0, 0, 0, 0, 0, 0], 0x82, (.getCertificate 0x12 [0, 0, 0, 0, 0, 0]), by decide +kernel, the (by decide +kernel)⟩,
   ⟨(S (sp 3 : Dev)), 0x12, ([0,0] ++ bs 32), (0x83), (.challenge 0x12 ([0,0] ++ bs 32)), by decide +kernel, the (by decide +kernel)⟩,
   ⟨(S (sp 3 : Dev)), 0x12, [0, 5], (0xE0), (.getMeasurements 0x12 [0, 5]), 5, by decide +kernel, the (by decide +kernel)⟩⟩

/-- Meets the hypotheses of `ErrorsAreDetected`. -/
theorem witness_ErrorsAreDetected :
    (∃ s : State, s.reactOf 1 = 0 ∧ s.reactOf 2 = 0 ∧ s.reactOf 4 = 0 ∧ s.reactOf 5 = 0) ∧
    (∃ s : State, ∃ t7 : BitVec 7, s.reactOf 1 = 0 ∧ s.reactOf 2 = 0 ∧ s.reactOf 4 = 0 ∧ s.reactOf 5 = 0 ∧ (s.shape? t7.toNat 0 = none ∨ s.compares t7.toNat = false)) ∧
    (∃ s : State, ∃ t7 : BitVec 7, ∃ seg : BitVec 12, ∃ f0 : W32, ∃ f1 : W32, ∃ x : TShape, (s.reactOf 1 = 0 ∧ s.reactOf 2 = 0 ∧ s.reactOf 4 = 0 ∧ s.reactOf 5 = 0 ∧ s.shape? t7.toNat 0 = some x ∧ s.compares t7.toNat = true) ∧ ∃ d : W32 × W32 × W32, d = s.digests x seg.toNat f0 f1 ∧ d.1 = d.2.1) ∧
    (∃ s : State, ∃ t7 : BitVec 7, ∃ seg : BitVec 12, ∃ f0 : W32, ∃ f1 : W32, ∃ x : TShape, (s.reactOf 1 = 0 ∧ s.reactOf 2 = 0 ∧ s.reactOf 4 = 0 ∧ s.reactOf 5 = 0 ∧ s.shape? t7.toNat 0 = some x ∧ s.compares t7.toNat = true) ∧ ∃ d : W32 × W32 × W32, d = s.digests x seg.toNat f0 f1 ∧ d.1 ≠ d.2.1) ∧
    (∃ s : State, ∃ t7 : BitVec 7, ∃ seg : BitVec 12, ∃ f0 : W32, ∃ f1 : W32, ∃ x : TShape, (s.reactOf 1 = 0 ∧ s.reactOf 2 = 0 ∧ s.reactOf 4 = 0 ∧ s.reactOf 5 = 0) ∧ ∃ key : Nat, key = t7.toNat * 4096 + seg.toNat ∧ (s.shape? t7.toNat 0 = some x ∧ s.compares t7.toNat = true) ∧ ∃ d : W32 × W32 × W32, d = s.digests x seg.toNat f0 f1 ∧ key ∈ s.int.differ ∧ d.1 ≠ d.2.1) ∧
    (∃ s : State, ∃ t7 : BitVec 7, ∃ seg : BitVec 12, ∃ f0 : W32, ∃ f1 : W32, ∃ x : TShape, (s.reactOf 1 = 0 ∧ s.reactOf 2 = 0 ∧ s.reactOf 4 = 0 ∧ s.reactOf 5 = 0) ∧ ∃ key : Nat, key = t7.toNat * 4096 + seg.toNat ∧ (s.shape? t7.toNat 0 = some x ∧ s.compares t7.toNat = true) ∧ ∃ d : W32 × W32 × W32, d = s.digests x seg.toNat f0 f1 ∧ key ∈ s.int.differ ∧ d.1 = d.2.1) ∧
    (∃ s : State, ∃ t7 : BitVec 7, ∃ seg : BitVec 12, (s.reactOf 1 = 0 ∧ s.reactOf 2 = 0 ∧ s.reactOf 4 = 0 ∧ s.reactOf 5 = 0) ∧ ∃ key : Nat, key = t7.toNat * 4096 + seg.toNat ∧ key ∉ s.int.differ) ∧
    (∃ s : State, s.reactOf 1 = 0 ∧ s.reactOf 2 = 0 ∧ s.reactOf 4 = 0 ∧ s.reactOf 5 = 0 ∧ s.pdOn 19 = false) ∧
    (∃ s : State, s.reactOf 1 = 0 ∧ s.reactOf 2 = 0 ∧ s.reactOf 4 = 0 ∧ s.reactOf 5 = 0 ∧ s.pdOn 19 = true) :=
  ⟨⟨(S (tw0 : Dev)), by decide +kernel⟩,
   ⟨(S (tw0 : Dev)), 0, by decide +kernel⟩,
   ⟨(S (tw0 : Dev)), 1#7, 7#12, 0#32, 0#32, tblF, by decide +kernel, the (by decide +kernel)⟩,
   ⟨(S (tw0 : Dev)), 1#7, 7#12, 1, 0, tblF, by decide +kernel, the (by decide +kernel)⟩,
   ⟨(S (dif [1 * 4096 + 7] tw1)), 1, 7, 1, 0, tblF, by decide +kernel, the ⟨by decide +kernel, the ⟨by decide +kernel, fun h => absurd ((BitVec.xor_right_inj _).mp h) (by decide)⟩⟩⟩,
   ⟨(S (dif [1 * 4096 + 7] tw1)), 1, 7, 0, 0, tblF, by decide +kernel, the ⟨by decide +kernel, the ⟨by decide +kernel, rfl⟩⟩⟩,
   ⟨(S (tw0 : Dev)), 0, 0, by decide +kernel, the (by decide +kernel)⟩,
   ⟨(S ((react0 D0).wg Reg.PWR_PD_STATUS 0 0 0 : Dev)), by decide +kernel⟩,
   ⟨(S (tw0 : Dev)), by decide +kernel⟩⟩

/-- Meets the hypotheses of `ErrorsAreDetected` (its part ProbesRun). -/
theorem witness_ProbesRun :
    (∃ s : State, bit (s.rg Reg.INT_PROBE_CTRL 0 0) 0 = false) ∧
    (∃ s : State, ∃ c : Fin 16, bit (s.rg Reg.INT_PROBE_CTRL 0 0) 0 = true ∧ (∀ c' < 16, c' ≠ c.val → s.pdOn c' = false) ∧ (s.pdOn c = false ∨ s.clusterIso c = true ∨ s.noBook = true ∨ s.drained (c.val / 8) = true)) ∧
    (∃ s : State, ∃ c : Fin 16, bit (s.rg Reg.INT_PROBE_CTRL 0 0) 0 = true ∧ (∀ c' < 16, c' ≠ c.val → s.pdOn c' = false) ∧ s.pdOn c = true ∧ s.clusterIso c = false ∧ s.noBook = false ∧ s.drained (c.val / 8) = false ∧ (∀ p < 8, s.probeOn c p = false)) ∧
    (∃ s : State, ∃ c : Fin 16, ∃ p : Fin 8, bit (s.rg Reg.INT_PROBE_CTRL 0 0) 0 = true ∧ ∃ u : Dev, (u = { s.toDev with int := { s.int with noCover := s.int.noCover.filter fun k => k % 16 == s.epochNow } }) ∧ (∀ c' < 16, c' ≠ c.val → s.pdOn c' = false) ∧ s.pdOn c = true ∧ s.clusterIso c = false ∧ s.noBook = false ∧ s.drained (c.val / 8) = false ∧ s.probeOn c p = true ∧ (∀ p' < 8, p' ≠ p.val → s.probeOn c p' = false) ∧ probeMiss (s.probeCtl c p) (u.probeTicket c p).2 = none) ∧
    (∃ s : State, ∃ c : Fin 16, ∃ p : Fin 8, bit (s.rg Reg.INT_PROBE_CTRL 0 0) 0 = true ∧ ∃ u : Dev, (u = { s.toDev with int := { s.int with noCover := s.int.noCover.filter fun k => k % 16 == s.epochNow } }) ∧ (∀ c' < 16, c' ≠ c.val → s.pdOn c' = false) ∧ s.pdOn c = true ∧ s.clusterIso c = false ∧ s.noBook = false ∧ s.drained (c.val / 8) = false ∧ s.probeOn c p = true ∧ (∀ p' < 8, p' ≠ p.val → s.probeOn c p' = false) ∧ probeMiss (s.probeCtl c p) (u.probeTicket c p).2 ≠ none ∧ s.reactOf 6 = 0) :=
  ⟨⟨(S (D0.wg Reg.INT_PROBE_CTRL 0 0 0 : Dev)), by decide +kernel⟩,
   ⟨(S (pb.wg Reg.INT_ISO 0 0 4 : Dev)), 2, by decide +kernel⟩,
   ⟨(S (pb : Dev)), 2, by decide +kernel⟩,
   ⟨(S (prb 2 3 0 0 pb : Dev)), 2, 3, by decide +kernel, the (by decide +kernel)⟩,
   ⟨(S (prb 2 3 5 0xFFFFFFFF pb : Dev)), 2, 3, by decide +kernel, the (by decide +kernel)⟩⟩

/-- Meets the hypotheses of `IsolationAndStatistics` (its part IsolationEnds). -/
theorem witness_IsolationEnds :
    (∃ s : State, ∃ q : Req, ∃ n : BitVec 17, Reached s.toDev q Reg.INT_RELEASE 0 0 ∧ ∃ go : Bool, ∃ i : Instr, i ∈ [Instr.releaseCluster q n go, .releaseFRegion q n go, .releaseTRegion q n go, .releaseUnit q n go] ∧ (go = false ∨ s.stopped = true)) ∧
    (∃ s : State, ∃ q : Req, ∃ n : BitVec 17, Reached s.toDev q Reg.INT_RELEASE 0 0 ∧ s.stopped = false ∧ 16 ≤ n.toNat) ∧
    (∃ s : State, ∃ q : Req, ∃ n : BitVec 17, Reached s.toDev q Reg.INT_RELEASE 0 0 ∧ s.stopped = false ∧ n.toNat < 16) ∧
    (∃ s : State, ∃ q : Req, ∃ n : BitVec 17, Reached s.toDev q Reg.INT_RELEASE 0 0 ∧ s.stopped = false ∧ (2 ≤ n.toNat ∨ s.fIso n.toNat = false ∨ s.resyncing n.toNat = true)) ∧
    (∃ s : State, ∃ q : Req, ∃ n : BitVec 17, Reached s.toDev q Reg.INT_RELEASE 0 0 ∧ s.stopped = false ∧ n.toNat < 2 ∧ s.fIso n.toNat = true ∧ s.resyncing n.toNat = false) ∧
    (∃ s : State, ∃ q : Req, ∃ n : BitVec 17, Reached s.toDev q Reg.INT_RELEASE 0 0 ∧ s.stopped = false ∧ (2 ≤ n.toNat ∨ s.tIso n.toNat = false)) ∧
    (∃ s : State, ∃ q : Req, ∃ n : BitVec 17, Reached s.toDev q Reg.INT_RELEASE 0 0 ∧ s.stopped = false ∧ n.toNat < 2 ∧ s.tIso n.toNat = true) ∧
    (∃ s : State, ∃ q : Req, ∃ n : BitVec 17, Reached s.toDev q Reg.INT_RELEASE 0 0 ∧ ∃ code : Nat, code = wordN (s.obj bINT 5 0) 0 ∧ s.stopped = false ∧ (code ∉ s.int.units ∨ n.toNat ≠ (UnitId.ofCode (word (s.obj bINT 5 0) 0)).inst)) ∧
    (∃ s : State, ∃ q : Req, ∃ n : BitVec 17, Reached s.toDev q Reg.INT_RELEASE 0 0 ∧ ∃ code : Nat, code = wordN (s.obj bINT 5 0) 0 ∧ s.stopped = false ∧ code ∈ s.int.units ∧ n.toNat = (UnitId.ofCode (word (s.obj bINT 5 0) 0)).inst) ∧
    (∃ s : State, ∃ r : Fin 2, (s.resyncing r = false ∨ s.stopped = true)) ∧
    (∃ s : State, ∃ r : Fin 2, s.resyncing r = true ∧ s.stopped = false) :=
  ⟨⟨(S tmD), (.host), 0, by decide +kernel, ⟨false, ⟨(.releaseCluster ((.host)) 0 false), by decide +kernel⟩⟩⟩,
   ⟨(S (tmD : Dev)), (.host), (BitVec.ofNat 17 20), by decide +kernel⟩,
   ⟨(S tmD), (.host), 0, by decide +kernel⟩,
   ⟨(S tmD), (.host), 0, by decide +kernel⟩,
   ⟨(S (iso 0x30000 : Dev)), (.host), (BitVec.ofNat 17 0), by decide +kernel⟩,
   ⟨(S tmD), (.host), 0, by decide +kernel⟩,
   ⟨(S (iso 0xC0000 : Dev)), (.host), (BitVec.ofNat 17 0), by decide +kernel⟩,
   ⟨(S tmD), (.host), 0, by decide +kernel, the (by decide +kernel)⟩,
   ⟨(S (unit5 (queueUnit 7) : Dev)), (.host), (BitVec.ofNat 17 7), by decide +kernel, the (by decide +kernel)⟩,
   ⟨(S tmD), 0, by decide +kernel⟩,
   ⟨(S (iso 0x310000 : Dev)), (0 : Fin 2), by decide +kernel⟩⟩

/-- Meets the hypotheses of `IsolationAndStatistics` (its part CountersAreKept). -/
theorem witness_CountersAreKept :
    (∃ s : State, ∃ pair : BitVec 26, (s.sta.cache.find? fun e => e.1 == pair.toNat) = none) ∧
    (∃ s : State, ∃ pair : BitVec 26, (s.sta.cache.find? fun e => e.1 == pair.toNat) ≠ none ∧ s.statServes pair.toNat = true) ∧
    (∃ s : State, ∃ pair : BitVec 26, ∃ err : Bool, (s.sta.cache.find? fun e => e.1 == pair.toNat) ≠ none ∧ s.reactOf 12 = 0 ∧ (err = true ∨ s.statServes pair.toNat = false)) ∧
    (∃ s : State, s.sta.copying = false) ∧
    (∃ s : State, s.sta.copying = true) ∧
    (∃ s : State, ∃ id : Fin 320, ∃ k : PmcCtr, k = mget {} s.pmc id ∧ (s.sampling id = false ∨ k.value < 2 ^ 48)) ∧
    (∃ s : State, ∃ id : Fin 320, ∃ k : PmcCtr, k = mget {} s.pmc id ∧ s.sampling id = true ∧ 2 ^ 48 ≤ k.value ∧ (∃ t, k.last = some t ∧ s.cue.localNs < t + 1000)) ∧
    (∃ s : State, ∃ id : Fin 320, ∃ k : PmcCtr, k = mget {} s.pmc id ∧ (s.sampling id = true ∧ 2 ^ 48 ≤ k.value) ∧ (∀ t, k.last = some t → t + 1000 ≤ s.cue.localNs) ∧ ∃ e : Nat, e = 1024 + s.rf Reg.PMC_CTRL 0 0 8 6 % 64 ∧ s.ringState e = 1 ∧ 0 < s.freeSlots e ∧ s.mastering = true) :=
  ⟨⟨(S D0), 5, by decide +kernel⟩,
   ⟨(S (ca (s0 tmD))), 5, by decide +kernel⟩,
   ⟨(S (ca (s0 tmD))), 5, true, by decide +kernel⟩,
   ⟨(S D0), by decide +kernel⟩,
   ⟨(S (ca (s0 tmD))), by decide +kernel⟩,
   ⟨(S D0), 0, the (by decide +kernel)⟩,
   ⟨(S (pm (2^48 + 7) (some 4500) : Dev)), (11 : Fin 320), the (by decide +kernel)⟩,
   ⟨(S (pm (2 ^ 48) none (D0.ringWg Reg.DMA_DEV_IDX 1024 (at_ 16 3 1)))), 11, the ⟨by decide +kernel, held (by decide +kernel), the (by decide +kernel)⟩⟩⟩

end W21

namespace W22

def hold (d : Dev := tmD) : Dev := d.wf Reg.PWR_TEMP 0 0 18 1 1
def ctl (v : W32) (d : Dev := tmD) : Dev := (d.setPdCtrl v)
def stt (v : W32) (d : Dev := tmD) : Dev := d.wg Reg.PWR_PD_STATUS 0 0 v
def full : W32 := 0xFFFFFFFF
def goal (k : Nat) (b : Bool) (d : Dev := tmD) : Dev := d.setGoal k b
def bs8 (f : Bool) (i : Bool) (hs : Bool) (d : Dev := tmD) : Dev := Dev.stopDevice { d with pwr := { d.pwr with fDie := f, installing := i, hardStop := hs } }
def nob (d : Dev) : Dev := { d with bases := false }
def st1 (d : Dev) : Dev := d.setPbk 1 0 0 false
def stp (d : Dev) : Dev := { d with ccx := { d.ccx with runA := false, runB := false } }
def lows (l : List Nat) (d : Dev := tmD) : Dev := { d with pwr := { d.pwr with low := l } }
def hf (a c : Nat) (wf wt : Bool) (d : Dev := tmD) : Dev := { d with pwr := { d.pwr with hotF := a, hotT := c, warmF := wf, warmT := wt } }
def noen (d : Dev) : Dev := d.wf Reg.PWR_THERM 0 0 24 1 0
def en1 (d : Dev) : Dev := d.wf Reg.PWR_THERM 0 0 24 1 1

/-- Meets the hypotheses of `DomainsSwitch`. -/
theorem witness_DomainsSwitch :
    (∃ s : State, ∃ q : Req, ∃ v : W32, Reached s.toDev q Reg.PWR_PD_CTRL 0 0 ∧ s.arming.get q = true ∧ (∀ e < 32, s.variant.hasDomain e = true → bit v e = bit s.pdCtrl e) ∧ s.tempHold = false) ∧
    (∃ s : State, ∃ q : Req, ∃ v : W32, Reached s.toDev q Reg.PWR_PD_CTRL 0 0 ∧ s.arming.get q = true ∧ (∀ e < 32, s.variant.hasDomain e = true → bit v e = bit s.pdCtrl e) ∧ s.tempHold = true) ∧
    (∃ s : State, ∃ q : Req, ∃ d : Fin 32, ∃ v : W32, ∃ on : Bool, Reached s.toDev q Reg.PWR_PD_CTRL 0 0 ∧ s.arming.get q = true ∧ s.variant.hasDomain d = true ∧ bit s.pdCtrl d ≠ on ∧ v = setBit s.pdCtrl d on ∧ s.tempHold = true) ∧
    (∃ s : State, ∃ q : Req, ∃ d : Fin 32, ∃ v : W32, ∃ on : Bool, ∃ n : Nat, Reached s.toDev q Reg.PWR_PD_CTRL 0 0 ∧ s.arming.get q = true ∧ s.variant.hasDomain d = true ∧ bit s.pdCtrl d ≠ on ∧ v = setBit s.pdCtrl d on ∧ s.tempHold = false ∧ s.pdRefusal d on = some n) ∧
    (∃ s : State, ∃ q : Req, ∃ d : Fin 32, ∃ v : W32, ∃ on : Bool, Reached s.toDev q Reg.PWR_PD_CTRL 0 0 ∧ s.arming.get q = true ∧ s.variant.hasDomain d = true ∧ bit s.pdCtrl d ≠ on ∧ v = setBit s.pdCtrl d on ∧ s.tempHold = false ∧ s.pdRefusal d on = none ∧ s.pdBusy d = false ∧ s.pdOn d ≠ on) ∧
    (∃ s : State, ∃ d : Fin 32, (∀ e ∈ s.pwr.goal, e.1 ≠ d.val)) ∧
    (∃ s : State, ∃ d : Fin 32, ∃ on : Bool, s.pwr.goal.find? (fun e => e.1 == d.val) = some (d.val, on) ∧ bit s.pdCtrl d = on ∧ on = true ∧ 20 ≤ d.val ∧ d.val < 28 ∧ (d.val - 20) ∉ s.pwr.pg) ∧
    (∃ s : State, ∃ d : Fin 32, ∃ on : Bool, s.pwr.goal.find? (fun e => e.1 == d.val) = some (d.val, on) ∧ bit s.pdCtrl d = on ∧ (on = false ∨ d.val < 20 ∨ 28 ≤ d.val ∨ (d.val - 20) ∈ s.pwr.pg) ∧ (on = false → s.pdOn d = false)) :=
  ⟨⟨(S ((ctl full) : Dev)), (.host), (((ctl full) : Dev).pdCtrl), by decide +kernel⟩,
   ⟨(S ((hold (ctl full)) : Dev)), (.host), (((hold (ctl full)) : Dev).pdCtrl), by decide +kernel⟩,
   ⟨(S ((hold (ctl full)) : Dev)), (.host), (Fin.ofNat 32 (0 : Nat) : Fin 32), (setBit ((hold (ctl full)) : Dev).pdCtrl (0 : Nat) false), false, by decide +kernel⟩,
   ⟨(S ((ctl full) : Dev)), (.host), (Fin.ofNat 32 (16 : Nat) : Fin 32), (setBit ((ctl full) : Dev).pdCtrl (16 : Nat) false), false, ((((ctl full) : Dev).pdRefusal (16 : Nat) false).getD 99), by decide +kernel⟩,
   ⟨(S ((ctl full) : Dev)), (.host), (Fin.ofNat 32 (0 : Nat) : Fin 32), (setBit ((ctl full) : Dev).pdCtrl (0 : Nat) false), false, by decide +kernel⟩,
   ⟨(S ((ctl full) : Dev)), 0, by decide +kernel⟩,
   ⟨(S ((goal 21 true (ctl full (stt 0xFFDFFFFF))) : Dev)), (Fin.ofNat 32 (21 : Nat) : Fin 32), true, by decide +kernel⟩,
   ⟨(S ((goal 3 true (ctl full (stt 0xFFFFFFF7))) : Dev)), (Fin.ofNat 32 (3 : Nat) : Fin 32), true, by decide +kernel⟩⟩

/-- Meets the hypotheses of `ResetsAct`. -/
theorem witness_ResetsAct :
    (∃ s : State, ∃ q : Req, ∃ v : W32, Reached s.toDev q Reg.TOP_RESET 0 0 ∧ s.arming.get q = true ∧ bit v 1 = false ∧ bit v 2 = false ∧ bit v 3 = false ∧ bit v 13 = false ∧ s.bases = false) ∧
    (∃ s : State, ∃ q : Req, ∃ v : W32, Reached s.toDev q Reg.TOP_RESET 0 0 ∧ s.arming.get q = true ∧ bit v 1 = false ∧ bit v 2 = false ∧ bit v 3 = false ∧ bit v 13 = false ∧ s.bases = true) ∧
    (∃ s : State, ∃ q : Req, Reached s.toDev q Reg.TOP_RESET 0 0 ∧ s.arming.get q = true ∧ s.tempHold = true) ∧
    (∃ s : State, ∃ q : Req, Reached s.toDev q Reg.TOP_RESET 0 0 ∧ s.arming.get q = true ∧ s.tempHold = false) ∧
    (∃ s : State, ∃ q : Req, ∃ v : W32, Reached s.toDev q Reg.TOP_RESET 0 0 ∧ s.arming.get q = true ∧ bit v 0 = false ∧ bit v 1 = false ∧ bit v 13 = false ∧ bit v 3 = false) ∧
    (∃ s : State, ∃ q : Req, ∃ v : W32, Reached s.toDev q Reg.TOP_RESET 0 0 ∧ s.arming.get q = true ∧ bit v 0 = false ∧ bit v 1 = false ∧ bit v 13 = false ∧ bit v 2 = false) ∧
    (∃ s : State, ∃ q : Req, ∃ v : W32, (Reached s.toDev q Reg.TOP_RESET 0 0 ∧ s.arming.get q = true ∧ bit v 0 = false ∧ bit v 1 = false ∧ bit v 2 = false ∧ bit v 3 = false) ∧ ∃ b : Nat, b = fld v 8 5 ∧ b ∈ [bTOP, bPWR, bCUE, bCCX, bINT]) ∧
    (∃ s : State, ∃ q : Req, ∃ v : W32, (Reached s.toDev q Reg.TOP_RESET 0 0 ∧ s.arming.get q = true ∧ bit v 0 = false ∧ bit v 1 = false ∧ bit v 2 = false ∧ bit v 3 = false) ∧ ∃ b : Nat, b = fld v 8 5 ∧ b ∉ [bTOP, bPWR, bCUE, bCCX, bINT] ∧ (nBlocks ≤ b ∨ s.absentAt (b * windowSize) = true)) ∧
    (∃ s : State, ∃ q : Req, ∃ v : W32, (Reached s.toDev q Reg.TOP_RESET 0 0 ∧ s.arming.get q = true ∧ bit v 0 = false ∧ bit v 1 = false ∧ bit v 2 = false ∧ bit v 3 = false) ∧ ∃ b : Nat, b = fld v 8 5 ∧ b ∉ [bTOP, bPWR, bCUE, bCCX, bINT] ∧ b < nBlocks ∧ s.absentAt (b * windowSize) = false) ∧
    (∃ s : State, (s.pwr.fDie = false ∨ s.pwr.installing = false ∨ s.pbkBusy = true ∨ (s.pbkState ≠ 1 ∧ s.pbk.inForce.isSome = true))) ∧
    (∃ s : State, s.pwr.fDie = true ∧ s.pwr.installing = true ∧ s.pbkBusy = false ∧ (s.pbkState = 1 ∨ s.pbk.inForce = none)) ∧
    (∃ s : State, ∃ x : Fin 2, s.ccRuns x = false) ∧
    (∃ s : State, ∃ x : Fin 2, s.ccRuns x = true) :=
  ⟨⟨(S (nob tmD : Dev)), (.host), (BitVec.ofNat 32 (1 : Nat)), by decide +kernel⟩,
   ⟨(S (tmD : Dev)), (.host), (BitVec.ofNat 32 (1 : Nat)), by decide +kernel⟩,
   ⟨(S (hold tmD : Dev)), (.host), by decide +kernel⟩,
   ⟨(S (nob tmD : Dev)), (.host), by decide +kernel⟩,
   ⟨(S (hold tmD : Dev)), (.host), 0, by decide +kernel⟩,
   ⟨(S (hold tmD : Dev)), (.host), 0, by decide +kernel⟩,
   ⟨(S (hold tmD : Dev)), (.host), 0, by decide +kernel, the (by decide +kernel)⟩,
   ⟨(S (tmD : Dev)), (.host), (BitVec.ofNat 32 (0x3F00 : Nat)), by decide +kernel, the (by decide +kernel)⟩,
   ⟨(S (tmD : Dev)), (.host), (BitVec.ofNat 32 (0x2800 : Nat)), by decide +kernel, the (by decide +kernel)⟩,
   ⟨(S (nob tmD : Dev)), by decide +kernel⟩,
   ⟨(S (bs8 true true true (st1 tmD) : Dev)), by decide +kernel⟩,
   ⟨(S (stp tmD : Dev)), (0 : Fin 2), by decide +kernel⟩,
   ⟨(S (nob tmD : Dev)), 0, by decide +kernel⟩⟩

/-- Meets the hypotheses of `SupervisionActs`. -/
theorem witness_SupervisionActs :
    (∃ s : State, s.bases = false) ∧
    (∃ s : State, ∃ a : Byte, ∃ c : Byte, ∃ hot : Prop, (hot = (s.tshut ≤ a.toNat ∧ s.pwr.hotF ≠ 0 ∨ s.tshut ≤ c.toNat ∧ s.pwr.hotT ≠ 0)) ∧ s.bases = true ∧ (¬ hot ∨ s.thermEn = false)) ∧
    (∃ s : State, ∃ a : Byte, ∃ c : Byte, ∃ hot : Prop, (hot = (s.tshut ≤ a.toNat ∧ s.pwr.hotF ≠ 0 ∨ s.tshut ≤ c.toNat ∧ s.pwr.hotT ≠ 0)) ∧ s.bases = true ∧ hot ∧ s.thermEn = true ∧ s.tempHold = false) ∧
    (∃ s : State, ∃ f : List (Option Byte), s.bases = true ∧ none ∈ f.take 16 ∧ s.thermEn = false) ∧
    (∃ s : State, ∃ die : Bool, s.bases = true ∧ bit (s.rg Reg.PWR_TEMP 0 0) (if die = true then 17 else 16) = true) ∧
    (∃ s : State, ∃ die : Bool, s.bases = true ∧ bit (s.rg Reg.PWR_TEMP 0 0) (if die = true then 17 else 16) = false ∧ s.tempHold = false) ∧
    (∃ r : Fin 10, r.val = 9) ∧
    (∃ r : Fin 10, r.val ≠ 9) ∧
    (∃ s : State, ∃ r : Fin 10, r.val ∉ s.pwr.low) ∧
    (∃ s : State, ∃ r : Fin 10, r.val ∈ s.pwr.low ∧ (3 ≤ r.val ∨ (∃ x ∈ s.pwr.low, x < 3 ∧ x ≠ r.val))) ∧
    (∃ s : State, ∃ r : Fin 10, r.val ∈ s.pwr.low ∧ r.val < 3 ∧ (∀ x ∈ s.pwr.low, x < 3 → x = r.val) ∧ s.bases = true) ∧
    (∃ i : Tap, (i = .bypass ∨ i = .idcode ∨ i = .samplePreload)) ∧
    (∃ i : Tap, i ≠ .bypass ∧ i ≠ .idcode ∧ i ≠ .samplePreload) :=
  ⟨⟨(S (nob tmD : Dev)), by decide +kernel⟩,
   ⟨(S (en1 tmD : Dev)), (BitVec.ofNat 8 20), (BitVec.ofNat 8 30), the (by decide +kernel)⟩,
   ⟨(S (hf 1 0 false false (en1 tmD) : Dev)), (BitVec.ofNat 8 127), (BitVec.ofNat 8 127), the (by decide +kernel)⟩,
   ⟨(S (noen tmD : Dev)), [none], by decide +kernel⟩,
   ⟨(S (tmD.wf Reg.PWR_TEMP 0 0 16 2 3 : Dev)), true, by decide +kernel⟩,
   ⟨(S (en1 tmD : Dev)), false, by decide +kernel⟩,
   ⟨(9 : Fin 10), by decide +kernel⟩,
   ⟨0, by decide +kernel⟩,
   ⟨(S (nob tmD : Dev)), 0, by decide +kernel⟩,
   ⟨(S (lows [0, 1] : Dev)), (0 : Fin 10), by decide +kernel⟩,
   ⟨(S (lows [0] : Dev)), (0 : Fin 10), by decide +kernel⟩,
   ⟨.bypass, by decide +kernel⟩,
   ⟨(.extest), by decide +kernel⟩⟩

end W22

/-- Meets the hypotheses of `MailboxBusy`: block 2 idle, busy, and with VALID set. -/
theorem witness_MailboxBusy :
    (∃ s : State, ∃ q : Req, ∃ b : Fin 29, Reached s.toDev q Reg.MBX_CMD 0 b ∧ s.rf Reg.MBX_STATUS 0 b 1 1 = 0) ∧
    (∃ s : State, ∃ q : Req, ∃ b : Fin 29, Reached s.toDev q Reg.MBX_CMD 0 b ∧ s.rf Reg.MBX_STATUS 0 b 1 1 = 1) ∧
    (∃ s : State, ∃ q : Req, ∃ b : Fin 29, ∃ k : Fin 8, Reached s.toDev q (Reg.MBX_DATA k) 0 b ∧ s.rf Reg.MBX_STATUS 0 b 1 1 = 1) ∧
    (∃ s : State, ∃ q : Req, ∃ b : Fin 29, ∃ k : Fin 8, Reached s.toDev q (Reg.MBX_DATA k) 0 b ∧ s.rf Reg.MBX_STATUS 0 b 1 1 = 0) ∧
    (∃ s : State, ∃ q : Req, ∃ b : Fin 29, ∃ k : Fin 8, s.hostShut q = false ∧ s.denied (readFrom q (Reg.MBX_DATA k) 0 b) false true = none ∧ s.rf Reg.MBX_STATUS 0 b 0 1 = 0) ∧
    (∃ s : State, ∃ q : Req, ∃ b : Fin 29, ∃ k : Fin 8, s.hostShut q = false ∧ s.denied (readFrom q (Reg.MBX_DATA k) 0 b) false true = none ∧ s.rf Reg.MBX_STATUS 0 b 0 1 = 1) :=
  ⟨⟨S D0, .host, 2, by decide +kernel⟩, ⟨S (D0.wf Reg.MBX_STATUS 0 2 1 1 1), .host, 2, by decide +kernel⟩,
   ⟨S (D0.wf Reg.MBX_STATUS 0 2 1 1 1), .host, 2, 7, by decide +kernel⟩, ⟨S D0, .host, 2, 7, by decide +kernel⟩,
   ⟨S D0, .host, 2, 0, by decide +kernel⟩, ⟨S (D0.wf Reg.MBX_STATUS 0 2 0 1 1), .host, 2, 0, by decide +kernel⟩⟩

/-- Meets the hypothesis of `StepTakesTheFront` (its part StepRunsFront). -/
theorem witness_StepRunsFront : ∃ s : State, ∃ i : Instr, ∃ rest : List Instr, s.pending = i :: rest :=
  ⟨{ S0 with pending := [.phaseSlewEnd, .perstNRelease] }, .phaseSlewEnd, [.perstNRelease], rfl⟩

/-- Meets the hypothesis of `StepTakesTheFront` (its part EmptyQueueIdles). -/
theorem witness_EmptyQueueIdles : ∃ s : State, s.pending = [] := ⟨S0, rfl⟩

/-- Meets the hypothesis of `QueueRunsInOrder`, with two commands waiting. -/
theorem witness_QueueRunsInOrder : ∃ n : Nat, ∃ s : State, n = 2 ∧ n ≤ s.pending.length :=
  ⟨2, { S0 with pending := [.phaseSlewEnd, .perstNRelease] }, rfl, by decide⟩

/-- Meets the hypotheses of `TableauInvStep`. -/
theorem witness_TableauInvStep : ∃ s t : State, TableauInv s ∧ step s = .next t :=
  ⟨{ S0 with pending := [.perstNRelease] }, _, by decide +kernel, rfl⟩

/-- A route of key source 1 that covers every address whose top byte is 9. -/
def routes1 : Rep := { routes := [(routeKey 1 0 8 (9 * 2^120), (5, 1))] }

/-- Meets the hypotheses of `LookupsFindTheBest`. -/
theorem witness_LookupsFindTheBest :
    (∃ e, routes1.fibBest 1 0 (9 * 2^120 + 3) = some e ∧ ∃ e' ∈ routes1.routes, rkKs e'.1 = 1 ∧ rkPfx e'.1 = 0 ∧ covers e'.1 (9 * 2^120 + 3) = true) ∧
    (routes1.fibBest 1 0 (8 * 2^120) = none ∧ ∃ e ∈ routes1.routes, rkKs e.1 = 1 ∧ rkPfx e.1 = 0) ∧
    (∃ p, minPos [(2, 1, 0), (1, 5, 5)] = some p ∧ ∃ q ∈ [(2, 1, 0), (1, 5, 5)], q ≠ p) ∧
    minPos [] = none :=
  ⟨⟨_, rfl, by decide +kernel⟩, ⟨by decide +kernel, by decide +kernel⟩, ⟨_, rfl, by decide +kernel⟩, rfl⟩

/-- An access of the host to `a` in `space`, `len` bytes long. -/
def acc (space : Space) (a : Nat) (len : Fin 9) : Access := { space := space, addr := BitVec.ofNat _ a, len := len, full := true, req := .host }

/-- A table-work command with `n` words after its tag. -/
def twc (n : Nat) : TwCmd := { ring := 0, hi := 0, tag := 0, w := List.replicate n 0 }

/-- A flit is 256 bytes (R10). -/
theorem test_flit_of_255_bytes : wellFormed (.flitReceive 0 0 0 0 (bs 255)) = false := by decide +kernel

/-- An access has a length. -/
theorem test_access_of_no_bytes : wellFormed (.registerRead (acc .bar0 0 0)) = false := by decide +kernel

/-- BAR4 is 64 KB (R361). -/
theorem test_access_above_bar4 : wellFormed (.registerWrite (acc .bar4 0x10000 4) 0) = false := by decide +kernel

/-- Configuration space is 4 KB. -/
theorem test_access_above_config : wellFormed (.accessTimeLimit (acc .config 0x1000 4) false) = false := by decide +kernel

/-- A frame has bytes. -/
theorem test_empty_frame : wellFormed (.frameReceive 5 [] true false none 0) = false := by decide +kernel

/-- A transmit channel record is at most 16,384 bytes. -/
theorem test_gcc_record_too_long : wellFormed (.gccTxRecord 0 0 0 (List.replicate 16385 0) 1) = false := by decide +kernel

/-- A cell carries at most 256 bytes. -/
theorem test_cell_payload_of_257_bytes : wellFormed (.cellReceive 0 0 0 0 0 (bs 257)) = false := by decide +kernel

/-- A stack has 256 lanes to train. -/
theorem test_training_of_255_lanes : wellFormed (.trainingComplete 0 (List.replicate 255 {})) = false := by decide +kernel

/-- A stack has 256 lanes to verify. -/
theorem test_verification_of_255_lanes : wellFormed (.verificationComplete 0 0 (List.replicate 255 {})) = false := by decide +kernel

/-- There are eight stacks. -/
theorem test_seven_stack_temperatures : wellFormed (.hbmTemperatureReading (List.replicate 7 none)) = false := by decide +kernel

/-- A peer read brings no data. -/
theorem test_peer_read_with_data : wellFormed (.peerWindowAccess 0 1 false [1] false) = false := by decide +kernel

/-- A peer write brings at most 4,096 bytes. -/
theorem test_peer_write_above_4096 : wellFormed (.peerWindowAccess 0 1 true (List.replicate 4097 0) false) = false := by decide +kernel

/-- A descriptor is eight words. -/
theorem test_short_descriptor : wellFormed (.transmitPacket 0 [[0, 0, 0]] []) = false := by decide +kernel

/-- A descriptor is eight words. -/
theorem test_short_descriptor_read : wellFormed (.ringReadCompletion 0 0 [[0]]) = false := by decide +kernel

/-- A module transaction moves at most 32 bytes. -/
theorem test_i2c_read_of_33_bytes : wellFormed (.i2cComplete 0 0 (bs 33)) = false := by decide +kernel

/-- A crash-log entry has at most 4,072 bytes of payload. -/
theorem test_crash_payload_too_long : wellFormed (.crashLogEntry 0 1 (List.replicate 4073 0)) = false := by decide +kernel

/-- There is no complex 3. -/
theorem test_crash_of_complex_3 : wellFormed (.crashLogEntry 3 1 []) = false := by decide +kernel

/-- The F-die has 24 sensors and the T-die 16. -/
theorem test_thermal_sample_of_23_sensors : wellFormed (.thermalSample (List.replicate 23 none) (List.replicate 16 none)) = false := by decide +kernel

/-- A table-work command has at most 14 words after its tag (R208). -/
theorem test_fifteen_table_work_words : wellFormed (.nop ⟨twc 15, 0x3F⟩) = false := by decide +kernel

/-- The same forms with the bound met are well-formed. -/
theorem test_well_formed_forms : wellFormed (.flitReceive 0 0 0 0 (bs 256)) = true ∧ wellFormed (.registerRead (acc .config 0xFFC 4)) = true
    ∧ wellFormed (.peerWindowAccess 0 1 true [1] false) = true ∧ wellFormed (.nop ⟨twc 0, 0x3F⟩) = true := by decide +kernel

/-- The table gives no row any bits, so no word spells a command. -/
theorem test_no_word_spells_a_command : decodeTableWord 0 0 = none ∧ decodeTableWord 32 5 = none := by decide

/-- An unknown OP is none of the operations that have rows of their own (R210). -/
theorem test_unknown_op_is_no_named_op : wellFormed (.nop ⟨twc 0, 0x20⟩) = false := by decide +kernel

/-- A control slot has 16 messages of four words (R300). -/
theorem test_control_slot_of_63_words : wellFormed (.controlSlotReceive 0 ⟨0, 0, 0⟩ 0 (List.replicate 63 0)) = false := by decide +kernel

/-- The worked examples of the ball map (chapter 22): line lane 123's receive pair, fabric lane 250's transmit pair, the pump rail of stack 6. -/
theorem test_balls : ballNet 107 11 = some (.line 123 false true) ∧ ballNet 67 116 = some (.fabric 250 true false)
    ∧ ballNet 91 79 = some (.rail (.hbmPump 6)) ∧ ballNet 92 79 = some (.rail (.hbmPump 6)) ∧ ballNet 93 79 = some (.rail (.hbmPump 6)) := by decide +kernel

/-- The House Book's graph is one that CHECK takes as a graph: each state once, each transition between states of it (R178). -/
theorem test_house_graph : (houseStates.map (·.state)).Nodup ∧ (∀ t ∈ houseTrans, t.src < 34 ∧ t.dst < 34 ∧ t.src ≠ t.dst) ∧ houseTrans.length ≤ 512 := by decide +kernel

/-- A frame with one VLAN tag of PCP 5 and an IPv4 header takes traffic class 2 (R198). -/
theorem test_house_tag_gives_the_class :
    houseTc ({ book0 with states := houseStates, trans := houseTrans }.parse (List.replicate 12 0 ++ [0x81, 0, 0xA0, 7, 0x08, 0, 0x45] ++ List.replicate 40 0)) 0 = 2 := by decide +kernel

end Sys2Proof.Tests
end

/-! SUPPORT. Fields and bits of words: a field depends on its bits alone; the bits of words built from fields. -/
namespace Sys2Proof

/-- Words that agree on the bits of a field agree on the field. -/
theorem fld_congr {m n : Nat} {a : BitVec m} {b : BitVec n} {lo len : Nat} (h : ∀ i < len, bit a (lo + i) = bit b (lo + i)) :
    fld a lo len = fld b lo len := by
  refine Nat.eq_of_testBit_eq fun i => ?_
  simp only [fld, Nat.testBit_mod_two_pow, Nat.testBit_div_two_pow]
  by_cases hi : i < len
  · simpa [bit, BitVec.getLsbD, hi, Nat.add_comm] using h i hi
  · simp [hi]

/-- A field of one bit is that bit. -/
theorem fld_one {n : Nat} (w : BitVec n) (i : Nat) : fld w i 1 = (bit w i).toNat := by
  simp [fld, bit, BitVec.getLsbD, Nat.toNat_testBit]

/-- The bits of a number placed in a word. -/
theorem bit_at (lo len v i : Nat) (hi : i < 32) : bit (at_ lo len v) i = (decide (lo ≤ i ∧ i < lo + len) && v.testBit (i - lo)) := by
  simp only [bit, at_, BitVec.getLsbD_ofNat, hi, Nat.testBit_mul_two_pow, Nat.testBit_mod_two_pow, decide_true, Bool.true_and]
  by_cases h : lo ≤ i
  · have : i - lo < len ↔ i < lo + len := by omega
    simp [h, this]
  · simp [h]

/-- The bits of a word whose field is set. -/
theorem bit_setFld (w : W32) (lo len v i : Nat) (hi : i < 32) :
    bit (setFld w lo len v) i = if lo ≤ i ∧ i < lo + len then v.testBit (i - lo) else bit w i := by
  have e : bit (setFld w lo len v) i = ((bit w i && !bit (at_ lo len (2 ^ len - 1)) i) || bit (at_ lo len v) i) := by
    simp [bit, setFld, at_, hi]
  rw [e, bit_at _ _ _ _ hi, bit_at _ _ _ _ hi, Nat.testBit_two_pow_sub_one]
  by_cases h : lo ≤ i ∧ i < lo + len
  · have : i - lo < len := by omega
    simp [h, this]
  · simp [h]

/-- A field inside the one just set is that part of what was set. -/
theorem fld_setFld_inside (w : W32) {lo len v k n : Nat} (hk : lo ≤ k) (hn : k + n ≤ lo + len) (h32 : lo + len ≤ 32) :
    fld (setFld w lo len v) k n = fld (at_ lo len v) k n := by
  refine fld_congr fun i hi => ?_
  rw [bit_setFld _ _ _ _ _ (by omega), bit_at _ _ _ _ (by omega)]
  simp [show lo ≤ k + i ∧ k + i < lo + len by omega]

end Sys2Proof

/-! SUPPORT. Which register an offset names, and which registers have no command of their own: a write by address to them is a plain write. -/
namespace Sys2Proof.Machine
open Sys2Proof.Safety

/-- What the first element of a list that answers gives, when none before place `n` answers. -/
theorem findSome?_of_take {α β : Type} {f : α → Option β} {l : List α} (n : Nat) {d : α} {y : β} (hd : l[n]? = some d)
    (hp : (l.take n).all (fun e => (f e).isNone) = true) (hy : f d = some y) : l.findSome? f = some y := by
  obtain ⟨hn, hd⟩ := List.getElem?_eq_some_iff.mp hd
  have hnone : (l.take n).findSome? f = none :=
    List.findSome?_eq_none_iff.mpr fun e he => by simpa using List.all_eq_true.mp hp e he
  rw [← List.take_append_drop n l, List.findSome?_append, List.drop_eq_getElem_cons hn, hd,
    List.findSome?_cons_of_isSome (by simp [hy]), hy, hnone, Option.none_or]

/-- An offset outside the common header names the first register of the list that covers it, the one at place `n`. -/
theorem regAt_plain {a : Nat} (n : Nat) {d : RegDesc} {x : Nat × Nat} (hb : a / windowSize < nBlocks) (h1 : 0x100 ≤ a % windowSize)
    (h2 : a % windowSize < 0xF00) (hd : Reg.plain[n]? = some d) (hp : (Reg.plain.take n).all (fun e => (e.match? a).isNone) = true)
    (hx : d.match? a = some x) : regAt a = some (d, x) := by
  have hf : Reg.plain.findSome? (fun d => (d.match? a).map fun x => (d, x)) = some (d, x) :=
    findSome?_of_take n hd (by simpa using hp) (by rw [hx]; rfl)
  simp [regAt, Nat.not_le.mpr hb, Nat.not_lt.mpr h1, Nat.not_le.mpr h2, hf]

theorem regAt_errAddr : regAt (Reg.TOP_ERR_ADDR.addr 0 0) = some (Reg.TOP_ERR_ADDR, 0, 0) :=
  regAt_plain 2 (by decide) (by decide) (by decide) rfl (by decide +kernel) (by decide)

theorem regAt_errInfo : regAt (Reg.TOP_ERR_INFO.addr 0 0) = some (Reg.TOP_ERR_INFO, 0, 0) :=
  regAt_plain 3 (by decide) (by decide) (by decide) rfl (by decide +kernel) (by decide)

theorem regAt_submitW (k : Fin 4) : regAt (Reg.CUE_SUBMIT_W.addr 0 k) = some (Reg.CUE_SUBMIT_W, 0, k.val) :=
  regAt_plain 33 (by revert k; decide) (by revert k; decide) (by revert k; decide) rfl (by revert k; decide +kernel) (by revert k; decide)

theorem regAt_tabCtrl : regAt (Reg.TAB_CTRL.addr 0 0) = some (Reg.TAB_CTRL, 0, 0) :=
  regAt_plain 43 (by decide) (by decide) (by decide) rfl (by decide +kernel) (by decide)

/-- A register of the common header (R51): it stands once in each block's window, and its offset finds it. -/
structure HeaderReg (d : RegDesc) : Prop where
  blk : d.blk = 0
  stride : d.stride = windowSize
  off : d.off < 0x100
  found : Reg.header.find? (fun e => e.off == d.off) = some d

theorem headerReg_evtStatus : HeaderReg Reg.EVT_STATUS := ⟨rfl, rfl, by decide, rfl⟩
theorem headerReg_mbxCmd : HeaderReg Reg.MBX_CMD := ⟨rfl, rfl, by decide, rfl⟩
theorem headerReg_mbxData : ∀ k : Fin 8, HeaderReg (Reg.MBX_DATA k)
  | 0 | 1 | 2 | 3 | 4 | 5 | 6 | 7 => ⟨rfl, rfl, by decide, rfl⟩

theorem HeaderReg.addr_eq {d : RegDesc} (h : HeaderReg d) (b : Nat) : d.addr 0 b = d.off + windowSize * b := by
  simp [RegDesc.addr, h.blk, h.stride, Nat.mul_comm]

theorem HeaderReg.addr_mod {d : RegDesc} (h : HeaderReg d) (b : Nat) : d.addr 0 b % windowSize = d.off := by
  rw [h.addr_eq, Nat.add_mul_mod_self_left, Nat.mod_eq_of_lt (Nat.lt_trans h.off (by decide))]

theorem HeaderReg.regAt {d : RegDesc} (h : HeaderReg d) (b : Fin 29) : regAt (d.addr 0 b) = some (d, 0, b.val) := by
  have ed : d.addr 0 b / windowSize = b := by
    rw [h.addr_eq, Nat.add_mul_div_left _ _ (by decide), Nat.div_eq_of_lt (Nat.lt_trans h.off (by decide)), Nat.zero_add]
  simp [Machine.regAt, h.addr_mod, ed, h.off, h.found]

theorem HeaderReg.addr_lt {d : RegDesc} (h : HeaderReg d) (b : Fin 29) : d.addr 0 b < 2 ^ 28 := by
  have := h.off
  have e : windowSize = 0x800000 := rfl
  rw [h.addr_eq, e]
  omega

theorem HeaderReg.normalView {d : RegDesc} (h : HeaderReg d) (b : Nat) : d.addr 0 b % windowSize < 0x400000 := by
  rw [h.addr_mod]
  exact Nat.lt_trans h.off (by decide)

theorem HeaderReg.not_inMsix {d : RegDesc} (h : HeaderReg d) (b : Nat) : inMsix (d.addr 0 b) = false := by
  have := h.off
  have e : windowSize = 0x800000 := rfl
  rw [h.addr_eq, e]
  simp only [inMsix, Bool.and_eq_false_iff, decide_eq_false_iff_not]
  omega

/-- A register that no command of its own claims is written plainly. -/
theorem wordWrite_plain {s : Dev} {q : Req} {d : RegDesc} {c i : Nat} {v : W32} (held : Option Dev)
    (h0 : (d.is Reg.MBX_CMD && d.blk == 0) = false) (hT : s.ownT q d i v = none) (hTm : s.ownTm q d i v = none)
    (hF : s.ownF q d c i v = none) : s.wordWrite held q d c i v = s.gatePlain q d c i v := by
  simp only [Dev.wordWrite, h0, hT, hTm, hF, Bool.false_eq_true, if_false]

theorem wordWrite_evtStatus (s : Dev) (held : Option Dev) (q : Req) (b : Nat) (v : W32) :
    s.wordWrite held q Reg.EVT_STATUS 0 b v = s.gatePlain q Reg.EVT_STATUS 0 b v := wordWrite_plain held rfl rfl rfl rfl

theorem wordWrite_mbxData (s : Dev) (held : Option Dev) (q : Req) (b : Nat) (v : W32) :
    ∀ k : Fin 8, s.wordWrite held q (Reg.MBX_DATA k) 0 b v = s.gatePlain q (Reg.MBX_DATA k) 0 b v
  | 0 | 1 | 2 | 3 | 4 | 5 | 6 | 7 => wordWrite_plain held rfl rfl rfl rfl

theorem wordWrite_submitW (s : Dev) (held : Option Dev) (q : Req) (k : Nat) (v : W32) :
    s.wordWrite held q Reg.CUE_SUBMIT_W 0 k v = s.gatePlain q Reg.CUE_SUBMIT_W 0 k v := wordWrite_plain held rfl rfl rfl rfl

theorem wordWrite_tabCtrl (s : Dev) (held : Option Dev) (q : Req) (v : W32) :
    s.wordWrite held q Reg.TAB_CTRL 0 0 v = s.gatePlain q Reg.TAB_CTRL 0 0 v := wordWrite_plain held rfl rfl rfl rfl

theorem wordWrite_errInfo (s : Dev) (held : Option Dev) (q : Req) (v : W32) :
    s.wordWrite held q Reg.TOP_ERR_INFO 0 0 v = s.gatePlain q Reg.TOP_ERR_INFO 0 0 v := wordWrite_plain held rfl rfl rfl rfl

theorem wordWrite_errAddr (s : Dev) (held : Option Dev) (q : Req) (v : W32) :
    s.wordWrite held q Reg.TOP_ERR_ADDR 0 0 v = s.gatePlain q Reg.TOP_ERR_ADDR 0 0 v := wordWrite_plain held rfl rfl rfl rfl

/-! ### What a plain write leaves (R45). -/

/-- The plain registers whose write brings something beyond the value that the access codes give. -/
def hookedRegs : List RegDesc :=
  [Reg.CCX_CC_STATUS, Reg.INT_CLASS_CFG, Reg.LCI_PORT_TX, Reg.LCI_LOAD_W, Reg.CAG_ATTN, Reg.CAG_CAGE_CFG, Reg.BPM_AUDIT_CTRL]

/-- A register whose write leaves its value and nothing beyond it: it has no staged fields and is none of `hookedRegs`. -/
def valueOnly (d : RegDesc) : Bool := d.rs == 0 && !(hookedRegs.any d.is)

/-- A write of such a register leaves what the access codes give, unless it is MBX_DATA of a busy mailbox. -/
theorem plainWrite_value {s : Dev} {q : Req} {d : RegDesc} {c i : Nat} {v : W32} {armed : Bool} (h : valueOnly d = true)
    (hm : (d.blk == 0 && decide (0x20 ≤ d.off) && decide (d.off < 0x40) && s.rf Reg.MBX_STATUS 0 i 1 1 == 1) = false) :
    s.plainWrite q d c i v armed = s.wg d c i (writeValue d (s.rg d c i) v armed) := by
  simp only [valueOnly, hookedRegs, List.any_cons, List.any_nil, Bool.and_eq_true, Bool.not_eq_true', Bool.or_eq_false_iff, beq_iff_eq] at h
  obtain ⟨hrs, hcc, hint, htx, hld, hattn, hcage, haudit, -⟩ := h
  simp only [Dev.plainWrite, Dev.writeHook, hm, hrs, hcc, hint, htx, hld, hattn, hcage, haudit, bne_self_eq_false, Bool.false_and,
    Bool.false_eq_true, if_false]

/-! ### Denied accesses (R54, R57, R58). -/

theorem exec_registerRead (x : Access) (s : State) : exec (.registerRead x) s = s.on fun d => d.accessRead x := rfl

/-- An answer followed by an entry of the error log: the answer is sent, and the log holds the entry. -/
theorem sent_and_logged (s : Dev) (o : Out) (c a : Nat) (w v : Bool) (q : Req) :
    Sent s ((s.emit o).logErr c a w v q) o ∧ Logs s ((s.emit o).logErr c a w v q) c a w v q :=
  ⟨(sent_emit (List.prefix_refl _) o).logErr .., logs_logErr (noted_emit s o) ..⟩

section
variable {s : Dev} {x : Access} (hs : x.space = .bar0) (hq : s.hostShut x.req = false) (hm : inMsix x.addr.toNat = false)
include hs hq hm

/-- A denied read ends with its denial. -/
theorem accessRead_denied {e : Denial} (h : s.denied x false ((regAt x.normal).isSome || inMsix x.normal) = some e) :
    s.accessRead x = s.deny x false e := by
  simp only [Dev.accessRead, hs, Dev.barRead, hq, hm, h, Bool.false_eq_true, if_false]

/-- A denied write uses up the arming and ends with its denial. -/
theorem accessWrite_denied {held : Option Dev} {v : W64} {e : Denial}
    (h : s.denied x true ((regAt x.normal).isSome || inMsix x.normal) = some e) :
    s.accessWrite held x v = (disarmed s x.req).deny x true e := by
  simp only [Dev.accessWrite, hs, Dev.barWrite, hq, hm, h, Bool.false_eq_true, if_false]
  rfl

end

/-- An entry of the log leaves every arming. -/
theorem logged_arming (s : Dev) (c a : Nat) (w v : Bool) (q : Req) : (logged s c a w v q).arming = s.arming := by
  unfold logged
  extract_lets n
  split <;> rfl

/-- A denial with a bus error that is no write of the host: Unsupported Request, and an entry of the log. -/
theorem deny_bus (s : Dev) (x : Access) (w : Bool) (c : Nat) (h : (w && x.req == .host) = false) :
    Sent s (s.deny x w (.bus c)) (.unsupported x.req w) ∧ Logs s (s.deny x w (.bus c)) c x.addr.toNat w (activeView x) x.req := by
  simp only [Dev.deny, h, Bool.false_eq_true, if_false]
  exact sent_and_logged ..

/-- A denial with a completer abort: the abort, and an entry of the log. -/
theorem deny_abort (s : Dev) (x : Access) (w : Bool) (c : Nat) :
    Sent s (s.deny x w (.abort c)) (.abort x.req w) ∧ Logs s (s.deny x w (.abort c)) c x.addr.toNat w (activeView x) x.req :=
  sent_and_logged ..

/-! ### The report of a host write through AER (R57; log entry 59). -/

theorem pciCfg_setPciCfg_same (s : Dev) (d : W32) (o : Nat) (v : W32) : (s.setPciCfg d o v).pciCfg d o = v := mget_mset_same ..

theorem pciCfg_setPciCfg_ne (s : Dev) (d e : W32) (o p : Nat) (v : W32) (h : p ≠ o) : (s.setPciCfg d o v).pciCfg e p = s.pciCfg e p :=
  mget_mset_ne _ _ _ _ h

/-- The status bits that a report sets: in Device Status, and in AER. -/
def aerStatus (s : Dev) : Dev :=
  let s := s.setPciCfg devCtlReset 0x78
    (setBit (setBit (s.pciCfg devCtlReset 0x78) 19 true) (if bit (s.pciCfg aerSevReset 0x10C) 20 then 18 else 17) true)
  s.setPciCfg 0 0x104 (setBit (s.pciCfg 0 0x104) 20 true)

/-- The header log that a report fills: its pointer and its four words. -/
def aerLog (s : Dev) (h : List W32) : Dev :=
  ((((s.fresh.2.setPciCfg 0 0x118 20#32).setPciCfg 0 0x11C (word h 0)).setPciCfg 0 0x120 (word h 1)).setPciCfg 0 0x124 (word h 2)).setPciCfg
    0 0x128 (word h 3)

/-- A report sets the status bits, and fills the header log unless it is in use. -/
theorem aerReport_cases (s : Dev) (x : Access) :
    s.aerReport x = aerStatus s ∨ s.aerReport x = aerLog (aerStatus s) ((aerStatus s).tlpHeader x (aerStatus s).fresh.1) := by
  unfold Dev.aerReport
  extract_lets fatal s1 ues used s2 u h s3
  split
  · exact .inl rfl
  · exact .inr rfl

theorem aerStatus_bits (s : Dev) : bit ((aerStatus s).pciCfg 0 0x104) 20 = true ∧ bit ((aerStatus s).pciCfg devCtlReset 0x78) 19 = true := by
  unfold aerStatus
  constructor
  · rw [pciCfg_setPciCfg_same]
    exact bit_setBit_same _ _ (by decide)
  · rw [pciCfg_setPciCfg_ne _ _ _ _ _ _ (by decide), pciCfg_setPciCfg_same]
    exact bit_setBit _ _ _ (bit_setBit_same _ _ (by decide))

theorem aerLog_pciCfg (s : Dev) (h : List W32) (d : W32) {o : Nat} (ho : o ∉ [0x118, 0x11C, 0x120, 0x124, 0x128]) :
    (aerLog s h).pciCfg d o = s.pciCfg d o := by
  simp only [List.mem_cons, List.not_mem_nil, or_false, not_or] at ho
  obtain ⟨n118, n11C, n120, n124, n128⟩ := ho
  unfold aerLog
  rw [pciCfg_setPciCfg_ne _ _ _ _ _ _ n128, pciCfg_setPciCfg_ne _ _ _ _ _ _ n124, pciCfg_setPciCfg_ne _ _ _ _ _ _ n120,
    pciCfg_setPciCfg_ne _ _ _ _ _ _ n11C, pciCfg_setPciCfg_ne _ _ _ _ _ _ n118]
  rfl

theorem aerReport_bits (s : Dev) (x : Access) :
    bit ((s.aerReport x).pciCfg 0 0x104) 20 = true ∧ bit ((s.aerReport x).pciCfg devCtlReset 0x78) 19 = true := by
  rcases aerReport_cases s x with e | e
  · rw [e]
    exact aerStatus_bits s
  · rw [e, aerLog_pciCfg _ _ _ (by decide), aerLog_pciCfg _ _ _ (by decide)]
    exact aerStatus_bits s

theorem Dev.setPciCfg_arming (s : Dev) (d : W32) (o : Nat) (v : W32) : (s.setPciCfg d o v).arming = s.arming := rfl
theorem Dev.setPciCfg_out (s : Dev) (d : W32) (o : Nat) (v : W32) : (s.setPciCfg d o v).out = s.out := rfl

theorem aerStatus_frame (s : Dev) : (aerStatus s).arming = s.arming ∧ (aerStatus s).out = s.out := by
  unfold aerStatus
  repeat rw [Dev.setPciCfg_arming, Dev.setPciCfg_out]
  exact ⟨rfl, rfl⟩

theorem aerLog_frame (s : Dev) (h : List W32) : (aerLog s h).arming = s.arming ∧ (aerLog s h).out = s.out := by
  unfold aerLog
  repeat rw [Dev.setPciCfg_arming, Dev.setPciCfg_out]
  exact ⟨rfl, rfl⟩

theorem aerReport_frame (s : Dev) (x : Access) : (s.aerReport x).arming = s.arming ∧ (s.aerReport x).out = s.out := by
  obtain ⟨ha, ho⟩ := aerStatus_frame s
  rcases aerReport_cases s x with e | e
  · exact e ▸ ⟨ha, ho⟩
  · rw [e, (aerLog_frame _ _).1, (aerLog_frame _ _).2]
    exact ⟨ha, ho⟩

/-- A host write denied with a bus error: Unsupported Request, and the report through AER. -/
theorem deny_bus_host (s : Dev) (x : Access) (c : Nat) (h : x.req = .host) :
    Sent s (s.deny x true (.bus c)) (.unsupported .host true) ∧ (s.deny x true (.bus c)).arming = s.arming
      ∧ bit ((s.deny x true (.bus c)).pciCfg 0 0x104) 20 = true ∧ bit ((s.deny x true (.bus c)).pciCfg devCtlReset 0x78) 19 = true := by
  obtain ⟨⟨l, hl, ho⟩, hlog⟩ := sent_and_logged s (.unsupported .host true) c x.addr.toNat true (activeView x) .host
  have e : s.deny x true (.bus c) = ((s.emit (.unsupported .host true)).logErr c x.addr.toNat true (activeView x) .host).aerReport x := by
    simp only [Dev.deny, h, beq_self_eq_true, Bool.and_self, if_true]
    rfl
  obtain ⟨harm, hout⟩ := aerReport_frame ((s.emit (.unsupported .host true)).logErr c x.addr.toNat true (activeView x) .host) x
  rw [e]
  exact ⟨⟨l, hout.trans hl, ho⟩, harm.trans (hlog.1.arming.trans (logged_arming ..)), aerReport_bits ..⟩

/-! ### Accesses that do not complete in time (R55). -/

theorem exec_accessTimeLimit (x : Access) (w : Bool) (s : State) : exec (.accessTimeLimit x w) s = execAccessTimeLimit x w s := rfl

section
variable {s : State} {x : Access} (hs : x.space = .bar0) (hq : s.hostShut x.req = false) (hm : inMsix x.addr.toNat = false)
include hs hq hm

/-- A denied read ends with its denial, however long it took. -/
theorem exec_timeLimit_denied {e : Denial} (h : s.denied x false ((regAt x.normal).isSome || inMsix x.normal) = some e) :
    exec (.accessTimeLimit x false) s = s.on fun d => d.deny x false e := by
  rw [exec_accessTimeLimit, execAccessTimeLimit]
  refine on_congr s ?_
  simp only [hs, hq, hm, h, bne_self_eq_false, Bool.or_self, Bool.false_eq_true, if_false]

/-- An access that nothing denies is answered or discarded, and logged with CAUSE 5. -/
theorem exec_timeLimit_logged {w : Bool} (h : s.denied x w ((regAt x.normal).isSome || inMsix x.normal) = none) :
    exec (.accessTimeLimit x w) s = s.on fun d =>
      (if w then disarmed d x.req else d.emit (.abort x.req false)).logErr 5 x.addr.toNat w (activeView x) x.req := by
  rw [exec_accessTimeLimit, execAccessTimeLimit]
  refine on_congr s ?_
  simp only [hs, hq, hm, h, bne_self_eq_false, Bool.or_self, Bool.false_eq_true, if_false]
  rfl

end

/-! ### Values that writes leave (R45). -/

@[simp] theorem and_ones (w : W32) : w &&& 0xFFFFFFFF#32 = w := BitVec.and_allOnes

/-- What a write leaves in a register without KW and WO fields. -/
theorem writeValue_rw_w1c {d : RegDesc} (hk : d.kw = 0) (hw : d.wo = 0) (old v : W32) (armed : Bool) :
    writeValue d old v armed = ((old &&& ~~~d.rw) ||| (v &&& d.rw)) &&& ~~~(v &&& d.w1c) := by
  simp [writeValue, hk, hw]

/-- A register of RW bits throughout takes the word written. -/
theorem writeValue_word {d : RegDesc} (hr : d.rw = ones) (hk : d.kw = 0) (hw : d.wo = 0) (h1 : d.w1c = 0) (old v : W32) (armed : Bool) :
    writeValue d old v armed = v := by
  rw [writeValue_rw_w1c hk hw, hr, h1]
  simp [ones]

/-- A W1C bit of an EVT_STATUS is cleared by a 1, and kept by a 0. -/
theorem bit_clear (w : W32) (v : W64) (e : Nat) : bit (w &&& ~~~(v.truncate 32 &&& ones)) e = (bit w e && !bit v e) := by
  by_cases he : e < 32
  · simp [bit, ones, he]
  · simp [bit, ones, BitVec.getLsbD_of_ge _ _ (Nat.le_of_not_lt he)]

end Sys2Proof.Machine

/-! The error log and writes by access code: O7. -/
namespace Sys2Proof.Machine
open Sys2Proof.Safety

section
variable {s : State} {x : Access} (hs : x.space = .bar0) (hq : s.hostShut x.req = false) (hm : inMsix x.addr.toNat = false)
include hs hq hm

/-- A read that is denied with a bus error. -/
theorem does_read_bus {c : Nat} (h : s.denied x false ((regAt x.normal).isSome || inMsix x.normal) = some (.bus c)) :
    Does (.registerRead x) s fun t => Sent s.toDev t (.unsupported x.req false) ∧ Logs s.toDev t c x.addr.toNat false (activeView x) x.req :=
  does_on (exec_registerRead x s) (by rw [accessRead_denied hs hq hm h]; exact deny_bus _ _ _ _ rfl)

/-- A read that is denied with a completer abort. -/
theorem does_read_abort {c : Nat} (h : s.denied x false ((regAt x.normal).isSome || inMsix x.normal) = some (.abort c)) :
    Does (.registerRead x) s fun t => Sent s.toDev t (.abort x.req false) ∧ Logs s.toDev t c x.addr.toNat false (activeView x) x.req :=
  does_on (exec_registerRead x s) (by rw [accessRead_denied hs hq hm h]; exact deny_abort ..)

/-- A write that is denied with a completer abort. -/
theorem does_write_abort (v : W64) {c : Nat} (h : s.denied x true ((regAt x.normal).isSome || inMsix x.normal) = some (.abort c)) :
    Does (.registerWrite x v) s fun t =>
      Sent s.toDev t (.abort x.req true) ∧ Logs (disarmed s.toDev x.req) t c x.addr.toNat true (activeView x) x.req :=
  does_on (exec_registerWrite x v s) (by rw [accessWrite_denied hs hq hm h]; exact deny_abort (disarmed s.toDev x.req) x true c)

/-- A write of a complex that is denied with a bus error. -/
theorem does_write_bus (v : W64) {c : Nat} (h : s.denied x true ((regAt x.normal).isSome || inMsix x.normal) = some (.bus c))
    (hc : x.req ≠ .host) : Does (.registerWrite x v) s fun t =>
      Sent s.toDev t (.unsupported x.req true) ∧ Logs (disarmed s.toDev x.req) t c x.addr.toNat true (activeView x) x.req :=
  does_on (exec_registerWrite x v s) (by
    rw [accessWrite_denied hs hq hm h]
    exact deny_bus (disarmed s.toDev x.req) x true c (beq_false_of_ne hc))

/-- A write of the host that is denied with a bus error. -/
theorem does_write_bus_host (v : W64) {c : Nat} (h : s.denied x true ((regAt x.normal).isSome || inMsix x.normal) = some (.bus c))
    (hc : x.req = .host) : Does (.registerWrite x v) s fun t => Sent s.toDev t (.unsupported .host true) ∧ t.arming.host = false
      ∧ bit (t.pciCfg 0 0x104) 20 = true ∧ bit (t.pciCfg devCtlReset 0x78) 19 = true := by
  obtain ⟨hsent, harm, hbits⟩ := deny_bus_host (disarmed s.toDev x.req) x c hc
  refine does_on (exec_registerWrite x v s) ?_
  rw [accessWrite_denied hs hq hm h]
  exact ⟨hsent, by rw [harm, hc]; rfl, hbits⟩

/-- A read that has not completed in time. -/
theorem does_timeLimit_read (h : s.denied x false ((regAt x.normal).isSome || inMsix x.normal) = none) :
    Does (.accessTimeLimit x false) s fun t =>
      Sent s.toDev t (.abort x.req false) ∧ Logs s.toDev t 5 x.addr.toNat false (activeView x) x.req :=
  does_on (exec_timeLimit_logged hs hq hm h) (sent_and_logged ..)

/-- A write that has not completed in time. -/
theorem does_timeLimit_write (h : s.denied x true ((regAt x.normal).isSome || inMsix x.normal) = none) :
    Does (.accessTimeLimit x true) s fun t => Logs (disarmed s.toDev x.req) t 5 x.addr.toNat true (activeView x) x.req :=
  does_on (exec_timeLimit_logged hs hq hm h) (logs_logErr (.refl _) ..)

/-- A read that is denied ends so, however long it took. -/
theorem does_timeLimit_bus {c : Nat} (h : s.denied x false ((regAt x.normal).isSome || inMsix x.normal) = some (.bus c)) :
    Does (.accessTimeLimit x false) s fun t =>
      Sent s.toDev t (.unsupported x.req false) ∧ Logs s.toDev t c x.addr.toNat false (activeView x) x.req :=
  does_on (exec_timeLimit_denied hs hq hm h) (deny_bus s.toDev x false c rfl)

end

section
variable (s : State) (q : Req) (v : W64)

/-- RW: the word. -/
theorem does_write_submitW (k : Fin 4) (h : Reached s.toDev q Reg.CUE_SUBMIT_W 0 k) :
    Does (.registerWrite (writeTo q Reg.CUE_SUBMIT_W 0 k) v) s (Noted ((disarmed s.toDev q).wg Reg.CUE_SUBMIT_W 0 k (v.truncate 32))) := by
  obtain ⟨ha, hv, hm⟩ := (by decide : ∀ k : Fin 4, Reg.CUE_SUBMIT_W.addr 0 k < 2 ^ 28 ∧ Reg.CUE_SUBMIT_W.addr 0 k % windowSize < 0x400000
    ∧ inMsix (Reg.CUE_SUBMIT_W.addr 0 k) = false) k
  refine does_plain s q _ 0 k v h (regAt_submitW k) ha hv hm (wordWrite_submitW ..) fun u hu => ?_
  rw [plainWrite_value (by decide) rfl, writeValue_word rfl rfl rfl rfl]
  exact hu.wg ..

/-- RW with reserved bits: those that are RW. -/
theorem does_write_tabCtrl (h : Reached s.toDev q Reg.TAB_CTRL 0 0) : Does (.registerWrite (writeTo q Reg.TAB_CTRL 0 0) v) s
    (Noted ((disarmed s.toDev q).wg Reg.TAB_CTRL 0 0 ((s.rg Reg.TAB_CTRL 0 0 &&& ~~~Reg.TAB_CTRL.rw) ||| (v.truncate 32 &&& Reg.TAB_CTRL.rw)))) := by
  refine does_plain s q _ 0 0 v h regAt_tabCtrl (by decide) (by decide) (by decide) (wordWrite_tabCtrl ..) fun u hu => ?_
  have hold : u.rg Reg.TAB_CTRL 0 0 = s.rg Reg.TAB_CTRL 0 0 := hu.rg (by decide)
  have hw1c : ∀ w : W32, ~~~(w &&& Reg.TAB_CTRL.w1c) = BitVec.allOnes 32 := fun w => by simp [Reg.TAB_CTRL]
  rw [plainWrite_value (by decide) rfl, writeValue_rw_w1c rfl rfl, hold, hw1c, BitVec.and_allOnes]
  exact hu.wg ..

/-- W1C: LATCHED is cleared by a 1. -/
theorem does_write_errInfo (h : Reached s.toDev q Reg.TOP_ERR_INFO 0 0) : Does (.registerWrite (writeTo q Reg.TOP_ERR_INFO 0 0) v) s
    (Noted ((disarmed s.toDev q).wg Reg.TOP_ERR_INFO 0 0 (s.rg Reg.TOP_ERR_INFO 0 0 &&& ~~~(v.truncate 32 &&& 0x80000000#32)))) := by
  refine does_plain s q _ 0 0 v h regAt_errInfo (by decide) (by decide) (by decide) (wordWrite_errInfo ..) fun u hu => ?_
  have hold : u.rg Reg.TOP_ERR_INFO 0 0 = s.rg Reg.TOP_ERR_INFO 0 0 := hu.rg (by decide)
  have hrw : ∀ o w : W32, (o &&& ~~~Reg.TOP_ERR_INFO.rw) ||| (w &&& Reg.TOP_ERR_INFO.rw) = o := fun o w => by simp [Reg.TOP_ERR_INFO]
  rw [plainWrite_value (by decide) rfl, writeValue_rw_w1c rfl rfl, hold, hrw]
  exact hu.wg ..

/-- RO: nothing. -/
theorem does_write_errAddr (h : Reached s.toDev q Reg.TOP_ERR_ADDR 0 0) : Does (.registerWrite (writeTo q Reg.TOP_ERR_ADDR 0 0) v) s
    (Noted ((disarmed s.toDev q).wg Reg.TOP_ERR_ADDR 0 0 (s.rg Reg.TOP_ERR_ADDR 0 0))) := by
  refine does_plain s q _ 0 0 v h regAt_errAddr (by decide) (by decide) (by decide) (wordWrite_errAddr ..) fun u hu => ?_
  have hold : u.rg Reg.TOP_ERR_ADDR 0 0 = s.rg Reg.TOP_ERR_ADDR 0 0 := hu.rg (by decide)
  have hro : ∀ o w : W32, writeValue Reg.TOP_ERR_ADDR o w (s.arming.get q) = o := fun o w => by simp [writeValue, Reg.TOP_ERR_ADDR]
  rw [plainWrite_value (by decide) rfl, hro, hold]
  exact hu.wg ..

/-- W1C of EVT_STATUS: the events written 1 are cleared, every other one stays set. -/
theorem does_write_evtStatus (b : Fin 29) (h : Reached s.toDev q Reg.EVT_STATUS 0 b) :
    Does (.registerWrite (writeTo q Reg.EVT_STATUS 0 b) v) s fun t => (∀ e, bit v e = true → evtSet t b e = false)
      ∧ ∀ b' e, (b' ≠ b.val ∨ bit v e = false) → evtSet s.toDev b' e = true → evtSet t b' e = true := by
  have hd := headerReg_evtStatus
  refine does_plain s q _ 0 b v h (hd.regAt b) (hd.addr_lt b) (hd.normalView b) (hd.not_inMsix b) (wordWrite_evtStatus ..) fun u hu => ?_
  have hrw : ∀ o w : W32, (o &&& ~~~Reg.EVT_STATUS.rw) ||| (w &&& Reg.EVT_STATUS.rw) = o := fun o w => by simp [Reg.EVT_STATUS]
  rw [plainWrite_value (by decide) rfl, writeValue_rw_w1c rfl rfl, hrw]
  constructor
  · intro e he
    rw [evtSet, Dev.rg_wg_same]
    exact (bit_clear _ v e).trans (by simp [he])
  · intro b' e hk hset
    by_cases hb : b' = b.val
    · subst hb
      have hset' : bit (u.rg Reg.EVT_STATUS 0 b) e = true := hu.evt_mono hset
      rw [evtSet, Dev.rg_wg_same]
      exact (bit_clear _ v e).trans (by simp [hset', hk.resolve_left (fun n => n rfl)])
    · rw [evtSet, Dev.rg_wg_ne _ _ _ _ _ _ _ _ (evt_addr_ne hb)]
      exact hu.evt_mono hset

end

/-- Settles O7: each clause by the lemma of its access, denied, late, or written by its access codes. -/
theorem errorLogLatchesTheFirst : Obligations.ErrorLogLatchesTheFirst := by
  unfold Obligations.ErrorLogLatchesTheFirst
  refine ⟨fun s x v c hs hq hm => ⟨?_, ?_, ?_, ?_, ?_⟩, fun s x hs hq hm => ⟨?_, ?_, ?_⟩, fun s q v => ⟨?_, ?_, ?_, ?_, ?_⟩⟩
  · exact does_read_bus hs hq hm
  · exact does_read_abort hs hq hm
  · exact does_write_abort hs hq hm v
  · exact does_write_bus hs hq hm v
  · exact does_write_bus_host hs hq hm v
  · exact does_timeLimit_read hs hq hm
  · exact does_timeLimit_write hs hq hm
  · exact fun c => does_timeLimit_bus hs hq hm
  · exact does_write_submitW s q v
  · exact does_write_tabCtrl s q v
  · exact does_write_errInfo s q v
  · exact does_write_errAddr s q v
  · exact does_write_evtStatus s q v

end Sys2Proof.Machine

/-! SUPPORT. The mailbox registers of every block (R51): what events, detections and their reactions, accesses of the HBM and operations on objects leave of them. -/
namespace Sys2Proof.Machine
open Sys2Proof.Safety

/-- An offset in the mailbox registers of a block's window: MBX_CMD to MBX_DATA. -/
def mbxOff (a : Nat) : Bool := decide (0x10 ≤ a % windowSize) && decide (a % windowSize < 0x40)

/-- `t` has the mailbox registers of `s`. -/
structure MbxKept (s t : Dev) : Prop where
  regs : ∀ a, mbxOff a = true → listed t.regs a = listed s.regs a

theorem HeaderReg.mbxOff {d : RegDesc} (h : HeaderReg d) (h1 : 0x10 ≤ d.off) (h2 : d.off < 0x40) (b : Nat) : mbxOff (d.addr 0 b) = true := by
  simp [Machine.mbxOff, h.addr_mod, h1, h2]

theorem headerReg_mbxStatus : HeaderReg Reg.MBX_STATUS := ⟨rfl, rfl, by decide, rfl⟩

theorem mbxOff_cmd (b : Nat) : mbxOff (Reg.MBX_CMD.addr 0 b) = true := headerReg_mbxCmd.mbxOff (by decide) (by decide) b
theorem mbxOff_status (b : Nat) : mbxOff (Reg.MBX_STATUS.addr 0 b) = true := headerReg_mbxStatus.mbxOff (by decide) (by decide) b
theorem mbxOff_data (k : Fin 8) (b : Nat) : mbxOff ((Reg.MBX_DATA k).addr 0 b) = true :=
  (headerReg_mbxData k).mbxOff (by revert k; decide) (by revert k; decide) b

namespace MbxKept

theorem refl (s : Dev) : MbxKept s s := ⟨fun _ _ => rfl⟩

variable {s t u : Dev}

theorem trans (h : MbxKept s t) (k : MbxKept t u) : MbxKept s u := ⟨fun a ha => (k.regs a ha).trans (h.regs a ha)⟩

/-- A mailbox register reads as before. -/
theorem rg (h : MbxKept s t) {r : RegDesc} {c i : Nat} (hr : mbxOff (r.addr c i) = true) : t.rg r c i = s.rg r c i :=
  Dev.rg_of_listed (h.regs _ hr)

theorem rf (h : MbxKept s t) {r : RegDesc} {c i : Nat} (hr : mbxOff (r.addr c i) = true) (lo len : Nat) :
    t.rf r c i lo len = s.rf r c i lo len := by rw [Dev.rf, h.rg hr, Dev.rf]

/-- A change that leaves the registers. The equation is proved where it is used (`by rfl`), once `u` is known there. -/
theorem same (h : MbxKept s t) (e : u.regs = t.regs) : MbxKept s u := ⟨fun a ha => by rw [e]; exact h.regs a ha⟩

/-- Another register is set. -/
theorem wg (h : MbxKept s t) {r : RegDesc} {c i : Nat} (hr : mbxOff (r.addr c i) = false) (v : W32) : MbxKept s (t.wg r c i v) :=
  ⟨fun a ha => (Dev.listed_wg_ne t r c i v (fun e => by rw [e, hr] at ha; cases ha)).trans (h.regs a ha)⟩

theorem wf (h : MbxKept s t) {r : RegDesc} {c i : Nat} (hr : mbxOff (r.addr c i) = false) (lo len v : Nat) :
    MbxKept s (t.wf r c i lo len v) := h.wg hr _

theorem ite {p : Prop} [Decidable p] {a b : Dev} (ha : MbxKept s a) (hb : MbxKept s b) : MbxKept s (if p then a else b) := by
  split
  · exact ha
  · exact hb

theorem foldl {β : Type} {f : Dev → β → Dev} {l : List β} (h : MbxKept s t) (hf : ∀ d, ∀ x ∈ l, MbxKept d (f d x)) :
    MbxKept s (l.foldl f t) := by
  induction l generalizing t with
  | nil => exact h
  | cons x l ih => exact ih (h.trans (hf t x (by simp))) fun d y hy => hf d y (by simp [hy])

theorem foldl_fst {β γ : Type} {f : Dev × γ → β → Dev × γ} {l : List β} {x : Dev × γ} (h : MbxKept s x.1)
    (hf : ∀ x k, MbxKept x.1 (f x k).1) : MbxKept s (l.foldl f x).1 := by
  induction l generalizing x with
  | nil => exact h
  | cons k l ih => exact ih (h.trans (hf x k))

end MbxKept

/-! ### Offsets outside the mailboxes. -/

theorem mbxOff_evt (b : Nat) : mbxOff (Reg.EVT_STATUS.addr 0 b) = false := by
  rw [mbxOff, headerReg_evtStatus.addr_mod]
  rfl

theorem mbxOff_wingPend (b : Nat) : mbxOff (Reg.WING_PEND.addr 0 b) = false := by
  have h : HeaderReg Reg.WING_PEND := ⟨rfl, rfl, by decide, rfl⟩
  rw [mbxOff, h.addr_mod]
  rfl

/-- A register of a port lies above 0x1000 in a slot. -/
theorem mbxOff_port {d : RegDesc} (p : Nat) (hs : d.stride = 0x100) (h1 : 0x1000 ≤ d.off) (h2 : d.off < 0x3000) :
    mbxOff (d.addr (p / 16) (p % 16)) = false := by
  simp only [mbxOff, RegDesc.addr, windowSize, slotSize, hs, Bool.and_eq_false_iff, decide_eq_false_iff_not]
  omega

theorem mbxOff_ring (r o : Nat) (rw rc : W32) (hr : r < 1120) (ho : o < 0x40) :
    mbxOff ((Reg.ringReg (Reg.ringKind r) o rw rc).addr 0 (Reg.ringNum r)) = false := by
  have hn : Reg.ringNum r < 512 := by
    unfold Reg.ringNum
    split <;> (try split) <;> (try split) <;> omega
  have hk (k : Nat) : 65536 ≤ (if k = 0 then 65536 else if k = 1 then 131072 else if k = 2 then 196608 else 200704)
      ∧ (if k = 0 then 65536 else if k = 1 then 131072 else if k = 2 then 196608 else 200704) ≤ 200704 := by
    split <;> (try split) <;> (try split) <;> omega
  have hk := hk (Reg.ringKind r)
  simp only [mbxOff, RegDesc.addr, Reg.ringReg, bDMA, windowSize, Nat.zero_mul, Nat.add_zero, beq_iff_eq, Bool.and_eq_false_iff,
    decide_eq_false_iff_not]
  omega

theorem mbxOff_laneInsvc (i : Nat) (h : i < 10) : mbxOff (Reg.FAB_LANE_INSVC.addr 0 i) = false :=
  (by decide : ∀ i : Fin 10, mbxOff (Reg.FAB_LANE_INSVC.addr 0 i) = false) ⟨i, h⟩

/-! ### Events, records, interrupts and counts. -/

namespace MbxKept
variable {s t : Dev}

theorem emit (h : MbxKept s t) (o : Out) : MbxKept s (t.emit o) := h.same (by rfl)
theorem bump (h : MbxKept s t) (b o i k n : Nat) : MbxKept s (t.bump b o i k n) := h.same (by rfl)
theorem setRing (h : MbxKept s t) (r : Nat) (x : RingSt) : MbxKept s (t.setRing r x) := h.same (by rfl)
theorem setEvt (h : MbxKept s t) (b e : Nat) : MbxKept s (t.setEvt b e) := h.wg (mbxOff_evt b) _

theorem ringWg (h : MbxKept s t) {r o : Nat} {rw rc : W32} (hr : r < 1120) (ho : o < 0x40) (v : W32) :
    MbxKept s (t.ringWg (fun k => Reg.ringReg k o rw rc) r v) := h.wg (mbxOff_ring r o rw rc hr ho) v

theorem writeBackIdx (h : MbxKept s t) (r : Nat) : MbxKept s (t.writeBackIdx r) := ite (h.emit _) h

theorem raiseVector (h : MbxKept s t) (v : Nat) : MbxKept s (t.raiseVector v) := ite (h.emit _) (ite h (h.same (by rfl)))

theorem ringVector (h : MbxKept s t) (r : Nat) : MbxKept s (t.ringVector r) := ite ((h.setRing ..).raiseVector _) h

theorem ringAdvance (h : MbxKept s t) {r : Nat} (n : Nat) (hr : r < 1120) : MbxKept s (t.ringAdvance r n) := by
  have h' := ((h.ringWg (o := 0x18) (rw := 0) (rc := 0) hr (by decide)
    (setFld (t.ringRg Reg.DMA_DEV_IDX r) 0 16 (t.devIdx r + n))).writeBackIdx r).setRing r
  exact ite h (ite ((h' _).ringVector r) (h' _))

theorem pushRecord (h : MbxKept s t) (e : Nat) (ws : List W32) : MbxKept s (t.pushRecord e ws).1 := by
  have hr : 1024 + e % 64 < 1120 := by omega
  unfold Dev.pushRecord
  extract_lets r
  split
  · exact (h.emit _).ringAdvance 1 hr
  · exact h.ringWg hr (by decide) _

theorem eventCore (h : MbxKept s t) (b e : Nat) : MbxKept s (t.eventCore b e).1 := by
  unfold Dev.eventCore
  extract_lets old t' ring
  split
  · exact (h.setEvt b e).pushRecord ..
  · exact h.setEvt b e

theorem pmcAdd (h : MbxKept s t) (id n : Nat) (b : Bool) : MbxKept s (t.pmcAdd id n b).1 := h.same (by rfl)

theorem countCore (h : MbxKept s t) (b e cl n : Nat) (a : EvAttr) : MbxKept s (t.countCore b e cl n a).1 := by
  unfold Dev.countCore
  split
  · exact h
  · refine foldl_fst (foldl_fst h ?_) ?_
    · intro x k
      extract_lets sel
      split
      · exact (refl x.1).pmcAdd ..
      · exact refl _
    · intro x k
      extract_lets sel
      split
      · split
        · exact refl _
        · exact refl _
        · exact (refl x.1).pmcAdd ..
      · exact refl _

theorem event (h : MbxKept s t) (b e : Nat) : MbxKept s (t.event b e) := by
  have hc := h.eventCore b e
  exact ite ((ite (hc.eventCore bDMA 2) hc).countCore ..) (ite (hc.eventCore bDMA 2) hc)

theorem eventIf (h : MbxKept s t) (p : Bool) (b e : Nat) : MbxKept s (t.eventIf p b e) := ite (h.event b e) h

theorem record (h : MbxKept s t) (r : Nat) (ws : List W32) : MbxKept s (t.record r ws).1 :=
  ite ((h.pushRecord r ws).event bDMA 2) (h.pushRecord r ws)

theorem count (h : MbxKept s t) (b e cl n : Nat) (a : EvAttr) : MbxKept s (t.count b e cl n a) :=
  ((h.countCore b e cl n a).eventIf ..).eventIf ..

end MbxKept
end Sys2Proof.Machine

/-! SUPPORT. The mailbox registers under queues, ports, fabric lanes and stacks that go down, and under the detections that take them down. -/
namespace Sys2Proof.Machine
open Sys2Proof.Safety

namespace MbxKept
variable {s t : Dev}

/-! ### Buffers and queues. -/

theorem unstage (h : MbxKept s t) (p : Staged → Bool) : MbxKept s (t.unstage p) :=
  ite h (MbxKept.count (h.same (by rfl)) ..)

theorem clipCredit (h : MbxKept s t) (v : Nat) : MbxKept s (t.clipCredit v) := (ite (h.same (by rfl)) h).unstage _

theorem revokeVoq (h : MbxKept s t) (v : Nat) : MbxKept s (t.revokeVoq v) := ((h.clipCredit v).bump ..).eventIf ..

theorem sendRequest (h : MbxKept s t) (v : Nat) (on : Bool) : MbxKept s (t.sendRequest v on) := by
  unfold Dev.sendRequest
  split
  · exact ite h (h.emit _)
  · exact h

theorem eqEmptied (h : MbxKept s t) (e : Nat) : MbxKept s (t.eqEmptied e) := by
  have idle {u : Dev} (h : MbxKept s u) (p c : Nat) : MbxKept s (u.goIdle p c) := h.same (by rfl)
  unfold Dev.eqEmptied
  split
  · exact h
  · refine ite (idle h _ _) ?_
    split
    · exact idle h _ _
    · refine ite (idle (idle h _ _) _ _) ?_
      split
      · exact idle (idle h _ _) _ _
      · exact idle (idle (idle h _ _) _ _) _ _

theorem qEmptied (h : MbxKept s t) (q : Nat) : MbxKept s (t.qEmptied q) :=
  ite (sendRequest (h.same (by rfl)) q false) (h.eqEmptied _)

theorem refusePtr (h : MbxKept s t) (p c a o : Nat) : MbxKept s (t.refusePtr p c a o) := MbxKept.event (h.same (by rfl)) ..

theorem dropChain (h : MbxKept s t) (p : Nat) : MbxKept s (t.dropChain p) := by
  unfold Dev.dropChain
  split
  · exact h
  · next c _ =>
    have hr : MbxKept s ((t.chargedTo p).foldl (fun s q => s.releaseQ q c.bufs.length (isOnDie p)) t) :=
      h.foldl fun d _ _ => (refl d).same (by rfl)
    exact ite (wf (hr.same (by rfl)) (by decide) ..) (ite (wf (hr.same (by rfl)) (by decide) ..) (hr.same (by rfl)))

theorem markChain (h : MbxKept s t) (p : Nat) : MbxKept s (t.markChain p) := ite h (h.same (by rfl))

theorem freeOwner (h : MbxKept s t) (p o a : Nat) : MbxKept s (t.freeOwner p o a) := by
  have hm := h.markChain p
  unfold Dev.freeOwner
  extract_lets u
  split
  · exact hm.refusePtr ..
  · split
    · exact hm
    · exact ite (MbxKept.event (hm.same (by rfl)) ..) (ite (hm.dropChain p) (hm.same (by rfl)))

theorem quarantineEnd (h : MbxKept s t) (e : Nat) : MbxKept s (t.quarantineEnd e) := ite (h.wf (by decide) ..) h

theorem houseOut (h : MbxKept s t) (e n : Nat) : MbxKept s (t.houseOut e n) := quarantineEnd (h.same (by rfl)) e

theorem freeCopy (h : MbxKept s t) (k : Pkt) (a : Nat) : MbxKept s (t.freeCopy k a) := (h.freeOwner ..).houseOut ..

theorem flushQ (h : MbxKept s t) (q : Nat) : MbxKept s (t.flushQ q (countFlushed q)) := by
  have hf : MbxKept s ((t.queue q).pkts.foldl (fun s k => countFlushed q (s.freeCopy k 3) k) (t.unstage fun z => z.queue == q)) :=
    (h.unstage _).foldl fun d k _ => ite (((refl d).freeCopy k 3).bump ..) ((refl d).freeCopy k 3)
  exact ite (hf.same (by rfl)) (qEmptied (hf.same (by rfl)) q)

theorem flushAll (h : MbxKept s t) : MbxKept s t.flushAll := h.foldl fun d q _ => (refl d).flushQ q

theorem leakQ (h : MbxKept s t) (q : Nat) : MbxKept s (t.leakQ q) := by
  have hf : MbxKept s ((t.queue q).pkts.foldl (fun s k => (s.bump bHBM 0x40 0 0 1).houseOut k.ticket.epoch.toNat 1)
      (t.unstage fun z => z.queue == q)) := (h.unstage _).foldl fun d k _ => ((refl d).bump ..).houseOut ..
  exact ite (hf.same (by rfl)) (qEmptied (hf.same (by rfl)) q)

theorem recountHbm (h : MbxKept s t) : MbxKept s t.recountHbm := ite h (h.wf (by decide) ..)

theorem stackOut (h : MbxKept s t) (k : Nat) : MbxKept s (t.stackOut k) := h.recountHbm.foldl fun d q _ => (refl d).leakQ q

/-! ### Ports that go down. -/

theorem pWf (h : MbxKept s t) {d : RegDesc} (hs : d.stride = 0x100) (h1 : 0x1000 ≤ d.off) (h2 : d.off < 0x3000) (p lo len v : Nat) :
    MbxKept s (t.pWf d p lo len v) := h.wg (mbxOff_port p hs h1 h2) _

theorem signalFault (h : MbxKept s t) (p : Nat) : MbxKept s (t.signalFault p) := ite h (emit (h.same (by rfl)) _)

theorem lanesDark (h : MbxKept s t) (p : Nat) : MbxKept s (t.lanesDark p) :=
  h.foldl fun d i _ => (refl d).pWf rfl (by decide) (by decide) ..

theorem watchDown (h : MbxKept s t) (p : Nat) : MbxKept s (t.watchDown p) := eventIf (h.same (by rfl)) ..

theorem genStop (h : MbxKept s t) (p : Nat) : MbxKept s (t.genStop p) := by
  have hg : MbxKept s (t.setGen p { t.gen p with running := false, issued := [] }) := h.same (by rfl)
  exact (hg.foldl fun d e _ => ite ((refl d).revokeVoq _) ((refl d).emit _)).eventIf ..

theorem rfPortDown (h : MbxKept s t) (p : Nat) : MbxKept s (t.rfPortDown p) := by
  unfold Dev.rfPortDown
  extract_lets x x' u
  split
  · exact h.same (by rfl)
  · exact ite ((pWf (h.same (by rfl)) rfl (by decide) (by decide) ..).event ..) (h.same (by rfl))

theorem holdExpire (h : MbxKept s t) (p : Nat) : MbxKept s (t.holdExpire p) := by
  have hf : MbxKept s (((t.pWf Reg.LNP_PORT_STATUS p 0 3 4).portQueues p).foldl (fun s q => s.flushQ q (countFlushed q))
      (t.pWf Reg.LNP_PORT_STATUS p 0 3 4)) := (h.pWf rfl (by decide) (by decide) ..).foldl fun d q _ => (refl d).flushQ q
  exact (MbxKept.event (hf.same (by rfl)) ..).event ..

theorem portDown (h : MbxKept s t) (p cause : Nat) : MbxKept s (t.portDown p cause) := by
  unfold Dev.portDown
  extract_lets x t1 t2 st t3 t4 t5 t6 t7 qs t8 t9
  have h1 : MbxKept s t1 := signalFault (h.same (by rfl)) p
  have h2 : MbxKept s t2 := ite (h1.lanesDark p) h1
  have h3 : MbxKept s t3 := h2.pWf rfl (by decide) (by decide) ..
  have h4 : MbxKept s t4 := h3.pWf rfl (by decide) (by decide) ..
  have h9 : MbxKept s t9 := ((((h4.bump ..).event ..).watchDown p).genStop p |>.unstage _).rfPortDown p
  exact ite h2 (ite h3 (ite (h9.holdExpire p) h9))

theorem stopDevice (h : MbxKept s t) : MbxKept s t.stopDevice := by
  refine ite h (flushAll ?_)
  refine foldl (foldl (h.wf (by decide) ..) fun d p _ => ?_) fun d l _ => ?_
  · exact ite (refl d) ((refl d).portDown p 9)
  · exact ite ((refl d).emit _) (refl d)

/-! ### Fabric lanes that leave service. -/

theorem dropLanePkt (h : MbxKept s t) (x : LanePkt) : MbxKept s (t.dropLanePkt x) := (freeOwner (h.same (by rfl)) ..).houseOut ..

theorem dropLane (h : MbxKept s t) (l : Nat) : MbxKept s (t.dropLane l) := foldl (h.same (by rfl)) fun d x _ => (refl d).dropLanePkt x

theorem declareUnreachable (h : MbxKept s t) (d : Nat) : MbxKept s (t.declareUnreachable d) :=
  (((h.foldl fun d v _ => (refl d).clipCredit v).unstage _).event ..).event ..

theorem refreshReach (h : MbxKept s t) : MbxKept s t.refreshReach :=
  (foldl (h.same (by rfl)) fun d x _ => (refl d).declareUnreachable x).eventIf ..

theorem laneFail (h : MbxKept s t) {l : Nat} (hl : l < 320) : MbxKept s (t.laneFail l) := by
  have hdrop := ((h.wg (mbxOff_laneInsvc (l / 32) (by omega))
    (Sys2Proof.setBit (t.rg Reg.FAB_LANE_INSVC 0 (l / 32)) (l % 32) false)).event bFAB 0).dropLane l
  have hpins {u : Dev} (hu : MbxKept s u) (pins : List Nat) : MbxKept s (pins.foldl (fun s h =>
      if (s.pin h).lane == l then s.setPin h { s.pin h with held := true, target := none } else s) u) :=
    hu.foldl fun d x _ => ite ((refl d).same (by rfl)) (refl d)
  have hmaps {u : Dev} (hu : MbxKept s u) : MbxKept s { u with tm := { u.tm with
      maps := u.tm.maps.filter fun e => e.1 / 256 != l, rxHeld := merase u.tm.rxHeld l, lfcSet := delKey u.tm.lfcSet l } } := hu.same (by rfl)
  have hfail := (hmaps (hpins hdrop (List.range 4096))).refreshReach
  unfold Dev.laneFail
  -- the list of pins stays a variable, so that nothing runs over its 4,096 elements
  generalize List.range 4096 = pins at hfail ⊢
  split
  · exact h
  · exact hfail

/-! ### Detections in a stack (R440, R441). -/

theorem isolateT (h : MbxKept s t) {r : Nat} (hr : r < 2) : MbxKept s (t.isolateT r) := by
  refine ite h.stopDevice (foldl (foldl (h.wf (by decide) ..) fun d k _ => ?_) fun d l hl => ?_)
  · exact ite ((refl d).stackOut _) (refl d)
  · exact (refl d).laneFail (by have := List.mem_range.mp hl; omega)

/-- The region of a stack is one of the T-die. -/
theorem isolateRegion_stack (t : Dev) {k : Nat} (hk : k < 8) : t.isolateRegion (stackUnit k) = t.isolateT (k / 4) := by
  have hreg : ¬ 2 ≤ (stackUnit k).reg := show ¬ 2 ≤ k / 4 by omega
  have hdie : ¬ ((stackUnit k).die == 0) = true := show ¬ (1 == 0) = true by decide
  rw [Dev.isolateRegion, if_neg hreg, if_neg hdie]
  rfl

/-- The scope beyond a stack is its region. -/
theorem isolateScope_stack (t : Dev) {k : Nat} (hk : k < 8) : t.isolateScope (stackUnit k) = t.isolateT (k / 4) := by
  have hcl : ¬ (stackUnit k).cl < 16 := show ¬ 31 < 16 by decide
  rw [Dev.isolateScope, if_neg hcl, isolateRegion_stack t hk]

/-- A stack is isolated alone. -/
theorem isolateUnit_stack (h : MbxKept s t) {k : Nat} (hk : k < 8) : MbxKept s (t.isolateUnit (stackUnit k)) := by
  have hr : k / 4 < 2 := by omega
  unfold Dev.isolateUnit
  generalize t.isolateScope (stackUnit k) = d
  simp only [stackUnit, hr]
  exact stackOut (h.same (by rfl)) _

/-- The reactions to a detection in a stack: the stack, its region or the device. -/
theorem applyReact_stack (h : MbxKept s t) (r : Nat) {k : Nat} (hk : k < 8) : MbxKept s (t.applyReact r (stackUnit k)) := by
  have hregion : MbxKept s (t.isolateT (k / 4)) := h.isolateT (by omega)
  unfold Dev.applyReact
  rw [isolateScope_stack t hk, isolateRegion_stack t hk]
  exact ite h (ite (h.isolateUnit_stack hk) (ite hregion (ite hregion h.stopDevice)))

theorem logDetect (h : MbxKept s t) (cls : Nat) (u : UnitId) (d0 d1 : W32) (ap : Bool) (n : Nat) : MbxKept s (t.logDetect cls u d0 d1 ap n) := by
  unfold Dev.logDetect
  extract_lets react ws src t1 t2 t3 t4 ring
  have h2 : MbxKept s t2 := h.same (by rfl)
  have h3 : MbxKept s t3 := ite (h2.bump ..) h2
  exact ite ((h3.event ..).record ..) (h3.event ..)

theorem endResync (h : MbxKept s t) (u : UnitId) : MbxKept s (t.endResync u) := ite (h.wf (by decide) ..) h

theorem detect_stack (h : MbxKept s t) (cls : Nat) {k : Nat} (hk : k < 8) (d0 d1 : W32) : MbxKept s (t.detect cls (stackUnit k) d0 d1) := by
  have h1 : MbxKept s (t.noteDetect cls (stackUnit k)).1 := h.same (by rfl)
  unfold Dev.detect Dev.detectWith
  generalize t.noteDetect cls (stackUnit k) = p at h1
  obtain ⟨t1, n⟩ := p
  have hl (ap : Bool) := (h1.endResync (stackUnit k)).logDetect cls (stackUnit k) d0 d1 ap n
  dsimp only
  exact ite ((hl _).applyReact_stack _ hk) (hl _)

end MbxKept
end Sys2Proof.Machine

/-! SUPPORT. The mailbox registers under an operation on an object (R59): what it reads and writes lies elsewhere. -/
namespace Sys2Proof.Machine
open Sys2Proof.Safety

namespace MbxKept
variable {s t : Dev}

/-! ### Accesses of the HBM, and statistics pairs. -/

theorem hbmErr (h : MbxKept s t) (c r a : Nat) (w : W32) : MbxKept s (t.hbmErr c r a w) := by
  have hk : a / 2 ^ 34 % 8 < 8 := Nat.mod_lt _ (by decide)
  have hl : MbxKept s (t.hbmLog c r a w) := h.same (by rfl)
  exact ite ((hl.bump ..).event ..) (ite (((hl.bump ..).event ..).detect_stack 12 hk ..) hl)

theorem statSet (h : MbxKept s t) (p : Nat) (v : Nat × Nat) : MbxKept s (t.statSet p v) := h.same (by rfl)

theorem statLost (h : MbxKept s t) (p : Nat) : MbxKept s (t.statLost p) :=
  (bump ((h.statSet p (0, 0)).same (by rfl)) ..).event ..

theorem statInvalid (h : MbxKept s t) (p c : Nat) : MbxKept s (t.statInvalid p c) := (h.hbmErr ..).statLost p

theorem touch (h : MbxKept s t) (a : Nat) : MbxKept s (t.touch a) := by
  have hc {p : Prop} [Decidable p] : MbxKept s (if p then t else t.count bHBM 0x14 0 1) := ite h (h.count ..)
  exact hc.same (by rfl)

theorem touchAll (h : MbxKept s t) (a n : Nat) (l : List Nat) : MbxKept s (t.touchAll a n l) := h.foldl fun d x _ => (refl d).touch x

theorem hbmRead (h : MbxKept s t) (a n : Nat) (p : Bool) (q : Option (Nat × Nat)) (l : List Nat) : MbxKept s (t.hbmRead a n p q l) :=
  (((h.bump ..).bump ..).touchAll a n l).count ..

theorem hbmWrite (h : MbxKept s t) (a n : Nat) (p : Bool) (q : Option (Nat × Nat)) (l : List Nat) : MbxKept s (t.hbmWrite a n p q l) :=
  (((h.bump ..).bump ..).touchAll a n l).count ..

theorem readPair (h : MbxKept s t) (i : Nat) (clear err : Bool) : MbxKept s (t.readPair i clear err).1 := by
  have hr := h.hbmRead (t.statAddr i) 16 false none []
  unfold Dev.readPair
  split
  · exact h
  · split
    · exact h.statInvalid ..
    · split
      · exact hr.statInvalid ..
      · exact ite ((hr.hbmWrite ..).statSet ..) hr

theorem setSta (h : MbxKept s t) (x : StaSt) : MbxKept s { t with sta := x } := h.same (by rfl)

theorem writePair (h : MbxKept s t) (i : Nat) (ws : List W32) : MbxKept s (t.writePair i ws) :=
  ((h.hbmWrite ..).statSet ..).setSta _

/-! ### Reads of objects. -/

theorem readCue (h : MbxKept s t) (o i n sub : Nat) : MbxKept s (t.readCue o i n sub).1 := by
  simp only [Dev.readCue, Dev.todRead, apply_ite Prod.fst, ite_self]
  exact ite h (ite h (ite (h.same (by rfl)) h))

theorem readLnp (h : MbxKept s t) (o i : Nat) : MbxKept s (t.readLnp o i).1 := by
  have hg {u : Dev} (hu : MbxKept s u) (k : Nat) : MbxKept s (u.fecGrow i k) := hu.same (by rfl)
  unfold Dev.readLnp
  split
  · exact hg (hg (hg h 0) 1) 2
  · split
    · exact h
    · split
      · exact h
      · split
        · extract_lets x
          split
          · exact h
          · exact h.same (by rfl)
        · exact h

theorem readExm (h : MbxKept s t) (o i : Nat) : MbxKept s (t.readExm o i).1 := by
  simp only [Dev.readExm, apply_ite Prod.fst]
  exact ite h (ite (ite (h.same (by rfl)) h) h)

theorem readEpp (h : MbxKept s t) (o i : Nat) : MbxKept s (t.readEpp o i).1 := by
  simp only [Dev.readEpp, apply_ite Prod.fst]
  exact ite (ite (h.same (by rfl)) h) h

theorem readQad (h : MbxKept s t) (o i : Nat) : MbxKept s (t.readQad o i).1 := by
  simp only [Dev.readQad, apply_ite Prod.fst]
  exact ite h (ite (h.same (by rfl)) (ite h h))

/-- Every other object is read without a change. -/
theorem objRead (h : MbxKept s t) (b o i n sub : Nat) : MbxKept s (t.objRead b o i n sub).1 := by
  simp only [Dev.objRead, apply_ite Prod.fst, ite_self]
  refine ite (h.readCue ..) (ite h (ite h (ite h (ite h (ite h (ite (h.readLnp ..) (ite h (ite h (ite h (ite h (ite h ?_)))))))))))
  exact ite (h.readExm ..) (ite h (ite (h.readEpp ..) (ite h (ite (h.readQad ..) h))))

theorem mbxRead (h : MbxKept s t) (b o i n sub : Nat) (err : Bool) : MbxKept s (t.mbxRead b o i n sub err).1 := by
  unfold Dev.mbxRead
  split
  · exact h.readPair ..
  · split
    · extract_lets x y
      have hx : MbxKept s x.1 := h.readPair ..
      have hy : MbxKept s y.1 := hx.readPair ..
      split
      · exact hx
      · split
        · exact hy
        · exact hy
    · split
      · exact h
      · exact h.objRead ..

/-! ### Writes of objects. -/

theorem objWrite (h : MbxKept s t) (b o i : Nat) (ws : List W32) : MbxKept s (t.objWrite b o i ws) := by
  have hw := h.writePair i ws
  have hstaged : MbxKept s (match objSub b o with
      | some k => (t.setObjWing b o i (maskWords b o ws)).wf Reg.WING_PEND 0 b k 1 1
      | none => t.setObj b o i (maskWords b o ws)) := by
    split
    · exact wf (h.same (by rfl)) (mbxOff_wingPend b) ..
    · exact h.same (by rfl)
  exact ite (h.same (by rfl)) (ite (h.same (by rfl)) (ite (ite (hw.writePair ..) hw) (ite (h.same (by rfl)) (ite (h.same (by rfl)) hstaged))))

/-- An operation that starts: whatever it reads or writes, the mailboxes stay. -/
theorem mbxStart (h : MbxKept s t) (held : Option Dev) (b op n o i sub : Nat) (ws : List W32) (err : Bool) :
    MbxKept s (t.mbxStart held b op n o i sub ws err).1 := by
  unfold Dev.mbxStart
  split
  · exact h
  · split
    · split
      · exact h
      · next l =>
        extract_lets r
        split
        · exact h
        · split
          · exact h
          · exact h.same (by rfl)
    · split
      · exact h
      · split
        · exact h
        · cases op == 1 with
          | true =>
            have hr := h.mbxRead b o i n sub err
            generalize t.mbxRead b o i n sub err = r at hr
            simp only [if_true]
            split
            · exact h
            · split
              · exact h
              · split
                · exact hr
                · exact hr
          | false =>
            simp only [Bool.false_eq_true, if_false]
            split
            · exact h
            · split
              · exact h
              · split
                · exact h
                · exact h.objWrite ..

end MbxKept
end Sys2Proof.Machine

/-! The mailbox interface: O10. -/
namespace Sys2Proof.Machine
open Sys2Proof.Safety

/-! ### Accesses that reach a register, and the mailboxes. -/

/-- A write that reaches its register acts on a device that has only noted, and whose mailboxes are those of before. -/
theorem gateWrite_reached_mbxKept {s : Dev} {q : Req} {d : RegDesc} {c i : Nat} (act : Dev → Bool → Dev) (h : Reached s q d c i) :
    ∃ u, Noted (disarmed s q) u ∧ MbxKept s u ∧ s.gateWrite q d c i act = act u (s.arming.get q) := by
  obtain ⟨h1, h2, h3⟩ := h
  have hk : MbxKept s (disarmed s q) := (MbxKept.refl s).same (by rfl)
  exact ⟨(disarmed s q).count (d.addr c i / windowSize) 1 (slotOf (d.addr c i)) 1 q.attr, noted_count .., hk.count ..,
    gate_reached (disarmed s q) q _ _ ((hostShut_disarmed s q q).trans h1) ((denied_disarmed s q _ _ _).trans h2)
      ((isFenced_disarmed s q q _).trans h3)⟩

/-- A read in the normal view that nothing denies reads its register on a device that has only noted, and whose mailboxes are those of before. -/
theorem accessRead_reached_mbxKept {s : Dev} {q : Req} {d : RegDesc} {c i : Nat} (h1 : s.hostShut q = false)
    (h2 : s.denied (readFrom q d c i) false true = none) (hr : regAt (d.addr c i) = some (d, c, i)) (ha : d.addr c i < 2 ^ 28)
    (hv : d.addr c i % windowSize < 0x400000) (hm : inMsix (d.addr c i) = false) :
    ∃ u, Noted s u ∧ MbxKept s u
      ∧ s.accessRead (readFrom q d c i) = (u.regRead q d c i false).1.emit (.readData q ((u.regRead q d c i false).2.zeroExtend 64)) := by
  have ea : (readFrom q d c i).addr.toNat = d.addr c i := writeTo_addr q d c i ha
  have en : (readFrom q d c i).normal = d.addr c i := by
    unfold Access.normal
    rw [ea, Nat.mod_eq_of_lt hv, Nat.mul_comm, Nat.div_add_mod]
  refine ⟨s.count (d.addr c i / windowSize) 1 (slotOf (d.addr c i)) 1 q.attr, noted_count .., (MbxKept.refl s).count .., ?_⟩
  have hq : (readFrom q d c i).req = q := rfl
  have hs : (readFrom q d c i).space = .bar0 := rfl
  unfold Dev.accessRead
  rw [hs]
  unfold Dev.barRead
  rw [hq, h1, ea, en, hr]
  simp only [hm, Option.isSome_some, Bool.true_or, h2, Bool.false_eq_true, if_false, decide_eq_false (Nat.not_le.mpr hv)]

/-! ### MBX_CMD (R60). -/

theorem exec_mbxRead (q : Req) (b : Fin 29) (count : Fin 8) (obj tag : Byte) (sub : Fin 128) (err : Bool) (s : State) :
    exec (.mbxRead q b count obj tag sub err) s
      = s.on fun d => d.mbxCmd s.latched q b (mbxWord 1 count obj.toNat tag.toNat) sub err := rfl

theorem exec_mbxWrite (q : Req) (b : Fin 29) (count : Fin 8) (obj tag : Byte) (s : State) :
    exec (.mbxWrite q b count obj tag) s = s.on fun d => d.mbxCmd s.latched q b (mbxWord 2 count obj.toNat tag.toNat) 0 false := rfl

theorem wordWrite_mbxCmd (s : Dev) (held : Option Dev) (q : Req) (b : Nat) (v : W32) :
    s.wordWrite held q Reg.MBX_CMD 0 b v = s.mbxCmd held q b v 0 false := by
  have hcmd : (Reg.MBX_CMD.is Reg.MBX_CMD && Reg.MBX_CMD.blk == 0) = true := rfl
  rw [Dev.wordWrite, if_pos hcmd]

/-- A write by address to MBX_CMD that reaches it is a mailbox command. -/
theorem exec_registerWrite_mbxCmd {s : State} {q : Req} {b : Fin 29} (v : W64) (h : Reached s.toDev q Reg.MBX_CMD 0 b) :
    exec (.registerWrite (writeTo q Reg.MBX_CMD 0 b) v) s = s.on fun d => d.mbxCmd s.latched q b (v.truncate 32) 0 false := by
  have hd := headerReg_mbxCmd
  have hs : (writeTo q Reg.MBX_CMD 0 b).space = .bar0 := rfl
  rw [exec_registerWrite]
  refine on_congr s ?_
  unfold Dev.accessWrite
  rw [hs]
  exact (barWrite_reached s.toDev s.latched q _ 0 b v h (hd.regAt b) (hd.addr_lt b) (hd.normalView b) (hd.not_inMsix b)).trans
    (wordWrite_mbxCmd ..)

/-- The OP of a mailbox command's word. -/
theorem fld_mbxWord_op (op count obj tag : Nat) : fld (mbxWord op count obj tag) 0 4 = fld (at_ 0 4 op) 0 4 := by
  refine fld_congr fun i hi => ?_
  have hb {n : Nat} (x y : BitVec n) (j : Nat) : bit (x ||| y) j = (bit x j || bit y j) := by simp [bit]
  have h0 (lo len v : Nat) (hlo : 4 ≤ lo) : bit (at_ lo len v) (0 + i) = false := by
    rw [bit_at _ _ _ _ (by omega)]
    simp [show ¬ lo ≤ i by omega]
  rw [mbxWord, hb, hb, hb, h0 4 3 _ (by decide), h0 8 8 _ (by decide), h0 16 8 _ (by decide), Bool.or_false, Bool.or_false, Bool.or_false]

/-- The commands that write MBX_CMD of block `b`, with their OP. -/
def WritesMbxCmd (q : Req) (b : Fin 29) (i : Instr) (op : Nat) : Prop :=
  (∃ count obj tag sub err, i = .mbxRead q b count obj tag sub err ∧ op = 1) ∨ (∃ count obj tag, i = .mbxWrite q b count obj tag ∧ op = 2)
    ∨ ∃ v : W64, i = .registerWrite (writeTo q Reg.MBX_CMD 0 b) v ∧ op = fld (v.truncate 32) 0 4

/-- Each of them writes a word with that OP. -/
theorem WritesMbxCmd.exec {s : State} {q : Req} {b : Fin 29} {i : Instr} {op : Nat} (hi : WritesMbxCmd q b i op)
    (h : Reached s.toDev q Reg.MBX_CMD 0 b) :
    ∃ v sub err, exec i s = (s.on fun d => d.mbxCmd s.latched q b v sub err) ∧ fld v 0 4 = op := by
  obtain ⟨count, obj, tag, sub, err, rfl, rfl⟩ | ⟨count, obj, tag, rfl, rfl⟩ | ⟨v, rfl, rfl⟩ := hi
  · exact ⟨_, _, _, exec_mbxRead .., fld_mbxWord_op 1 ..⟩
  · exact ⟨_, _, _, exec_mbxWrite .., fld_mbxWord_op 2 ..⟩
  · exact ⟨_, _, _, exec_registerWrite_mbxCmd v h, rfl⟩

section
variable {s : Dev} {q : Req} {b : Nat} (held : Option Dev) (v : W32) (sub : Nat) (err : Bool) (h : Reached s q Reg.MBX_CMD 0 b)
include h

/-- A mailbox command while BUSY is 1 sets OVERRUN alone. -/
theorem mbxCmd_busy (hb : s.rf Reg.MBX_STATUS 0 b 1 1 = 1) :
    ∃ u, Noted (disarmed s q) u ∧ MbxKept s u ∧ s.mbxCmd held q b v sub err = u.wf Reg.MBX_STATUS 0 b 3 1 1 := by
  obtain ⟨u, hu, hk, e⟩ := gateWrite_reached_mbxKept _ h
  refine ⟨u, hu, hk, e.trans (if_pos ?_)⟩
  rw [hk.rf (mbxOff_status b), hb]
  rfl

/-- A mailbox command while BUSY is 0 stores its word, clears VALID and ERROR, sets BUSY, and leaves an operation with its TAG and its
direction; what the operation does at its start keeps the mailboxes. -/
theorem mbxCmd_idle (hb : s.rf Reg.MBX_STATUS 0 b 1 1 = 0) :
    ∃ u d x, MbxKept ((Dev.storeRw u Reg.MBX_CMD 0 b v).wf Reg.MBX_STATUS 0 b 0 3 2) d ∧ x.tag = fld v 16 8 ∧ x.write = (fld v 0 4 == 2)
      ∧ s.mbxCmd held q b v sub err = { d with mbx := minsert (merase d.mbx b) b x } := by
  unfold Dev.mbxCmd
  obtain ⟨u, -, hk, e⟩ := gateWrite_reached_mbxKept _ h
  have hidle : ¬ (u.rf Reg.MBX_STATUS 0 b 1 1 == 1) = true := by
    rw [hk.rf (mbxOff_status b), hb]
    decide
  rw [e, if_neg hidle]
  refine ⟨u, _, _, ?_, ?_, ?_, rfl⟩
  · exact (MbxKept.refl _).mbxStart ..
  · rfl
  · rfl

end

/-- The fields of a word written to MBX_CMD that lie in OP, COUNT, OBJECT and TAG. -/
theorem fld_mbxCmd_value (old v : W32) {lo len : Nat} (hm : ∀ i < len, bit Reg.MBX_CMD.rw (lo + i) = true) :
    fld (writeValue Reg.MBX_CMD old v false) lo len = fld v lo len := by
  rw [writeValue_rw_w1c rfl rfl]
  refine fld_congr fun i hi => ?_
  have hbit : BitVec.getLsbD Reg.MBX_CMD.rw (lo + i) = true := hm i hi
  have hw1c : Reg.MBX_CMD.w1c = 0#32 := rfl
  simp [bit, hbit, hw1c]

/-- The operation just entered is the one found. -/
theorem find?_minsert_same {α : Type} (m : List (Nat × α)) (a : Nat) (v : α) : ((minsert m a v).find? fun e => e.1 == a) = some (a, v) := by
  induction m with
  | nil => simp [minsert]
  | cons e m ih =>
    obtain ⟨k, w⟩ := e
    unfold minsert
    split
    · simp
    · split
      · simp
      · next hne =>
        have hk : (k == a) = false := beq_eq_false_iff_ne.mpr fun h => hne h.symm
        simpa [List.find?_cons, hk] using ih

theorem mbxStatus_addr_ne_cmd (b : Nat) : Reg.MBX_CMD.addr 0 b ≠ Reg.MBX_STATUS.addr 0 b := by
  rw [headerReg_mbxCmd.addr_eq, headerReg_mbxStatus.addr_eq]
  simp [Reg.MBX_CMD, Reg.MBX_STATUS]

/-- What the fields of MBX_STATUS and MBX_CMD are once an operation has started. -/
theorem mbxStarted_fields {u d : Dev} {b : Nat} {v : W32} (h : MbxKept ((u.storeRw Reg.MBX_CMD 0 b v).wf Reg.MBX_STATUS 0 b 0 3 2) d) :
    d.rf Reg.MBX_STATUS 0 b 0 1 = 0 ∧ d.rf Reg.MBX_STATUS 0 b 2 1 = 0 ∧ d.rf Reg.MBX_STATUS 0 b 1 1 = 1
      ∧ d.rf Reg.MBX_CMD 0 b 0 4 = fld v 0 4 ∧ d.rf Reg.MBX_CMD 0 b 16 8 = fld v 16 8 := by
  have hst : d.rg Reg.MBX_STATUS 0 b = setFld ((u.storeRw Reg.MBX_CMD 0 b v).rg Reg.MBX_STATUS 0 b) 0 3 2 :=
    (h.rg (mbxOff_status b)).trans (Dev.rg_wg_same ..)
  have hcmd : d.rg Reg.MBX_CMD 0 b = writeValue Reg.MBX_CMD (u.rg Reg.MBX_CMD 0 b) v false :=
    (h.rg (mbxOff_cmd b)).trans ((Dev.rg_wg_ne _ _ _ _ _ _ _ _ (mbxStatus_addr_ne_cmd b)).trans (Dev.rg_wg_same ..))
  simp only [Dev.rf, hst, hcmd]
  refine ⟨?_, ?_, ?_, fld_mbxCmd_value _ _ (by decide), fld_mbxCmd_value _ _ (by decide)⟩
  · exact (fld_setFld_inside _ (by decide) (by decide) (by decide)).trans (by decide)
  · exact (fld_setFld_inside _ (by decide) (by decide) (by decide)).trans (by decide)
  · exact (fld_setFld_inside _ (by decide) (by decide) (by decide)).trans (by decide)

section
variable {s : State} {q : Req} {b : Fin 29} {i : Instr} {op : Nat} (hi : WritesMbxCmd q b i op) (h : Reached s.toDev q Reg.MBX_CMD 0 b)
include hi h

/-- While BUSY is 0 the operation starts. -/
theorem does_mbxCmd_idle (hb : s.rf Reg.MBX_STATUS 0 b 1 1 = 0) : Does i s fun t =>
    t.rf Reg.MBX_STATUS 0 b 0 1 = 0 ∧ t.rf Reg.MBX_STATUS 0 b 2 1 = 0 ∧ t.rf Reg.MBX_STATUS 0 b 1 1 = 1 ∧ t.rf Reg.MBX_CMD 0 b 0 4 = op
      ∧ ∃ x, t.mbx.find? (fun e => e.1 == b.val) = some (b.val, x) ∧ x.tag = t.rf Reg.MBX_CMD 0 b 16 8 ∧ x.write = (op == 2) := by
  obtain ⟨v, sub, err, hx, hop⟩ := hi.exec h
  obtain ⟨u, d, x, hk, htag, hwrite, e⟩ := mbxCmd_idle s.latched v sub err h hb
  have hk' : MbxKept ((u.storeRw Reg.MBX_CMD 0 b v).wf Reg.MBX_STATUS 0 b 0 3 2) { d with mbx := minsert (merase d.mbx b) b x } := hk.same (by rfl)
  obtain ⟨hvalid, herror, hbusy, hcmd, htag'⟩ := mbxStarted_fields hk'
  refine does_on hx ?_
  rw [e]
  exact ⟨hvalid, herror, hbusy, hcmd.trans hop, x, find?_minsert_same .., htag.trans htag'.symm, by rw [hwrite, hop]⟩

/-- While BUSY is 1 the command is discarded and sets OVERRUN. -/
theorem does_mbxCmd_busy (hb : s.rf Reg.MBX_STATUS 0 b 1 1 = 1) : Does i s fun t =>
    Noted ((disarmed s.toDev q).wf Reg.MBX_STATUS 0 b 3 1 1) t ∧ t.rf Reg.MBX_STATUS 0 b 3 1 = 1 ∧ t.mbx = s.mbx := by
  obtain ⟨v, sub, err, hx, -⟩ := hi.exec h
  obtain ⟨u, hu, hk, e⟩ := mbxCmd_busy s.latched v sub err h hb
  have hst : u.rg Reg.MBX_STATUS 0 b = (disarmed s.toDev q).rg Reg.MBX_STATUS 0 b := hk.rg (mbxOff_status b)
  refine does_on hx ?_
  rw [e]
  refine ⟨?_, ?_, hu.mbx⟩
  · rw [Dev.wf, Dev.wf, hst]
    exact hu.wg ..
  · rw [Dev.rf, Dev.wf, Dev.rg_wg_same]
    exact (fld_setFld_inside _ (by decide) (by decide) (by decide)).trans (by decide)

end

/-! ### MBX_DATA (R60). -/

theorem valueOnly_mbxData (k : Fin 8) : valueOnly (Reg.MBX_DATA k) = true := by
  revert k
  decide

theorem plainWrite_mbxData_busy {u : Dev} {q : Req} {k : Fin 8} {b : Nat} {v : W32} {armed : Bool} (hb : u.rf Reg.MBX_STATUS 0 b 1 1 = 1) :
    u.plainWrite q (Reg.MBX_DATA k) 0 b v armed = u := by
  have hrs : ((Reg.MBX_DATA k).rs != 0) = false := rfl
  have hcc : (Reg.MBX_DATA k).is Reg.CCX_CC_STATUS = false := rfl
  have hoff : ((Reg.MBX_DATA k).blk == 0 && decide (0x20 ≤ (Reg.MBX_DATA k).off) && decide ((Reg.MBX_DATA k).off < 0x40)) = true := by
    revert k
    decide
  simp only [Dev.plainWrite, hrs, hcc, hoff, hb, beq_self_eq_true, Bool.and_self, Bool.false_eq_true, if_false, if_true]

section
variable {s : State} {q : Req} {b : Fin 29} {k : Fin 8}

/-- A write of MBX_DATA that reaches it is a plain write, on a device that has only noted and whose mailboxes are those of before. -/
theorem does_mbxData {v : W64} {P : Dev → Prop} (h : Reached s.toDev q (Reg.MBX_DATA k) 0 b)
    (hp : ∀ u, Noted (disarmed s.toDev q) u → MbxKept s.toDev u → P (u.plainWrite q (Reg.MBX_DATA k) 0 b (v.truncate 32) (s.arming.get q))) :
    Does (.registerWrite (writeTo q (Reg.MBX_DATA k) 0 b) v) s P := by
  have hd := headerReg_mbxData k
  obtain ⟨u, hu, hk, e⟩ := gateWrite_reached_mbxKept (fun s armed => s.plainWrite q (Reg.MBX_DATA k) 0 b (v.truncate 32) armed) h
  refine does_on (registerWrite_plain s q _ 0 b v h (hd.regAt b) (hd.addr_lt b) (hd.normalView b) (hd.not_inMsix b) (wordWrite_mbxData ..)) ?_
  rw [Dev.gatePlain, e]
  exact hp u hu hk

theorem does_mbxData_busy {v : W64} (h : Reached s.toDev q (Reg.MBX_DATA k) 0 b) (hb : s.rf Reg.MBX_STATUS 0 b 1 1 = 1) :
    Does (.registerWrite (writeTo q (Reg.MBX_DATA k) 0 b) v) s fun t =>
      Noted (disarmed s.toDev q) t ∧ t.rg (Reg.MBX_DATA k) 0 b = s.rg (Reg.MBX_DATA k) 0 b := by
  refine does_mbxData h fun u hu hk => ?_
  rw [plainWrite_mbxData_busy ((hk.rf (mbxOff_status b) ..).trans hb)]
  exact ⟨hu, hk.rg (mbxOff_data k b)⟩

theorem does_mbxData_idle {v : W64} (h : Reached s.toDev q (Reg.MBX_DATA k) 0 b) (hb : s.rf Reg.MBX_STATUS 0 b 1 1 = 0) :
    Does (.registerWrite (writeTo q (Reg.MBX_DATA k) 0 b) v) s fun t =>
      Noted ((disarmed s.toDev q).wg (Reg.MBX_DATA k) 0 b (v.truncate 32)) t ∧ t.rg (Reg.MBX_DATA k) 0 b = v.truncate 32 := by
  refine does_mbxData h fun u hu hk => ?_
  have hidle : u.rf Reg.MBX_STATUS 0 b 1 1 = 0 := (hk.rf (mbxOff_status b) ..).trans hb
  rw [plainWrite_value (valueOnly_mbxData k) (by rw [hidle]; exact Bool.and_false _), writeValue_word rfl rfl rfl rfl]
  exact ⟨hu.wg .., Dev.rg_wg_same ..⟩

/-! ### Reads of MBX_DATA. -/

/-- MBX_DATA is no register whose value the device derives. -/
theorem derived_mbxData (u : Dev) (q : Req) (b : Nat) : ∀ k : Fin 8, u.derived q (Reg.MBX_DATA k) b 0 = none
  | 0 | 1 | 2 | 3 | 4 | 5 | 6 | 7 => rfl

/-- While VALID is 0 a free value. -/
theorem regRead_mbxData_void {u : Dev} (hv : u.rf Reg.MBX_STATUS 0 b 0 1 = 0) :
    u.regRead q (Reg.MBX_DATA k) 0 b false = (u.fresh.2, u.fresh.1.truncate 32) := by
  have hbit : bit (u.rg Reg.MBX_STATUS 0 b) 0 = false := by
    rw [Dev.rf, fld_one] at hv
    exact Bool.toNat_eq_zero.mp hv
  have hvoid : u.mbxVoid (Reg.MBX_DATA k) b = true := by
    rw [Dev.mbxVoid, hbit]
    revert k
    decide
  rw [Dev.regRead, if_pos hvoid]

/-- While VALID is 1 the word stored. -/
theorem regRead_mbxData_valid {u : Dev} (hv : u.rf Reg.MBX_STATUS 0 b 0 1 = 1) :
    u.regRead q (Reg.MBX_DATA k) 0 b false = (u, u.rg (Reg.MBX_DATA k) 0 b) := by
  have hbit : bit (u.rg Reg.MBX_STATUS 0 b) 0 = true := by
    rw [Dev.rf, fld_one] at hv
    exact Bool.toNat_eq_one.mp hv
  have hvoid : u.mbxVoid (Reg.MBX_DATA k) b = false := by
    rw [Dev.mbxVoid, hbit, Bool.not_true, Bool.and_false]
  have hder : u.derived q (Reg.MBX_DATA k) b 0 = none := derived_mbxData u q b k
  have hval : u.regValue q (Reg.MBX_DATA k) 0 b false = u.rg (Reg.MBX_DATA k) 0 b := by
    have hrs : (Reg.MBX_DATA k).rs = 0 := rfl
    have hwo : (Reg.MBX_DATA k).wo = 0 := rfl
    simp [Dev.regValue, hder, hrs, hwo]
  have hrc : ((Reg.MBX_DATA k).rc == 0) = true := rfl
  simp only [Dev.regRead, hvoid, hval, hrc, Bool.or_true, Bool.false_eq_true, if_false, if_true]

variable (h1 : s.hostShut q = false) (h2 : s.denied (readFrom q (Reg.MBX_DATA k) 0 b) false true = none)
include h1 h2

/-- A read of MBX_DATA that nothing denies reads on a device that has only noted and whose mailboxes are those of before. -/
theorem accessRead_mbxData : ∃ u, Noted s.toDev u ∧ MbxKept s.toDev u ∧ s.accessRead (readFrom q (Reg.MBX_DATA k) 0 b)
    = (u.regRead q (Reg.MBX_DATA k) 0 b false).1.emit (.readData q ((u.regRead q (Reg.MBX_DATA k) 0 b false).2.zeroExtend 64)) := by
  have hd := headerReg_mbxData k
  exact accessRead_reached_mbxKept h1 h2 (hd.regAt b) (hd.addr_lt b) (hd.normalView b) (hd.not_inMsix b)

theorem does_read_mbxData_void (hv : s.rf Reg.MBX_STATUS 0 b 0 1 = 0) : Does (.registerRead (readFrom q (Reg.MBX_DATA k) 0 b)) s fun t =>
    Sent s.toDev t (.readData q (((Config.freeBits s.freeCtr).truncate 32 : W32).zeroExtend 64)) ∧ Noted { s.toDev with freeCtr := s.freeCtr + 1 } t := by
  obtain ⟨u, hu, hk, e⟩ := accessRead_mbxData h1 h2
  have hvoid : u.rf Reg.MBX_STATUS 0 b 0 1 = 0 := (hk.rf (mbxOff_status b) ..).trans hv
  refine does_on (exec_registerRead ..) ?_
  rw [e, regRead_mbxData_void hvoid, Dev.fresh_value, hu.freeCtr]
  exact ⟨sent_emit hu.out _, (hu.map (fun d => d.fresh.2) (fun _ => rfl) (fun _ => rfl) (fun _ => rfl)).emit _⟩

theorem does_read_mbxData_valid (hv : s.rf Reg.MBX_STATUS 0 b 0 1 = 1) : Does (.registerRead (readFrom q (Reg.MBX_DATA k) 0 b)) s fun t =>
    Sent s.toDev t (.readData q ((s.rg (Reg.MBX_DATA k) 0 b).zeroExtend 64)) ∧ Noted s.toDev t := by
  obtain ⟨u, hu, hk, e⟩ := accessRead_mbxData h1 h2
  have hvalid : u.rf Reg.MBX_STATUS 0 b 0 1 = 1 := (hk.rf (mbxOff_status b) ..).trans hv
  refine does_on (exec_registerRead ..) ?_
  rw [e, regRead_mbxData_valid hvalid, hk.rg (mbxOff_data k b)]
  exact ⟨sent_emit hu.out _, hu.emit _⟩

end

/-- Settles O10: a command to a busy or an idle mailbox, a write of MBX_DATA to a busy or an idle one, a read of it without or with VALID. -/
theorem mailboxBusy : Obligations.MailboxBusy := by
  unfold Obligations.MailboxBusy
  refine fun s q b => ⟨fun i op h hi => ⟨?_, ?_⟩, fun k v h => ⟨?_, ?_⟩, fun k h1 h2 => ⟨?_, ?_⟩⟩
  · exact does_mbxCmd_idle hi h
  · exact does_mbxCmd_busy hi h
  · exact does_mbxData_busy h
  · exact does_mbxData_idle h
  · exact does_read_mbxData_void h1 h2
  · exact does_read_mbxData_valid h1 h2

end Sys2Proof.Machine

/-! Admission thresholds: O38. -/
namespace Sys2Proof.Machine

/-! ### ALPHA decoded (R260). -/

theorem overAlpha_zero (e f : Nat) : overAlpha 0 e f = true := rfl

theorem overAlpha_of_pos {a : Nat} (h : 0 < a) (e f : Nat) : overAlpha a e f = decide (f * 2 ^ min 12 a ≤ e * 2 ^ 8) := by
  rw [overAlpha, beq_false_of_ne (Nat.ne_of_gt h), if_neg Bool.false_ne_true]

/-- ALPHA below 8 is a fraction: the excess is scaled up instead. -/
theorem overAlpha_of_lt_eight {k : Nat} (h1 : 1 ≤ k) (h8 : k < 8) (e f : Nat) : overAlpha k e f = decide (f ≤ e * 2 ^ (8 - k)) := by
  have hscale : e * 2 ^ 8 = e * 2 ^ (8 - k) * 2 ^ k := by rw [Nat.mul_assoc, Nat.pow_sub_mul_pow 2 (Nat.le_of_lt h8)]
  rw [overAlpha_of_pos h1, Nat.min_eq_right (by omega : k ≤ 12), hscale]
  exact decide_eq_decide.mpr (Nat.mul_le_mul_right_iff (Nat.two_pow_pos k))

/-- ALPHA from 8 to 12 is a power of two: what the pool can take is scaled up. -/
theorem overAlpha_of_eight_le {k : Nat} (h8 : 8 ≤ k) (h12 : k ≤ 12) (e f : Nat) : overAlpha k e f = decide (f * 2 ^ (k - 8) ≤ e) := by
  have hscale : f * 2 ^ k = f * 2 ^ (k - 8) * 2 ^ 8 := by rw [Nat.mul_assoc, Nat.pow_sub_mul_pow 2 h8]
  rw [overAlpha_of_pos (by omega), Nat.min_eq_right h12, hscale]
  exact decide_eq_decide.mpr (Nat.mul_le_mul_right_iff (Nat.two_pow_pos 8))

/-- ALPHA above 12 acts as 12. -/
theorem overAlpha_of_twelve_le {a : Nat} (h : 12 ≤ a) (e f : Nat) : overAlpha a e f = overAlpha 12 e f := by
  rw [overAlpha_of_pos (by omega), overAlpha_of_pos (by decide), Nat.min_eq_left h, Nat.min_self]

/-! ### The judgement (R259). -/

/-- R259 over its numbers: queue limit `drop`, depth `d`, queue reserve `m`, what the pool can take `room`, and ALPHA `a`. -/
def admission (drop d m room a : Nat) : Option Refuse :=
  if drop ≤ d then some .limit
  else if d < m then none
  else if room = 0 ∨ overAlpha a (d - m) room = true then some .threshold
  else none

theorem judge_eq_admission (s : Dev) (q t : Nat) {c : Nat} (hc : c < 3) {prof : Nat} (hprof : prof = fld (s.qmap q t) 8 6) :
    s.judge q c t = admission (thresh (word (s.cfgObj t bQAD 0x11 prof) (3 + c))) (s.queue q).depth (thresh (word (s.cfgObj t bQAD 0x10 prof) 0))
      (s.poolRoom (fld (s.qmap q t) 0 4)) (wfld (s.cfgObj t bQAD 0x10 prof) 2 (4 * c) 4) := by
  subst hprof
  simp only [Dev.judge, admission, Nat.min_eq_left (Nat.le_of_lt_succ hc), Bool.or_eq_true, beq_iff_eq]

section
variable {drop d m room a : Nat}

theorem admission_limit (h : drop ≤ d) : admission drop d m room a = some .limit := if_pos h

variable (hd : d < drop)
include hd

theorem admission_reserve (hm : d < m) : admission drop d m room a = none := by
  rw [admission, if_neg (Nat.not_le.mpr hd), if_pos hm]

variable (hm : m ≤ d)
include hm

/-- Past the queue's reserve the pool and α decide. -/
theorem admission_excess :
    admission drop d m room a = if room = 0 ∨ overAlpha a (d - m) room = true then some .threshold else none := by
  rw [admission, if_neg (Nat.not_le.mpr hd), if_neg (Nat.not_lt.mpr hm)]

theorem admission_threshold (h : room = 0 ∨ a = 0) : admission drop d m room a = some .threshold := by
  rw [admission_excess hd hm]
  refine if_pos (h.imp_right fun ha => ?_)
  rw [ha, overAlpha_zero]

/-- While the pool has room, α alone decides. -/
theorem admission_alpha {p : Prop} [Decidable p] (hr : 0 < room) (hα : overAlpha a (d - m) room = decide p) :
    admission drop d m room a = if p then some .threshold else none := by
  rw [admission_excess hd hm, hα]
  simp only [Nat.ne_of_gt hr, false_or, decide_eq_true_eq]

end

/-- Settles O38: R259 by its order of rules, with ALPHA decoded in each of its ranges. -/
theorem admissionThresholds : Obligations.AdmissionThresholds := by
  unfold Obligations.AdmissionThresholds
  intro s q c t prof a d m room hc hprof ha hd hm hroom
  rw [judge_eq_admission s q t hc hprof, ← ha, ← hd, ← hm, ← hroom]
  refine ⟨admission_limit, fun hlt => ⟨admission_reserve hlt, fun hle => ⟨admission_threshold hlt hle, fun hr => ⟨?_, ?_, ?_⟩⟩⟩⟩
  · intro k h1 h8 hk
    exact admission_alpha hlt hle hr (hk ▸ overAlpha_of_lt_eight h1 h8 ..)
  · intro k h8 h12 hk
    exact admission_alpha hlt hle hr (hk ▸ overAlpha_of_eight_le h8 h12 ..)
  · intro h13
    have h12 : overAlpha a (d - m) room = overAlpha 12 (d - m) room := overAlpha_of_twelve_le (by omega) ..
    exact admission_alpha hlt hle hr (h12.trans (overAlpha_of_eight_le (k := 12) (by decide) (Nat.le_refl 12) ..))

end Sys2Proof.Machine
